-- ==== Sys2Proof/Word.lean ====
section
/-!
DEFINITION. The words of the KR-9600 (R5, R6, R7, R57): 64 data bits, an 8-bit tag byte split into a type tag
(bits 5:0) and collector bits (bits 7:6), and the poison mark of R58.
-/

namespace Sys2Proof

/-- One 64-bit word of data bits (R57). -/
abbrev Word := BitVec 64

/-- One byte (R5). -/
abbrev Byte := BitVec 8

/-- A tagged word of 72 bits with its poison mark (R57, R58, R78). -/
structure TWord where
  /-- the 64 data bits -/
  data : Word
  /-- the type tag, tag byte bits 5:0 -/
  tag : BitVec 6
  /-- the collector bits, tag byte bits 7:6 -/
  col : BitVec 2
  /-- the word is poisoned (R58) -/
  poison : Bool
  deriving DecidableEq, Repr

/-- RAW zero with collector bits 0b00 (R60, R62). -/
def TWord.raw0 : TWord := ⟨0, 0, 0, false⟩

/-- A word of given tag and data with collector bits 0b00. -/
def TWord.mk0 (tag : BitVec 6) (data : Word) : TWord := ⟨data, tag, 0, false⟩

/-- The 8-bit tag byte of a word (R57). -/
def TWord.tagByte (w : TWord) : Byte := w.col ++ w.tag

/-- The type tags of R60 by name. -/
abbrev tagRAW : BitVec 6 := 0x00
abbrev tagFIX : BitVec 6 := 0x01
abbrev tagFLO : BitVec 6 := 0x02
abbrev tagCHR : BitVec 6 := 0x03
abbrev tagNIL : BitVec 6 := 0x04
abbrev tagTRU : BitVec 6 := 0x05
abbrev tagUNB : BitVec 6 := 0x06
abbrev tagHDR : BitVec 6 := 0x07
abbrev tagCONS : BitVec 6 := 0x08
abbrev tagFWD : BitVec 6 := 0x10
abbrev tagDEC : BitVec 6 := 0x11
abbrev tagCAPL : BitVec 6 := 0x12
abbrev tagCAPH : BitVec 6 := 0x13
abbrev tagCODE : BitVec 6 := 0x14

/-- R60: the values 0x15 to 0x2F are reserved and cannot exist. -/
def tagReserved (t : BitVec 6) : Bool := decide (0x15 ≤ t.toNat ∧ t.toNat ≤ 0x2F)

/-- RAW of a value, collector bits 0b00. -/
def TWord.ofRaw (v : Word) : TWord := .mk0 tagRAW v
/-- FIX of a value, collector bits 0b00. -/
def TWord.ofFix (v : Word) : TWord := .mk0 tagFIX v
/-- CODE of an address, collector bits 0b00. -/
def TWord.ofCode (v : Word) : TWord := .mk0 tagCODE v
/-- NIL holds zero (R60). -/
def TWord.nil : TWord := .mk0 tagNIL 0

end Sys2Proof
end

