-- ==== Sys2Proof/Config.lean ====
section
/-!
DEFINITION. What the spec leaves open: constants and free values of the configuration. Each is opaque: no proof can see a
value of it, so a claim holds whatever it is. The assumption log names each.
-/

namespace Sys2Proof

/-- What the bulk copy of R465 carries: the entries that are not FREE (unit, index, words), payloads (unit, place, bytes),
outbound and inbound next numbers and the epochs. -/
structure BulkImage where
  entries : List (Nat × Nat × List Word)
  payloads : List (Nat × Nat × List Byte)
  oseqs : List Nat
  iseqs : List Nat
  epochs : List Nat
  deriving DecidableEq, Repr, Inhabited

end Sys2Proof

namespace Sys2Proof.Config

/-- The n-th free word: a value that the spec leaves open, drawn by the step that needs it. Assumption 6 (DESIGN CHOICE). -/
opaque freeWord : Nat → Word

/-- R170: the reciprocal approximation that FDINIT writes for a 64-bit normalised significand. Only its relative error is
bounded; Machine.Fp uses the value where it keeps the bound. Assumption 18 (DEDUCED). -/
opaque recipInit : Word → Word

/-- R170: the reciprocal square-root approximation that FSQINIT writes (significand, whether it lies in [2, 4)).
Assumption 18 (DEDUCED). -/
opaque rsqrtInit : Word → Bool → Word

/-- R170: whether a step instruction rounds its fixed-point product up; the rounding is not stated.
Assumption 18 (DEDUCED). -/
opaque stepRoundUp : Word → Word → Bool

/-- R170: the result of a step instruction whose exact value lies outside the fixed-point format. Assumption 18 (DEDUCED). -/
opaque stepWild : Word → Word → Word

/-- R256: how a record names a set and a way; R529 gives the layout no place. Assumption 27 (DEDUCED). -/
opaque dirWay : Nat → Nat → Word

/-- R235: the entry of the event routine in the Selaufen image of an engine; the spec does not give its microaddress.
Assumption 85 (DESIGN CHOICE). -/
opaque eventEntry : Nat

/-- R492, R497, R503: the verdict of FIPS 204 ML-DSA-87 verification of a signature over a message with a context
string under a public key. Assumption 66 (DESIGN CHOICE). -/
opaque mldsaVerify : (key msg ctx sig : List Byte) → Bool

/-- R287: the 128-bit signature of what an interval put out, and the digest of the registers; their functions are not
stated. Assumption 86 (DESIGN CHOICE). -/
opaque pairSignature : List Nat → BitVec 128
/-- Assumption 86 (DESIGN CHOICE). -/
opaque registerDigest : List Nat → Nat

/-- R495, R500: the ML-DSA-87 signature that the device makes over a message with a context string with its identity
key. Assumption 66 (DESIGN CHOICE). -/
opaque mldsaSign : (msg ctx : List Byte) → List Byte

/-- R494: the device's unique secret, fused in MANUFACTURE; no initiator reads it. Assumption 66 (DESIGN CHOICE). -/
opaque uds : List Byte

/-- R494: the public half of the device identity key derived from the secret. Assumption 66 (DESIGN CHOICE). -/
opaque dikPublic : List Byte

/-- R495: the certificate written in MANUFACTURE. Assumption 66 (DESIGN CHOICE). -/
opaque identityCert : List Byte

/-- R488: the SHA3-384 digests of the two Selaufen public keys, fixed in silicon: image key, identity CA key. -/
opaque selaufenImageKeyDigest : List Byte
opaque selaufenCaKeyDigest : List Byte

/-- R499: the key-store table of owner and debug keys whose digest slot 13 takes: the device, then partitions 0 to 7; its
layout is not stated. Assumption 69 (DESIGN CHOICE). -/
opaque keyTable : List (Option (List Byte) × Option (List Byte)) → List Byte

/-- R3, R567: the serial number of the part, two words of eight characters, read from fuses. -/
opaque serial : Nat → Word

/-- R497: the n-th challenge that Esfort draws. -/
opaque challenge : Nat → List Byte

/-- R414: word i of the n-th job state sealed in a resume area, under a key drawn afresh at every IOD reset.
Assumption 50 (DESIGN CHOICE). -/
opaque sealWord : Nat → Nat → Word

/-- R453, R465: how the bulk copy is laid out in chunks of at most 8,192 bytes, and what a receiver reads from them; the
layout is not stated. Assumption 59 (DESIGN CHOICE). -/
opaque bulkEncode : BulkImage → List (List Byte)
/-- Assumption 59 (DESIGN CHOICE). -/
opaque bulkDecode : List (List Byte) → BulkImage

/-- R408: the DEFLATE bytes of a non-stored strategy for level, strategy and input; the hash and the code construction
are not stated, so any bytes that inflate to the input are allowed. Assumption 52 (DESIGN CHOICE). -/
opaque deflateBytes : (level strat : Nat) → List Byte → List Byte

end Sys2Proof.Config
end

