-- ==== Sys2Proof/Machine/RegMap.lean ====
section
/-!
DEFINITION. The register space of PF0 BAR0 (R561): which locations are defined and the fields of each, with the access
code of R8 and the reset entry of R13. A location without an entry is reserved (R562); a bit outside every field of its
location is a reserved bit (R11).
-/

namespace Sys2Proof.Machine

/-- The access codes of R8. -/
inductive Acc where
  | ro | rw | w1c | w1s | wo | rwl | rwk
  deriving DecidableEq, Repr

/-- The reset entries of R13: a value, S (strap or fuse), or G with the value in the default generation (R519). -/
inductive Rst where
  | val (v : Nat)
  | s
  | g (dflt : Nat)
  deriving DecidableEq, Repr

/-- One field of a register: bits hi:lo, access code, reset entry. -/
structure Fld where
  hi : Nat
  lo : Nat
  acc : Acc
  rst : Rst
  deriving DecidableEq, Repr

/-- A field that reads only, with a reset value. -/
def fro (hi lo : Nat) (v : Nat := 0) : Fld := ⟨hi, lo, .ro, .val v⟩
/-- A field that reads only and that a generation loads. -/
def frog (hi lo : Nat) : Fld := ⟨hi, lo, .ro, .g 0⟩
/-- An RW field. -/
def frw (hi lo : Nat) : Fld := ⟨hi, lo, .rw, .val 0⟩
/-- A W1C field. -/
def fw1c (hi lo : Nat) : Fld := ⟨hi, lo, .w1c, .val 0⟩
/-- A W1S field. -/
def fw1s (hi lo : Nat) : Fld := ⟨hi, lo, .w1s, .val 0⟩
/-- A WO field. -/
def fwo (hi lo : Nat) : Fld := ⟨hi, lo, .wo, .val 0⟩
/-- An RW/L field with reset G. -/
def frwl (hi lo : Nat) (d : Nat := 0) : Fld := ⟨hi, lo, .rwl, .g d⟩
/-- An RW/K field with reset G. -/
def frwk (hi lo : Nat) (d : Nat := 0) : Fld := ⟨hi, lo, .rwk, .g d⟩
/-- An RW/K field with a reset value. -/
def frwkv (hi lo : Nat) (v : Nat) : Fld := ⟨hi, lo, .rwk, .val v⟩

/-! The layouts, by register. -/

/-- TCK_CTL (chapter 02). -/
def lTckCtl : List Fld := [frwkv 3 3 0, frwk 2 0]
def lTckTimer : List Fld := [frwk 26 0]
/-- TCK_FILT; the default generation holds TMIN 1, TMAX 1,048,575 and COAST_MAX 0 (R519). -/
def lTckFilt : List Fld := [frwk 47 40, frwk 39 20 1048575, frwk 19 0 1]
def lTckIn : List Fld := [frwk 31 16, frwk 2 2, frwk 1 1, frwk 0 0]
def lTckStat : List Fld := [fw1c 11 11, fw1c 10 10, fw1c 9 9, fw1c 8 8, fro 2 0]
def lTckNum : List Fld := [frwkv 47 0 0]
def lRo64 : List Fld := [fro 63 0]
def lTckPeriod : List Fld := [fro 26 0]
def lTckOut : List Fld := [frwk 32 32, frwk 31 16, frwk 15 0]
def lTckPort : List Fld := [frwl 63 32, frwl 3 2, frwl 1 0]
def lTckPart : List Fld := [fw1s 63 63, frwl 43 40, frwl 39 32, frwl 23 0]
/-- PRT registers (chapters 03, 09, 11, 17). -/
def lPrtCtl : List Fld := [frwl 63 63, frwl 15 0]
def lPrtStat : List Fld := [fro 39 32, fro 31 16, fro 11 11, fro 10 10, fro 9 9, fro 8 8, fro 2 0]
def lTagClass : List Fld := [frwl 15 0]
def lRdt : List Fld := [frwk 63 48, frwk 45 0]
def lL3Mask : List Fld := [frwkv 47 32 0, frwk 31 16, frwk 15 0]
def lPrtCmd : List Fld := [fwo 10 8, fwo 2 0]
def lCring : List Fld := [frwl 63 12, frwl 11 8, frwl 5 5, frwl 4 0]
def lCridx : List Fld := [frw 63 32, fro 31 0]
def lCstart : List Fld := [frwl 63 13, frwl 8 0]
def lDb : List Fld := [fwo 7 0]
/-- ESF registers (chapter 18). -/
def lEsfStat : List Fld :=
  [fro 47 32, fro 31 28, fro 19 12, fro 11 11, fro 7 6, ⟨3, 0, .ro, .s⟩]
def lEsfSvn : List Fld := [frog 63 48, frog 47 32, frog 31 16, frog 15 0]
/-- CFG registers (chapter 19). -/
def lCfgStart : List Fld := [fro 55 48, fro 47 40, fro 3 0]
def lCfgStat : List Fld := [fro 63 40, fro 39 36 0xF, fro 35 32, fro 27 4, fro 2 0 5]
def lCfgCmd : List Fld := [fwo 3 0]
def lCfgSrc : List Fld := [frw 63 52, frw 51 6]
def lCfgGen : List Fld := [fro 63 63, fro 47 32, fro 31 0]
/-- TWN registers (chapters 16, 23). -/
def lTwnCtl : List Fld := [frwl 39 32, frwl 31 16, frwl 9 7, frwl 6 5, frwl 1 1, frwl 0 0]
def lTwnStat : List Fld :=
  [fro 47 40, fro 34 32, fw1c 13 13, fw1c 12 12, fw1c 11 11, fw1c 10 10, fw1c 9 9, fro 8 8, fro 7 7, fro 6 6,
   ⟨5, 5, .ro, .s⟩, fro 3 0 1]
def lTwnCmd : List Fld := [fwo 3 0]
def lLane : List Fld := [frwl 21 16, frwl 13 8, frwl 5 0]
/-- ERR registers (chapter 20). -/
def lErrCtl : List Fld := [frwk 10 8, frwk 6 4]
def lErrIdx : List Fld := [frw 63 32, fro 31 0]
def lErrSpill : List Fld := [frwk 51 16, frwk 4 0]
def lErrSpillStat : List Fld := [fro 20 0]
def lErrCap : List Fld := [fw1c 1 1, fw1c 0 0]
def lErrPidx : List Fld := [frw 63 48, frw 31 16, fro 15 0]
def lErrLost : List Fld := [frw 31 0]
/-- NOC registers (chapters 15, 20). -/
def lNocLink : List Fld := [frog 30 16, frog 14 0]
def lNocRoute : List Fld := [fro 9 9, frwkv 8 8 0, fro 7 0]
def lNocSnap : List Fld := [fro 63 16, frwk 1 1, fw1s 0 0]
def lProbeCtl : List Fld := [frwkv 12 12 0, frwkv 10 8 0, frwkv 6 1 0, frwkv 0 0 0]
def lRwk64 : List Fld := [frwkv 63 0 0]
/-- Event-counter format (R540): OVF in bit 63, the value in bits 47:0. -/
def lCounter : List Fld := [frw 63 63, frw 47 0]
def lRouter : List Fld := [fro 28 24, frog 20 16, frwk 12 8, fro 4 0]
def lNiCtl : List Fld := [frwkv 1 0 0]
def lNiStat : List Fld := [fro 31 16, fro 15 8, fro 0 0]
def lNiBucket : List Fld := [frwl 19 0]
def lNiRt : List Fld := [frog 63 63, frog 47 0]
def lNiRts : List Fld := [frwk 63 63, frwk 47 0]
/-- Core-site registers (chapters 08, 09, 10, 20, 23). -/
def lMcStat : List Fld :=
  [frog 63 48, frog 47 32, fw1c 7 7, fw1c 6 6, fw1c 5 5, fw1c 4 4, fw1c 3 3, frog 0 0]
def lL2Ctl : List Fld := [frwkv 2 1 0, frwk 0 0]
def lL3Ctl : List Fld := [frwk 31 16, frwkv 2 1 0, frwk 0 0]
def lCacheStat : List Fld := [fw1c 3 3, fro 2 2, fro 0 0]
def lL2Lock : List Fld := [frwkv 31 16 0, frwk 15 0]
def lBind : List Fld := [fro 31 24, fro 19 16 0xF, fro 11 8, fro 2 0]
def lMck : List Fld := [fro 63 32, fro 8 8, fro 3 0]
def lClk : List Fld := [fro 23 16 0x30, fro 15 8 0xB8, frwk 7 0]
def lPwrState : List Fld := [fro 1 0]
def lCdt : List Fld :=
  [frog 63 63, frog 62 62, frog 61 61, frog 60 60, frog 51 50, frog 49 48, frog 47 46, frog 45 45, frog 44 44,
   frog 13 0]
/-- MSC and CMP registers (chapters 09, 10). -/
def lMscCtl : List Fld := [frwk 16 16, frwk 15 0]
def lCmpCtl : List Fld := [frwl 31 16, frwl 15 8]
def lCmpPair : List Fld := [frwl 63 63, frwl 62 62, frwl 61 61, fwo 60 60, frwl 35 32, frwl 4 0]
def lCmpPstat : List Fld :=
  [fro 57 49, fro 48 36, fro 35 32 0xF, fro 20 16 0x1F, fw1c 9 9, fw1c 8 8, fro 3 0]
def lCmpUnit : List Fld := [fro 7 4 0xF, fro 2 0]
/-- Channel-engine registers (chapter 11). -/
def lCeCtl : List Fld := [frwl 8 8, fw1s 1 1, frwk 0 0]
def lCeStat : List Fld := [fro 39 32, fro 23 16, fro 15 8, fro 2 0]
def lCeCancel : List Fld := [fwo 23 20, fwo 16 16, fwo 15 0]
def lCeResv : List Fld := [frwl 63 44, frwl 43 32, frwl 31 8]
/-- Sixteen 4-bit owner fields; the default generation holds 0xF in each (R519). -/
def lOwners : List Fld := (List.range 16).map fun j => frwl (4 * j + 3) (4 * j) 0xF
def lCdisp : List Fld := [frwl 63 63, frwl 13 0]
def lPace : List Fld := [frwl 63 63, frwl 13 0]
/-- Port and Towpath registers (chapters 13, 23). -/
def lPortCtl : List Fld := [frwl 31 16, fw1s 8 8, frwl 7 6, frwl 5 3, frwl 2 1, frwk 0 0]
def lPortStat : List Fld := [frog 47 32, fro 23 20, fro 19 12, fw1c 3 3, fro 2 0]
def lPortCredit : List Fld := [fro 47 24, fro 23 0 3072]
def lTowCtl : List Fld := [frwl 47 32, frwl 3 3, frwkv 2 2 1, frwk 0 0]
def lTowInt : List Fld := [frwl 39 32, frwl 31 16, frwl 1 1, frwl 0 0]
def lTowIntStat : List Fld := [fw1c 31 28, fw1c 27 24, fw1c 23 20, fro 19 16]
/-- CIP and CMZ registers (chapter 14). -/
def lCipStat : List Fld := [frog 7 0]
def lCmzStat : List Fld := [frog 15 8, frog 7 0]
def lCipPart : List Fld := [frwl 47 32, frwl 7 0]
def lCmzPart : List Fld := [frwl 47 32, frwl 15 8, frwl 7 0]
/-- JNL registers (chapter 12). -/
def lHwm : List Fld := [fro 63 16, frwl 9 0]
def lJnlPort : List Fld := [frwl 47 40, frwl 39 32, frwl 31 16, frwl 0 0]
def lJnlPool : List Fld := [frwl 41 32, frwl 9 0]
def lJnlStat : List Fld := [fro 48 32, fro 21 12, fw1c 3 3, fw1c 2 2, fw1c 1 1, fro 0 0]
def lJnlHold : List Fld := [fw1c 63 0]
def lSeq : List Fld := [frog 47 0]
/-- PCI and PWR registers (chapters 21, 23). -/
def lPciWin : List Fld := [frwkv 51 30 0]
def lPciStat : List Fld := [fro 31 24, fro 19 16, fro 12 8, fro 7 5, fw1c 1 1, fro 0 0]
def lHnote : List Fld := [fwo 3 0]
def lMsg : List Fld := [fwo 11 11, fwo 7 0]
def lPwrCtl : List Fld := [frwk 25 16, frwk 0 0]
def lPwrStat : List Fld := [fro 63 48, fw1c 4 4, fro 3 3, fro 2 2, fro 1 0]
def lPwrTherm : List Fld := [frwk 23 16, frwk 15 8, frwk 7 0]
def lUnitGate : List Fld := [fro 23 16, fro 15 8, fro 7 0]
def lRail : List Fld := [fro 31 16, fro 15 0]
def lTemp : List Fld := [fro 15 0]
/-- LKP and GLB registers (chapter 22). -/
def lLkpCmd : List Fld := [fwo 15 8, fwo 7 0]
def lLkpStat : List Fld := [fro 15 8, fro 7 4, fw1c 1 1, fro 0 0]
def lRw64 : List Fld := [frw 63 0]
def lGlbId : List Fld := [fro 63 48 0x1E5F, fro 47 32 0x9600, fro 15 8 0xA1, fro 7 0 1]
def lIdcode : List Fld := [fro 31 28, fro 27 12 0x9600, fro 11 1 0x1A7, fro 0 0 1]
def lSerial : List Fld := [⟨63, 0, .ro, .s⟩]
def lCaps : List Fld := [fro 39 32 0x14, fro 31 24 0x10, fro 23 16 8, fro 15 8 9, fro 7 0 8]

/-- x lies in an array of n locations that starts at base with the given stride. -/
def inArr (x base stride n : Nat) : Bool :=
  base ≤ x && (x - base) % stride == 0 && (x - base) / stride < n

/-- The fields of an offset within the TCK block. -/
def fieldsTck (x : Nat) : Option (List Fld) :=
  if x = 0 then some lTckCtl else if x = 8 then some lTckTimer else if x = 0x10 then some lTckFilt
  else if inArr x 0x20 8 4 then some lTckIn else if x = 0x40 then some lTckStat else if x = 0x48 then some lTckNum
  else if x = 0x50 then some lRo64 else if x = 0x58 then some lTckPeriod else if x = 0x60 then some lRo64
  else if x = 0x68 then some lTckOut else if inArr x 0x100 8 9 then some lTckPort
  else if inArr x 0x200 8 8 then some lTckPart else none

/-- The fields of an offset within the PRT block. -/
def fieldsPrt (x : Nat) : Option (List Fld) :=
  if inArr x 0 8 8 then some lPrtCtl else if inArr x 0x40 8 8 then some lPrtStat
  else if inArr x 0x100 8 8 then some lTagClass else if inArr x 0x140 8 8 then some lRdt
  else if inArr x 0x180 8 8 then some lL3Mask else if x = 0x200 then some lPrtCmd
  else if inArr x 0x400 0x10 8 then some lCring else if inArr x 0x408 0x10 8 then some lCridx
  else if inArr x 0x480 8 8 then some lCstart else if inArr x 0x4C0 8 8 then some lDb else none

/-- The fields of an offset within the ERR block. -/
def fieldsErr (x : Nat) : Option (List Fld) :=
  if x = 0 then some lErrCtl else if x = 8 then some lErrIdx else if x = 0x10 then some lErrSpill
  else if x = 0x18 then some lErrSpillStat else if x = 0x20 then some lErrCap
  else if inArr x 0x40 8 8 then some lRo64 else if inArr x 0x80 8 8 then some lRo64
  else if inArr x 0x100 8 8 then some lErrPidx else if inArr x 0x2000 8 256 then some lErrLost
  else if inArr x 0x4000 8 2048 then some lRo64 else if inArr x 0x8000 8 4096 then some lRo64 else none

/-- The fields of an offset within one NI block. -/
def fieldsNi (x : Nat) : Option (List Fld) :=
  if x = 0 then some lNiCtl else if x = 8 then some lNiStat else if inArr x 0x40 8 8 then some lNiBucket
  else if inArr x 0x80 8 14 then some lCounter else if inArr x 0x100 8 75 then some lNiRt
  else if inArr x 0x400 8 75 then some lNiRts else if inArr x 0x700 8 15 then some lRo64 else none

/-- The fields of an offset within the NOC block (from 0x08_0000). -/
def fieldsNoc (x : Nat) : Option (List Fld) :=
  if x = 0 then some lNocLink else if x = 8 then some lNocRoute else if x = 0x10 then some lNocSnap
  else if 0x100 ≤ x ∧ x < 0x900 then
    let y := x % 0x100
    if y = 0 then some lProbeCtl else if y = 8 then some lRwk64 else if y = 0x10 then some lRwk64
    else if y = 0x18 then some lCounter else if inArr y 0x80 8 16 then some lRo64 else none
  else if inArr x 0x1000 0x1000 62 then some lRouter
  else if 0x40000 ≤ x ∧ x < 0x40000 + 0x800 * 75 then fieldsNi ((x - 0x40000) % 0x800) else none

/-- The fields of an offset within one core-site block. -/
def fieldsSite (x : Nat) : Option (List Fld) :=
  if x = 0x100 then some lMcStat else if x = 0x200 then some lL2Ctl else if x = 0x208 then some lCacheStat
  else if x = 0x210 then some lL2Lock else if x = 0x300 then some lBind else if x = 0x400 then some lMck
  else if x = 0x500 then some lClk else if x = 0x508 then some lPwrState
  else if inArr x 0x8000 8 64 then some lCdt else none

/-- The fields of an offset within one engine block. -/
def fieldsCe (x : Nat) : Option (List Fld) :=
  if x = 0 then some lCeCtl else if x = 8 then some lCeStat else if x = 0x10 then some lCeCancel
  else if x = 0x100 then some lMcStat else if inArr x 0x200 8 8 then some lCeResv
  else if inArr x 0x300 8 4 then some lOwners else if inArr x 0x400 8 16 then some lCdisp
  else if inArr x 0x800 8 64 then some lPace else none

/-- The fields of an offset within the CMP block. -/
def fieldsCmp (x : Nat) : Option (List Fld) :=
  if x = 0 then some lCmpCtl else if inArr x 0x40 8 10 then some lCmpPair
  else if inArr x 0x100 8 10 then some lCmpPstat else if inArr x 0x200 8 12 then some lCmpUnit else none

/-- The fields of an offset within the JNL block. -/
def fieldsJnl (x : Nat) : Option (List Fld) :=
  if x = 0 then some lHwm else if inArr x 0x100 8 9 then some lJnlPort else if inArr x 0x180 8 9 then some lJnlPool
  else if inArr x 0x200 8 9 then some lJnlStat else if inArr x 0x280 8 9 then some lJnlHold
  else if inArr x 0x1000 8 576 then some lSeq else if inArr x 0x3000 8 512 then some lSeq
  else if inArr x 0x4000 16 576 then some lSeq else if inArr x 0x4008 16 512 then some lSeq else none

/-- The fields of an offset within the PWR block. -/
def fieldsPwr (x : Nat) : Option (List Fld) :=
  if x = 0 then some lPwrCtl else if x = 8 then some lPwrStat else if x = 0x10 then some lPwrTherm
  else if x = 0x18 then some lUnitGate else if inArr x 0x80 8 10 then some lRail
  else if inArr x 0x100 8 30 then some lPwrState else if inArr x 0x200 8 46 then some lTemp else none

/-- A location of the CNT block (R543). Only two instances of the array at 0x44_0000 make its total of 3,776; DEDUCED.
Assumption 53 (DEDUCED). -/
def isCounter (x : Nat) : Bool :=
  let arr (base n stride cnt : Nat) : Bool :=
    base ≤ x && x < base + n * stride && (x - base) % stride % 8 == 0 && (x - base) % stride / 8 < cnt
  arr 0x400000 20 0x400 96 || arr 0x410000 32 0x100 24 || arr 0x420000 4 0x200 32 || arr 0x430000 9 0x200 64
    || arr 0x440000 2 0x200 64 || arr 0x450000 1 0x400 128 || arr 0x460000 8 0x80 16

/-- R561: the fields of a PF0 BAR0 offset; none for a reserved location. -/
def regFields (off : Nat) : Option (List Fld) :=
  if off < 0x10000 then
    if off = 0 then some lGlbId else if off = 8 then some lIdcode else if off = 0x10 ∨ off = 0x18 then some lSerial
    else if off = 0x20 then some lCaps else if off = 0x28 then some lRw64 else none
  else if off < 0x20000 then
    let x := off - 0x10000
    if x = 0 then some lLkpCmd else if inArr x 8 8 8 then some lRw64 else if x = 0x48 then some lLkpStat
    else if inArr x 0x50 8 8 then some lRo64 else none
  else if off < 0x30000 then fieldsTck (off - 0x20000)
  else if off < 0x40000 then fieldsPrt (off - 0x30000)
  else if off < 0x50000 then
    let x := off - 0x40000
    if x = 0 then some lEsfStat else if x = 0x10 then some lEsfSvn
    else if 0x100 ≤ x ∧ x < 0x500 ∧ x % 8 = 0 ∧ x % 0x40 / 8 < 6 then some lRo64 else none
  else if off < 0x60000 then
    let x := off - 0x50000
    if x = 0 then some lCfgStart else if x = 8 then some lCfgStat else if x = 0x10 then some lCfgCmd
    else if x = 0x18 then some lCfgSrc else if inArr x 0x40 8 4 then some lCfgGen else none
  else if off < 0x70000 then
    let x := off - 0x60000
    if x = 0 then some lTwnCtl else if x = 8 then some lTwnStat else if x = 0x10 then some lTwnCmd
    else if inArr x 0x100 8 16 then some lLane else none
  else if off < 0x80000 then fieldsErr (off - 0x70000)
  else if off < 0x100000 then fieldsNoc (off - 0x80000)
  else if off < 0x240000 then fieldsSite ((off - 0x100000) % 0x10000)
  else if off < 0x260000 then none
  else if off < 0x270000 then
    let x := off - 0x260000
    if inArr x 0 0x100 4 then some lMscCtl else if x = 0x800 then some lL3Ctl
    else if x = 0x808 then some lCacheStat else none
  else if off < 0x280000 then fieldsCmp (off - 0x270000)
  else if off < 0x310000 then fieldsCe ((off - 0x280000) % 0x10000)
  else if off < 0x390000 then
    let x := (off - 0x310000) % 0x10000
    if x = 0 then some lPortCtl else if x = 8 then some lPortStat else if x = 0x10 then some lPortCredit
    else if inArr x 0x40 8 4 then some lLane else none
  else if off < 0x3A0000 then
    let x := off - 0x390000
    if x = 0 then some lTowCtl else if inArr x 0x20 8 4 then some lTowInt else if x = 0x40 then some lTowIntStat
    else none
  else if off < 0x3B0000 then
    let x := off - 0x3A0000
    if x = 8 then some lCipStat else if inArr x 0x100 8 16 then some lOwners
    else if inArr x 0x180 8 4 then some lRo64 else if inArr x 0x200 8 8 then some lCipPart else none
  else if off < 0x3C0000 then
    let x := off - 0x3B0000
    if x = 8 then some lCmzStat else if inArr x 0x200 8 8 then some lCmzPart else none
  else if off < 0x3D0000 then fieldsJnl (off - 0x3C0000)
  else if off < 0x3E0000 then
    let x := off - 0x3D0000
    if x = 0 then some lPciWin else if x = 8 then some lPciStat else if inArr x 0x100 8 8 then some lMsg
    else if inArr x 0x140 8 8 then some lHnote else none
  else if off < 0x3F0000 then fieldsPwr (off - 0x3E0000)
  else if off < 0x400000 then none
  else if isCounter off then some lCounter else none

/-- The mask of bits hi:lo. -/
def fmask (hi lo : Nat) : Nat := (2 ^ (hi + 1 - lo) - 1) * 2 ^ lo

/-- The bits of a location that carry a field whose access code is in the list. -/
def accMask (fs : List Fld) (accs : List Acc) : Nat :=
  fs.foldl (fun m f => if accs.contains f.acc then m ||| fmask f.hi f.lo else m) 0

/-- The bits of a location that some field covers (R11: the others are reserved). -/
def definedMask (fs : List Fld) : Nat := fs.foldl (fun m f => m ||| fmask f.hi f.lo) 0

/-- The bits of a location whose reset entry is G (R13). -/
def gMask (fs : List Fld) : Nat :=
  fs.foldl (fun m f => match f.rst with | .g _ => m ||| fmask f.hi f.lo | _ => m) 0

/-- The value of a location right after reset, strap and fuse fields 0 (R13, R568). Assumption 7 (DESIGN CHOICE). -/
def resetOf (fs : List Fld) : Nat :=
  fs.foldl (fun m f => match f.rst with | .val v => m ||| v * 2 ^ f.lo | .g d => m ||| d * 2 ^ f.lo | .s => m) 0

/-- R13, R568: what a register location reads as when nothing has been written to it since reset. -/
def regReset (off : Nat) : Word :=
  match regFields off with
  | some fs => BitVec.ofNat 64 (resetOf fs)
  | none => 0

/-! The offsets of the registers, by name. -/

abbrev oTCK_CTL : Nat := 0x020000
abbrev oTCK_TIMER : Nat := 0x020008
abbrev oTCK_FILT : Nat := 0x020010
abbrev oTCK_IN (n : Nat) : Nat := 0x020020 + 8 * n
abbrev oTCK_STAT : Nat := 0x020040
abbrev oTCK_NUM : Nat := 0x020048
abbrev oTCK_EDGE : Nat := 0x020050
abbrev oTCK_PERIOD : Nat := 0x020058
abbrev oTCK_TIME : Nat := 0x020060
abbrev oTCK_OUT : Nat := 0x020068
abbrev oTCK_PORT (u : Nat) : Nat := 0x020100 + 8 * u
abbrev oTCK_PART (n : Nat) : Nat := 0x020200 + 8 * n
abbrev oPRT_CTL (n : Nat) : Nat := 0x030000 + 8 * n
abbrev oPRT_STAT (n : Nat) : Nat := 0x030040 + 8 * n
abbrev oPRT_TAGCLASS (n : Nat) : Nat := 0x030100 + 8 * n
abbrev oPRT_RDT (n : Nat) : Nat := 0x030140 + 8 * n
abbrev oPRT_L3MASK (n : Nat) : Nat := 0x030180 + 8 * n
abbrev oPRT_CMD : Nat := 0x030200
abbrev oPRT_CRING (n : Nat) : Nat := 0x030400 + 16 * n
abbrev oPRT_CRIDX (n : Nat) : Nat := 0x030408 + 16 * n
abbrev oPRT_CSTART (n : Nat) : Nat := 0x030480 + 8 * n
abbrev oPRT_DB (n : Nat) : Nat := 0x0304C0 + 8 * n
abbrev oESF_STAT : Nat := 0x040000
abbrev oESF_SVN : Nat := 0x040010
abbrev oESF_MEAS (k w : Nat) : Nat := 0x040100 + 0x40 * k + 8 * w
abbrev oCFG_START : Nat := 0x050000
abbrev oCFG_STAT : Nat := 0x050008
abbrev oCFG_CMD : Nat := 0x050010
abbrev oCFG_SRC : Nat := 0x050018
abbrev oCFG_GEN (k : Nat) : Nat := 0x050040 + 8 * k
abbrev oTWN_CTL : Nat := 0x060000
abbrev oTWN_STAT : Nat := 0x060008
abbrev oTWN_CMD : Nat := 0x060010
abbrev oTWN_LANE (k : Nat) : Nat := 0x060100 + 8 * k
abbrev oERR_CTL : Nat := 0x070000
abbrev oERR_IDX : Nat := 0x070008
abbrev oERR_SPILL : Nat := 0x070010
abbrev oERR_SPILLSTAT : Nat := 0x070018
abbrev oERR_CAP : Nat := 0x070020
abbrev oERR_FIRST (w : Nat) : Nat := 0x070040 + 8 * w
abbrev oERR_WORST (w : Nat) : Nat := 0x070080 + 8 * w
abbrev oERR_PIDX (n : Nat) : Nat := 0x070100 + 8 * n
abbrev oERR_LOST (s : Nat) : Nat := 0x072000 + 8 * s
abbrev oERR_VRING (n i w : Nat) : Nat := 0x074000 + 0x800 * n + 64 * (i % 32) + 8 * w
abbrev oERR_RING (i w : Nat) : Nat := 0x078000 + 64 * (i % 512) + 8 * w
abbrev oNOC_LINK : Nat := 0x080000
abbrev oNOC_ROUTE : Nat := 0x080008
abbrev oNOC_SNAP : Nat := 0x080010
abbrev oPROBE (p x : Nat) : Nat := 0x080100 + 0x100 * p + x
abbrev oROUTER_CTL (r : Nat) : Nat := 0x081000 + 0x1000 * r
abbrev oNI (i x : Nat) : Nat := 0x0C0000 + 0x800 * i + x
abbrev oSITE (s x : Nat) : Nat := 0x100000 + 0x10000 * s + x
abbrev oL2_CTL (s : Nat) : Nat := oSITE s 0x200
abbrev oL2_STAT (s : Nat) : Nat := oSITE s 0x208
abbrev oL2_LOCK (s : Nat) : Nat := oSITE s 0x210
abbrev oCS_BIND (s : Nat) : Nat := oSITE s 0x300
abbrev oCS_MCK (s : Nat) : Nat := oSITE s 0x400
abbrev oCS_CLK (s : Nat) : Nat := oSITE s 0x500
abbrev oCS_PWR (s : Nat) : Nat := oSITE s 0x508
abbrev oCS_CDT (s n : Nat) : Nat := oSITE s (0x8000 + 8 * n)
abbrev oMSC_CTL (n : Nat) : Nat := 0x260000 + 0x100 * n
abbrev oL3_CTL : Nat := 0x260800
abbrev oL3_STAT : Nat := 0x260808
abbrev oCMP_CTL : Nat := 0x270000
abbrev oCMP_PAIR (n : Nat) : Nat := 0x270040 + 8 * n
abbrev oCMP_PSTAT (n : Nat) : Nat := 0x270100 + 8 * n
abbrev oCMP_UNIT (k : Nat) : Nat := 0x270200 + 8 * k
abbrev oCE (e x : Nat) : Nat := 0x280000 + 0x10000 * e + x
abbrev oCE_CTL (e : Nat) : Nat := oCE e 0
abbrev oCE_STAT (e : Nat) : Nat := oCE e 8
abbrev oCE_CANCEL (e : Nat) : Nat := oCE e 0x10
abbrev oCE_RESV (e n : Nat) : Nat := oCE e (0x200 + 8 * n)
abbrev oCE_EPOWN (e k : Nat) : Nat := oCE e (0x300 + 8 * k)
abbrev oCE_CDISP (e n : Nat) : Nat := oCE e (0x400 + 8 * n)
abbrev oCE_PACE (e ep : Nat) : Nat := oCE e (0x800 + 8 * ep)
abbrev oPORT_CTL (u : Nat) : Nat := 0x310000 + 0x10000 * u
abbrev oPORT_STAT (u : Nat) : Nat := 0x310008 + 0x10000 * u
abbrev oPORT_CREDIT (u : Nat) : Nat := 0x310010 + 0x10000 * u
abbrev oPORT_LANE (u k : Nat) : Nat := 0x310040 + 0x10000 * u + 8 * k
abbrev oTOW_CTL : Nat := 0x390000
abbrev oTOW_INT (k : Nat) : Nat := 0x390020 + 8 * k
abbrev oTOW_INTSTAT : Nat := 0x390040
abbrev oCIP_STAT : Nat := 0x3A0008
abbrev oCIP_KOWN (k : Nat) : Nat := 0x3A0100 + 8 * k
abbrev oCIP_KLOAD (k : Nat) : Nat := 0x3A0180 + 8 * k
abbrev oCIP_PART (n : Nat) : Nat := 0x3A0200 + 8 * n
abbrev oCMZ_STAT : Nat := 0x3B0008
abbrev oCMZ_PART (n : Nat) : Nat := 0x3B0200 + 8 * n
abbrev oJNL_HWM : Nat := 0x3C0000
abbrev oJNL_PORT (u : Nat) : Nat := 0x3C0100 + 8 * u
abbrev oJNL_POOL (u : Nat) : Nat := 0x3C0180 + 8 * u
abbrev oJNL_STAT (u : Nat) : Nat := 0x3C0200 + 8 * u
abbrev oJNL_HOLD (u : Nat) : Nat := 0x3C0280 + 8 * u
abbrev oJNL_OSEQ (u ep : Nat) : Nat := 0x3C1000 + 0x200 * u + 8 * ep
abbrev oJNL_ISEQ (u ep : Nat) : Nat := 0x3C3000 + 0x200 * u + 8 * ep
abbrev oJNL_PHWM_OUT (u ep : Nat) : Nat := 0x3C4000 + 0x400 * u + 16 * ep
abbrev oJNL_PHWM_IN (u ep : Nat) : Nat := 0x3C4008 + 0x400 * u + 16 * ep
abbrev oPCI_WIN : Nat := 0x3D0000
abbrev oPCI_STAT : Nat := 0x3D0008
abbrev oPCI_MSG (n : Nat) : Nat := 0x3D0100 + 8 * n
abbrev oPCI_HNOTE (n : Nat) : Nat := 0x3D0140 + 8 * n
abbrev oPWR_CTL : Nat := 0x3E0000
abbrev oPWR_STAT : Nat := 0x3E0008
abbrev oPWR_THERM : Nat := 0x3E0010
abbrev oPWR_UNITGATE : Nat := 0x3E0018
abbrev oPWR_RAIL (r : Nat) : Nat := 0x3E0080 + 8 * r
abbrev oPWR_DOM (d : Nat) : Nat := 0x3E0100 + 8 * d
abbrev oPWR_TEMP (k : Nat) : Nat := 0x3E0200 + 8 * k
abbrev oLKP_CMD : Nat := 0x010000
abbrev oLKP_ARG (k : Nat) : Nat := 0x010008 + 8 * k
abbrev oLKP_STAT : Nat := 0x010048
abbrev oLKP_RES (k : Nat) : Nat := 0x010050 + 8 * k
abbrev oGLB_SERIAL (m : Nat) : Nat := 0x000010 + 8 * m
abbrev oGLB_SCRATCH : Nat := 0x000028
/-- Counter x of a core site, L3 slice, MSC, unit, the cipher (0) and compression (1) engines, the device, a partition
(R543). -/
abbrev cSITE (s x : Nat) : Nat := 0x400000 + 0x400 * s + 8 * x
abbrev cL3 (k x : Nat) : Nat := 0x410000 + 0x100 * k + 8 * x
abbrev cMSC (k x : Nat) : Nat := 0x420000 + 0x200 * k + 8 * x
abbrev cUNIT (u x : Nat) : Nat := 0x430000 + 0x200 * u + 8 * x
/-- Assumption 53 (DEDUCED). -/
abbrev cXF (k x : Nat) : Nat := 0x440000 + 0x200 * k + 8 * x
abbrev cDEV (x : Nat) : Nat := 0x450000 + 8 * x
abbrev cPART (n x : Nat) : Nat := 0x460000 + 0x80 * n + 8 * x

end Sys2Proof.Machine
end

