-- ==== Sys2Proof/Syntax.lean ====
section
/-!
DEFINITION. The commands of the block: the one inductive Instr, a constructor per row of spec/opcode_table.json, and
the operand types. A Rilel instruction (R88 to R98) carries the CP that issues it and the raw fields of its format, so
that a reserved field that is not zero is expressible and raises the illegal-instruction fault (R95). A host command
carries the initiator of R9 and the 64-bit value written. An event of the hardware carries what the outside supplies:
time stamps, frames, error kinds, verdicts.
-/

namespace Sys2Proof

abbrev CpId := Fin 16
abbrev SiteId := Fin 20
abbrev UnitId := Fin 9
abbrev PortId := Fin 8
abbrev EpId := Fin 64
abbrev PartId := Fin 8
abbrev PairId := Fin 10
abbrev CompId := Fin 12
abbrev NiId := Fin 75
abbrev CtxId := Fin 16

/-- The predicate of every instruction: N in bit 31 and P in bits 30:28 (R88, R92). -/
structure Pred where
  n : Bool
  p : BitVec 3
  deriving DecidableEq, Repr

/-- The fields of format R (R88); the minor value belongs to the constructor. -/
structure RForm where
  pr : Pred
  d : BitVec 5
  a : BitVec 5
  b : BitVec 5
  deriving DecidableEq, Repr

/-- Format R whose minor carries a capability index in bits 3:0 (MEMX, ATOM and LINE of R98). -/
structure XForm where
  pr : Pred
  d : BitVec 5
  a : BitVec 5
  b : BitVec 5
  ci : BitVec 4
  deriving DecidableEq, Repr

/-- The fields of format I (R88). -/
structure IForm where
  pr : Pred
  d : BitVec 5
  a : BitVec 5
  imm : BitVec 12
  deriving DecidableEq, Repr

/-- The fields of format M (R88). -/
structure MForm where
  pr : Pred
  d : BitVec 5
  a : BitVec 5
  ci : BitVec 4
  disp : BitVec 8
  deriving DecidableEq, Repr

/-- The fields of format B (R88). -/
structure BForm where
  pr : Pred
  disp : BitVec 22
  deriving DecidableEq, Repr

/-- A load or store in its M form or its MEMX form (R97, R98). -/
inductive MemForm where
  | m (f : MForm)
  | x (f : XForm)
  deriving DecidableEq, Repr

/-- The initiators that R9 and R529 name. -/
inductive Initiator where
  | pf0
  | vf (n : PartId)
  | cp (k : CpId)
  | lkp
  | doe
  deriving DecidableEq, Repr

/-- The checks whose failure is a transient fault (R274, R275, INFO0 of R529). -/
inductive CheckKind where
  | residue | parity | regEcc | ckptEcc | ctlStore
  deriving DecidableEq, Repr

/-- A check that fires in one copy of a CP (R274, R289): the pair's follower or the CP's own site, and the check. -/
structure CopyCheck where
  follower : Bool
  check : CheckKind
  deriving DecidableEq, Repr

/-- A microcode sequencer (R219). -/
inductive SeqRef where
  | site (s : SiteId)
  | engine (e : UnitId)
  deriving DecidableEq, Repr

/-- A cache with a control register (L2_CTL, L3_CTL). -/
inductive CacheSel where
  | l2 (s : SiteId)
  | l3
  deriving DecidableEq, Repr

/-- A cache array that can meet an error (R256, R257). -/
inductive CacheRef where
  | l1i (s : SiteId)
  | l1d (s : SiteId)
  | l2 (s : SiteId)
  | l3 (k : Fin 32)
  deriving DecidableEq, Repr

/-- An array whose words or entries carry check bits (R58, R74): a cache; an RLB; the g registers of a CP, by number; the
type-tag cache of a controller; the working store of an engine, by doubleword; the staging buffers of a unit, by doubleword of
the journal area. -/
inductive ArrayRef where
  | cache (c : CacheRef)
  | rlb (t : SiteId)
  | gfile (cp : CpId)
  | tags (n : Fin 4)
  | sram (e : UnitId)
  | staging (u : UnitId)
  deriving DecidableEq, Repr

/-- Where the follower's copy of an interval differs from the leader's (R287): nowhere; in the data bits of one output; in
the data bits of one g register. Assumption 86 (DESIGN CHOICE). -/
inductive CopyDiff where
  | same
  | output (i : Nat) (x : Word)
  | reg (r : BitVec 5) (x : Word)
  deriving DecidableEq, Repr

/-- The comparison of a sync point (R286): the pair, and where the follower's operands differ. -/
structure SyncCompare where
  pair : PairId
  diff : CopyDiff
  deriving DecidableEq, Repr

/-- The HBM read errors of R268. -/
inductive HbmError where
  /-- a single-bit error of a data or tag word -/
  | single
  /-- an uncorrectable error of a data word; whether the re-read corrects -/
  | data (reread : Bool)
  /-- an uncorrectable error of a tag word; whether the re-read corrects -/
  | tag (reread : Bool)
  /-- an interface parity or CRC error; how many of the 3 retries failed, whether a tag word
  was being read, and whether the one re-read then corrects -/
  | link (failed : Fin 4) (tagWord reread : Bool)
  deriving DecidableEq, Repr

/-- The causes of an engine fault (R338, INFO0 of R529). -/
inductive EngineFaultCause where
  | ctlStore | watchdog | microstack | context | workStore
  deriving DecidableEq, Repr

/-- A port frame as it stands on the wire (R370, R371): the two header words, the payload and the CRC trailer. -/
structure Frame where
  h0 : Word
  h1 : Word
  payload : List Byte
  crc : BitVec 32
  deriving DecidableEq, Repr

/-- A Dalnos frame (R452): two header words, payload, CRC trailer. -/
structure DalFrame where
  h0 : Word
  h1 : Word
  payload : List Byte
  crc : BitVec 32
  deriving DecidableEq, Repr

/-- A heartbeat path (R455). -/
inductive HbPath where
  | link | pins
  deriving DecidableEq, Repr

/-- A power domain of R437. -/
inductive Domain where
  | site (s : SiteId)
  | unit (u : UnitId)
  | pipe (i : Fin 8)
  | clane (i : Fin 8)
  | dlane (i : Fin 8)
  | dalnos
  deriving DecidableEq, Repr

/-- A shared unit of the transform engines (R398, R408, R411). -/
inductive XfKind where
  | pipe | clane | dlane
  deriving DecidableEq, Repr

/-- Who an answer of DOMAIN_ABSENT reaches (R438). -/
inductive AbsentKind where
  | engine | journal | snoop | xfDispatch | regRead | regWrite
  deriving DecidableEq, Repr

/-- CLASS of a packet of the Canal network (R426), in the order of its codes. -/
inductive PktClass where
  | read | write | readResp | writeAck | snoop | snoopResp | regAccess | errorRecord | maintenance | domainAbsent | reroute
  deriving DecidableEq, Repr

/-- What a packet is, wherever it goes (R426): CLASS, PART, LEN, TB and TID. -/
structure PktHead where
  cls : PktClass
  part : Option PartId
  len : Fin 17
  tb : Bool
  tid : BitVec 16
  deriving DecidableEq, Repr

/-- A packet from its source NI to its destination NI (R426). -/
structure Packet extends PktHead where
  src : NiId
  dst : NiId
  deriving DecidableEq, Repr

/-- A response as its request's source sees it (R429): the time since the request in ns, the flits it takes. -/
structure NiAnswer where
  latency : Nat
  flits : Nat
  deriving DecidableEq, Repr

/-- A head flit on its way (R426): the packet, the epoch of the route table it was sent by, the fields that the network
itself fills in, its address and tag bytes. -/
structure HeadFlit where
  pkt : Packet
  repoch : BitVec 8
  age : BitVec 12
  vc : Fin 4
  starved : Bool
  route : BitVec 48
  pa : BitVec 52
  tags : BitVec 64
  deriving DecidableEq, Repr

/-- The scope of an Esfort request (R497): the device, or a partition. -/
inductive Scope where
  | dev
  | part (n : PartId)
  deriving DecidableEq, Repr

/-- The mailbox a request came through (R497): PF0's, VF n's, or SMBus. -/
inductive Mailbox where
  | pf0
  | vf (n : PartId)
  | smbus
  deriving DecidableEq, Repr

/-- A PCIe function with an MSI-X table (R554). -/
inductive PcieFn where
  | pf0
  | vf (n : PartId)
  deriving DecidableEq, Repr

/-- A signature and the key it is offered under (R497). -/
structure Signed where
  key : List Byte
  sig : List Byte
  deriving DecidableEq, Repr

/-- An error record as its source sends it (R526): the words that the source fills. -/
structure RecordIn where
  sev : Fin 8
  source : BitVec 8
  code : BitVec 16
  part : Option PartId
  lcp : Option CpId
  addr : Word
  info0 : Word
  info1 : Word
  /-- the seven further words of a continuation record (R530), of a group -/
  cont : Option (List Word)
  /-- the source's own buffer of 4 records was full (R534) -/
  srcFull : Bool
  deriving DecidableEq, Repr

/-- What an ageing monitor reports (R514). -/
inductive AgeEvent where
  | siteDelay (s : SiteId)
  | siteRetries (s : SiteId)
  | sramRow (c : CacheRef) (row : Nat) (set : Nat) (way : Nat)
  | cacheWay (c : CacheRef) (way : Fin 16)
  | hbmRow (stack : Fin 4) (row : Nat)
  | linkReplays (l : Fin 15)
  | serdes (u : PortId) (lane : Fin 4)
  | pipe (i : Fin 8)
  | clane (i : Fin 8)
  | dlane (i : Fin 8)
  deriving DecidableEq, Repr

/-- The repair-map entry fields of R511. -/
structure RepairEntry where
  kind : BitVec 8
  inst : BitVec 16
  element : BitVec 32
  action : BitVec 4
  origin : BitVec 4
  deriving DecidableEq, Repr

/-- The result of built-in self-test (R512): what failed, and the bytes of the Selaufen CP and CE images that the
configuration store holds (R516, R517). -/
structure SelfTestResult where
  siteOk : BitVec 20
  compOk : BitVec 12
  linkOk : BitVec 15
  pipeOk : BitVec 8
  claneOk : BitVec 8
  dlaneOk : BitVec 8
  /-- an array without ways has a row with no spare left -/
  arrayLost : Bool
  newEntries : List RepairEntry
  cpImage : List Byte
  ceImage : List Byte
  deriving DecidableEq, Repr

/-- The levels sampled as RST_L rises and what the Lockkeeper firmware check finds (R508, R490, R580). -/
structure BootIn where
  unitId : Bool
  smbAddr : BitVec 2
  towPresent : Bool
  /-- signature block of the firmware in the configuration store and in the recovery flash -/
  fwStoreOk : Bool
  fwFlashOk : Bool
  /-- SHA3-384 digest field of the firmware taken -/
  fwDigest : List Byte
  /-- the repair map of the configuration store verified (R511), with its digest -/
  repairOk : Bool
  repairDigest : List Byte
  deriving DecidableEq, Repr

/-- One access through the JTAG port (R502). -/
inductive JtagAccess where
  | regRead (off : BitVec 24)
  | regWrite (off : BitVec 24) (v : Word)
  | memRead (pa : BitVec 40)
  | memWrite (pa : BitVec 40) (v : Word)
  deriving DecidableEq, Repr

/-- What the error ring read names (R538). -/
inductive RingRead where
  | errIdx
  | errPidx (n : PartId)
  | ringWord0 (i : Fin 512)
  | viewWord0 (n : PartId) (i : Fin 32)
  deriving DecidableEq, Repr

/-- What a PCIe configuration request asks of a function (R548, R549, R554, R559). -/
inductive ConfigOp where
  /-- Vendor ID and Device ID, the first dword -/
  | readIds
  /-- class code and Revision ID -/
  | readClass
  /-- Subsystem Vendor ID and Subsystem ID -/
  | readSubsys
  /-- a bit the exposed capabilities lack (R548) -/
  | absent
  | busMaster (on : Bool)
  | msixEnable (on : Bool)
  | functionMask (on : Bool)
  /-- the mask bit of one MSI-X vector -/
  | vectorMask (vec : BitVec 11) (on : Bool)
  | vfEnable (on : Bool)
  /-- the host switches selective IDE stream to a key-set, or turns it off -/
  | ideStream (stream : Fin 4) (on : Bool)
  deriving DecidableEq, Repr

/-- The commands: one constructor per row of spec/opcode_table.json, in its order. -/
inductive Instr where
  /-- ADD (R98): INT-class ADD writes g_a plus g_b into g_d, wrapping modulo 2^64. -/
  | add (cp : CpId) (f : RForm)
  /-- SUB (R98): INT-class SUB writes g_a minus g_b into g_d, wrapping modulo 2^64. -/
  | sub (cp : CpId) (f : RForm)
  /-- AND (R98): INT-class AND writes the bitwise AND of g_a and g_b into g_d. -/
  | and (cp : CpId) (f : RForm)
  /-- OR (R98): INT-class OR writes the bitwise OR of g_a and g_b into g_d. -/
  | or (cp : CpId) (f : RForm)
  /-- XOR (R98): INT-class XOR writes the bitwise XOR of g_a and g_b into g_d. -/
  | xor (cp : CpId) (f : RForm)
  /-- ANDN (R98): INT-class ANDN writes g_a AND NOT g_b into g_d. -/
  | andn (cp : CpId) (f : RForm)
  /-- SLL (R100): INT-class SLL shifts g_a left by bits 5:0 of g_b. -/
  | sll (cp : CpId) (f : RForm)
  /-- SRL (R100): INT-class SRL shifts g_a right logically by bits 5:0 of g_b. -/
  | srl (cp : CpId) (f : RForm)
  /-- SRA (R100): INT-class SRA shifts g_a right arithmetically by bits 5:0 of g_b. -/
  | sra (cp : CpId) (f : RForm)
  /-- ROL (R100): INT-class ROL rotates g_a left by bits 5:0 of g_b. -/
  | rol (cp : CpId) (f : RForm)
  /-- MIN (R98): INT-class MIN writes the signed minimum of g_a and g_b. -/
  | min (cp : CpId) (f : RForm)
  /-- MAX (R98): INT-class MAX writes the signed maximum of g_a and g_b. -/
  | max (cp : CpId) (f : RForm)
  /-- MINU (R98): INT-class MINU writes the unsigned minimum of g_a and g_b. -/
  | minu (cp : CpId) (f : RForm)
  /-- MAXU (R98): INT-class MAXU writes the unsigned maximum of g_a and g_b. -/
  | maxu (cp : CpId) (f : RForm)
  /-- MOV (R99): MOV copies g_a with all 8 tag bits into g_d. -/
  | mov (cp : CpId) (f : RForm)
  /-- ADDI (R97): ADDI adds the sign-extended imm12 to g_a into g_d. -/
  | addi (cp : CpId) (f : IForm)
  /-- ANDI (R97): ANDI ANDs g_a with the zero-extended imm12 into g_d. -/
  | andi (cp : CpId) (f : IForm)
  /-- ORI (R97): ORI ORs g_a with the zero-extended imm12 into g_d. -/
  | ori (cp : CpId) (f : IForm)
  /-- XORI (R97): XORI XORs g_a with the zero-extended imm12 into g_d. -/
  | xori (cp : CpId) (f : IForm)
  /-- SHI (R97): SHI shifts or rotates g_a by an immediate amount, the operation selected by imm bits 7:6. -/
  | shi (cp : CpId) (f : IForm)
  /-- CMP_EQ (R98): CMP EQ writes to p_d whether g_a equals g_b. -/
  | cmpEq (cp : CpId) (f : RForm)
  /-- CMP_NE (R98): CMP NE writes to p_d whether g_a differs from g_b. -/
  | cmpNe (cp : CpId) (f : RForm)
  /-- CMP_LT (R98): CMP LT writes to p_d whether g_a is signed-less than g_b. -/
  | cmpLt (cp : CpId) (f : RForm)
  /-- CMP_LE (R98): CMP LE writes to p_d whether g_a is signed-less or equal to g_b. -/
  | cmpLe (cp : CpId) (f : RForm)
  /-- CMP_LTU (R98): CMP LTU writes to p_d whether g_a is unsigned-less than g_b. -/
  | cmpLtu (cp : CpId) (f : RForm)
  /-- CMP_LEU (R98): CMP LEU writes to p_d whether g_a is unsigned-less or equal to g_b. -/
  | cmpLeu (cp : CpId) (f : RForm)
  /-- CMP_EQW (R99): CMP EQW writes to p_d whether type tags and data bits of g_a and g_b are equal. -/
  | cmpEqw (cp : CpId) (f : RForm)
  /-- CMPI (R97): CMPI compares g_a with an immediate under the condition in d bits 21:20 into a predicate. -/
  | cmpi (cp : CpId) (f : IForm)
  /-- PAND (R98): PAND writes p_a AND p_b into p_d. -/
  | pand (cp : CpId) (f : RForm)
  /-- POR (R98): POR writes p_a OR p_b into p_d. -/
  | por (cp : CpId) (f : RForm)
  /-- PXOR (R98): PXOR writes p_a XOR p_b into p_d. -/
  | pxor (cp : CpId) (f : RForm)
  /-- PANDN (R98): PANDN writes p_a AND NOT p_b into p_d. -/
  | pandn (cp : CpId) (f : RForm)
  /-- PNOT (R98): PNOT writes NOT p_a into p_d. -/
  | pnot (cp : CpId) (f : RForm)
  /-- PSET (R98): PSET sets p_d true. -/
  | pset (cp : CpId) (f : RForm)
  /-- PCLR (R98): PCLR sets p_d false. -/
  | pclr (cp : CpId) (f : RForm)
  /-- PRDG (R98): PRDG writes p7 to p0 as FIX bits 7:0 into g_d. -/
  | prdg (cp : CpId) (f : RForm)
  /-- PWRG (R98): PWRG writes p1 to p7 from bits 7:1 of g_a. -/
  | pwrg (cp : CpId) (f : RForm)
  /-- TAGGET (R98): TAGGET writes FIX of g_a's type tag into g_d. -/
  | tagget (cp : CpId) (f : RForm)
  /-- TAGSET (R63): TAGSET retags g_a with the tag in g_b, faulting on reserved or capability tags. -/
  | tagset (cp : CpId) (f : RForm)
  /-- TAGCHK (R98): TAGCHK writes to p_d whether g_a's type tag equals g_b bits 5:0. -/
  | tagchk (cp : CpId) (f : RForm)
  /-- CLASS (R99): CLASS writes FIX of the class code of g_a's tag into g_d. -/
  | class (cp : CpId) (f : RForm)
  /-- TAGSETI (R63): TAGSETI retags g_a with the immediate tag under the rules of TAGSET. -/
  | tagseti (cp : CpId) (f : IForm)
  /-- MUL (R158): MUL writes the low 64 bits of the 128-bit product. -/
  | mul (cp : CpId) (f : RForm)
  /-- MULH (R158): MULH writes the high 64 bits of the signed product. -/
  | mulh (cp : CpId) (f : RForm)
  /-- MULHU (R158): MULHU writes the high 64 bits of the unsigned product. -/
  | mulhu (cp : CpId) (f : RForm)
  /-- MULHSU (R158): MULHSU writes the high 64 bits of signed g_a times unsigned g_b. -/
  | mulhsu (cp : CpId) (f : RForm)
  /-- DPREP (R160): DPREP prepares signed division state and dividend magnitude. -/
  | dprep (cp : CpId) (f : RForm)
  /-- DPREPU (R160): DPREPU prepares unsigned division state. -/
  | dprepu (cp : CpId) (f : RForm)
  /-- DSTEP (R161): DSTEP performs one radix-4 division step producing two quotient bits. -/
  | dstep (cp : CpId) (f : RForm)
  /-- DQUOT (R162): DQUOT writes the signed or unsigned quotient into g_a. -/
  | dquot (cp : CpId) (f : RForm)
  /-- DREM (R162): DREM writes the signed or unsigned remainder into g_d. -/
  | drem (cp : CpId) (f : RForm)
  /-- FADD (R168): FADD adds two binary64 or binary32 values with one rounding. -/
  | fadd (cp : CpId) (single : Bool) (f : RForm)
  /-- FSUB (R168): FSUB subtracts two floating-point values with one rounding. -/
  | fsub (cp : CpId) (single : Bool) (f : RForm)
  /-- FMUL (R168): FMUL multiplies two floating-point values with one rounding. -/
  | fmul (cp : CpId) (single : Bool) (f : RForm)
  /-- FMADD (R168): FMADD computes g_a times g_b plus g_d with one rounding. -/
  | fmadd (cp : CpId) (single : Bool) (f : RForm)
  /-- FMSUB (R168): FMSUB computes g_a times g_b minus g_d with one rounding. -/
  | fmsub (cp : CpId) (single : Bool) (f : RForm)
  /-- FNMADD (R168): FNMADD computes minus g_a times g_b plus g_d with one rounding. -/
  | fnmadd (cp : CpId) (single : Bool) (f : RForm)
  /-- FMIN (R168): FMIN writes the IEEE minimumNumber of its operands. -/
  | fmin (cp : CpId) (single : Bool) (f : RForm)
  /-- FMAX (R168): FMAX writes the IEEE maximumNumber of its operands. -/
  | fmax (cp : CpId) (single : Bool) (f : RForm)
  /-- FABS (R168): FABS clears the sign bit of g_a without raising a flag. -/
  | fabs (cp : CpId) (single : Bool) (f : RForm)
  /-- FNEG (R168): FNEG inverts the sign bit of g_a without raising a flag. -/
  | fneg (cp : CpId) (single : Bool) (f : RForm)
  /-- FCLASS (R168): FCLASS writes a one-hot FIX classification mask of g_a. -/
  | fclass (cp : CpId) (single : Bool) (f : RForm)
  /-- FCMPEQ (R168): FCMPEQ writes floating-point equality into p_d. -/
  | fcmpeq (cp : CpId) (single : Bool) (f : RForm)
  /-- FCMPLT (R168): FCMPLT writes floating-point less-than into p_d. -/
  | fcmplt (cp : CpId) (single : Bool) (f : RForm)
  /-- FCMPLE (R168): FCMPLE writes floating-point less-or-equal into p_d. -/
  | fcmple (cp : CpId) (single : Bool) (f : RForm)
  /-- FCMPUN (R168): FCMPUN writes whether either operand is a NaN into p_d. -/
  | fcmpun (cp : CpId) (single : Bool) (f : RForm)
  /-- FDINIT (R170): FDINIT writes an initial reciprocal approximation of the divisor significand. -/
  | fdinit (cp : CpId) (single : Bool) (f : RForm)
  /-- FDSTEP (R170): FDSTEP refines the reciprocal approximation by one Newton step. -/
  | fdstep (cp : CpId) (single : Bool) (f : RForm)
  /-- FDFIN (R171): FDFIN forms the rounded quotient from the approximation and operands. -/
  | fdfin (cp : CpId) (single : Bool) (f : RForm)
  /-- FSQINIT (R170): FSQINIT writes an initial reciprocal square-root approximation. -/
  | fsqinit (cp : CpId) (single : Bool) (f : RForm)
  /-- FSQSTEP (R170): FSQSTEP refines the reciprocal square-root approximation. -/
  | fsqstep (cp : CpId) (single : Bool) (f : RForm)
  /-- FSQFIN (R171): FSQFIN forms the rounded square root from the approximation. -/
  | fsqfin (cp : CpId) (single : Bool) (f : RForm)
  /-- DADD (R176): DADD adds packed-decimal operand 2 to operand 1 in storage. -/
  | dadd (cp : CpId) (f : RForm)
  /-- DSUB (R176): DSUB subtracts packed-decimal operand 2 from operand 1 in storage. -/
  | dsub (cp : CpId) (f : RForm)
  /-- DCMP (R176): DCMP compares two packed-decimal operands and writes a result code. -/
  | dcmp (cp : CpId) (f : RForm)
  /-- DVAL (R176): DVAL checks the validity of a packed-decimal operand. -/
  | dval (cp : CpId) (f : RForm)
  /-- LDW (R102): LDW (M or MEMX form) loads a tagged word into g_d through the read barrier. -/
  | ldw (cp : CpId) (rlbParity : Bool) (f : MemForm)
  /-- STW (R103): STW (M or MEMX form) stores g_d as a tagged word through the write barrier. -/
  | stw (cp : CpId) (f : MemForm)
  /-- LDB (R77): LDB loads a byte of a RAW word with zero extension. -/
  | ldb (cp : CpId) (f : MemForm)
  /-- LDBS (R77): LDBS loads a byte of a RAW word with sign extension. -/
  | ldbs (cp : CpId) (f : MemForm)
  /-- LDH (R77): LDH loads a halfword of a RAW word with zero extension. -/
  | ldh (cp : CpId) (f : MemForm)
  /-- LDHS (R77): LDHS loads a halfword of a RAW word with sign extension. -/
  | ldhs (cp : CpId) (f : MemForm)
  /-- STB (R103): STB stores bits 7:0 of g_d into a byte of a RAW word. -/
  | stb (cp : CpId) (f : MemForm)
  /-- STH (R103): STH stores bits 31:0 of g_d into a halfword of a RAW word. -/
  | sth (cp : CpId) (f : MemForm)
  /-- LDC (R104): LDC loads a capability pair atomically into c_d. -/
  | ldc (cp : CpId) (f : MForm)
  /-- STC (R104): STC stores c_d atomically as a CAPL and CAPH pair. -/
  | stc (cp : CpId) (f : MForm)
  /-- LDPC (R101): LDPC loads a word relative to the program counter through c15. -/
  | ldpc (cp : CpId) (f : IForm)
  /-- BR (R107): BR branches to PC plus disp22 times 4. -/
  | br (cp : CpId) (f : BForm)
  /-- CALL (R108): CALL pushes the return address, writes g31 and branches relative. -/
  | call (cp : CpId) (f : BForm)
  /-- JR (R107): JR jumps to the CODE address in g_a. -/
  | jr (cp : CpId) (f : RForm)
  /-- CALLR (R108): CALLR pushes the return address, writes g31 and jumps to g_a. -/
  | callr (cp : CpId) (f : RForm)
  /-- RET (R108): RET checks g31 against the return stack, pops and jumps. -/
  | ret (cp : CpId) (f : RForm)
  /-- GADD (R127): GADD adds FIX or FLO operands generically or escapes. -/
  | gadd (cp : CpId) (f : RForm)
  /-- GSUB (R127): GSUB subtracts FIX or FLO operands generically or escapes. -/
  | gsub (cp : CpId) (f : RForm)
  /-- GMUL (R127): GMUL multiplies FIX or FLO operands generically or escapes. -/
  | gmul (cp : CpId) (f : RForm)
  /-- GNEG (R127): GNEG negates a FIX or FLO operand or escapes. -/
  | gneg (cp : CpId) (f : RForm)
  /-- GCMPLT (R127): GCMPLT compares FIX or FLO operands exactly for less-than. -/
  | gcmplt (cp : CpId) (f : RForm)
  /-- GCMPEQ (R127): GCMPEQ compares FIX or FLO operands exactly for equality. -/
  | gcmpeq (cp : CpId) (f : RForm)
  /-- CAR (R138): CAR loads the car of a CONS cell, or NIL for NIL. -/
  | car (cp : CpId) (f : RForm)
  /-- CDR (R138): CDR loads the cdr of a CONS cell, or NIL for NIL. -/
  | cdr (cp : CpId) (f : RForm)
  /-- RPLACA (R139): RPLACA stores g_b into the car of a CONS cell. -/
  | rplaca (cp : CpId) (f : RForm)
  /-- RPLACD (R139): RPLACD stores g_b into the cdr of a CONS cell. -/
  | rplacd (cp : CpId) (f : RForm)
  /-- CONS (R142): CONS allocates and writes a new two-word cell through c14. -/
  | cons (cp : CpId) (f : RForm)
  /-- ASSQ (R141): ASSQ searches an association list for a key, resumable per cell. -/
  | assq (cp : CpId) (f : RForm)
  /-- MEMQ (R141): MEMQ searches a list for a key, resumable per cell. -/
  | memq (cp : CpId) (f : RForm)
  /-- TDISP (R137): TDISP branches into a table indexed by g_a's type tag. -/
  | tdisp (cp : CpId) (f : IForm)
  /-- ALLOC (R143): ALLOC bump-allocates a zeroed object of n words from c14. -/
  | alloc (cp : CpId) (f : RForm)
  /-- ALLOCV (R144): ALLOCV bump-allocates an object with a built header. -/
  | allocv (cp : CpId) (f : RForm)
  /-- MARK (R154): MARK tests and sets the collector bits of an object's first word. -/
  | mark (cp : CpId) (f : RForm)
  /-- SCANW (R155): SCANW scans words for a pointer into a condemned region, resumably. -/
  | scanw (cp : CpId) (f : RForm)
  /-- COLGET (R156): COLGET reads the collector bits of a word. -/
  | colget (cp : CpId) (f : RForm)
  /-- COLSET (R156): COLSET writes the collector bits of a word indivisibly. -/
  | colset (cp : CpId) (f : RForm)
  /-- FWDSET (R157): FWDSET compares a word and on equality turns it into a FWD word. -/
  | fwdset (cp : CpId) (f : RForm)
  /-- CMOV (R192): CMOV copies a capability register. -/
  | cmov (cp : CpId) (f : RForm)
  /-- CBND (R192): CBND narrows a capability's bounds. -/
  | cbnd (cp : CpId) (f : RForm)
  /-- CPERM (R192): CPERM ANDs a capability's permissions with a mask. -/
  | cperm (cp : CpId) (f : RForm)
  /-- CSEAL (R192): CSEAL seals a capability with an object type. -/
  | cseal (cp : CpId) (f : RForm)
  /-- CUNSEAL (R192): CUNSEAL unseals a sealed capability. -/
  | cunseal (cp : CpId) (f : RForm)
  /-- CGETB (R192): CGETB reads a capability's base. -/
  | cgetb (cp : CpId) (f : RForm)
  /-- CGETL (R192): CGETL reads a capability's length. -/
  | cgetl (cp : CpId) (f : RForm)
  /-- CGETP (R192): CGETP reads a capability's permissions, object type and sealed bit. -/
  | cgetp (cp : CpId) (f : RForm)
  /-- CTEST (R192): CTEST writes to p_d whether a capability grants given permissions. -/
  | ctest (cp : CpId) (f : RForm)
  /-- CCLR (R192): CCLR nulls the capability registers named in a mask. -/
  | cclr (cp : CpId) (f : RForm)
  /-- BCOPY (R121): BCOPY copies words resumably through barriers. -/
  | bcopy (cp : CpId) (f : RForm)
  /-- BFILL (R121): BFILL fills words with g2 resumably. -/
  | bfill (cp : CpId) (f : RForm)
  /-- SAVE_RS (R121): SAVE.RS spills return-stack entries to storage, oldest first. -/
  | saveRs (cp : CpId) (f : RForm)
  /-- LOAD_RS (R121): LOAD.RS refills return-stack entries from storage. -/
  | loadRs (cp : CpId) (f : RForm)
  /-- RSDEPTH (R98): RSDEPTH writes the return-stack depth into g_d. -/
  | rsdepth (cp : CpId) (f : RForm)
  /-- START (R301): START checks and queues a channel program on an engine or refuses it. -/
  | start (cp : CpId) (f : RForm)
  /-- CASW (R105): CASW atomically compares and swaps a word. -/
  | casw (cp : CpId) (f : XForm)
  /-- SWPW (R105): SWPW atomically swaps a word. -/
  | swpw (cp : CpId) (f : XForm)
  /-- FADDW (R105): FADDW atomically adds to a RAW or FIX word. -/
  | faddw (cp : CpId) (f : XForm)
  /-- PREF (R106): PREF hints a prefetch of a line for loading. -/
  | pref (cp : CpId) (f : XForm)
  /-- PREFW (R106): PREFW hints a prefetch of a line for storing. -/
  | prefw (cp : CpId) (f : XForm)
  /-- LZERO (R106): LZERO writes RAW zero to all eight words of a line. -/
  | lzero (cp : CpId) (f : XForm)
  /-- CCLN (R252): CCLN writes a dirty line back and keeps it valid. -/
  | ccln (cp : CpId) (f : XForm)
  /-- CFLS (R252): CFLS writes a line back and invalidates it everywhere. -/
  | cfls (cp : CpId) (f : XForm)
  /-- FCVT_FIX_D (R169): Converts binary64 to FIX under PS.RM. -/
  | fcvtFixD (cp : CpId) (f : RForm)
  /-- FCVT_D_FIX (R169): Converts a signed integer to binary64 FLO. -/
  | fcvtDFix (cp : CpId) (f : RForm)
  /-- FCVT_S_D (R169): Converts binary64 to binary32. -/
  | fcvtSD (cp : CpId) (f : RForm)
  /-- FCVT_D_S (R169): Converts binary32 to binary64. -/
  | fcvtDS (cp : CpId) (f : RForm)
  /-- FCVT_FIX_S (R169): Converts binary32 to FIX. -/
  | fcvtFixS (cp : CpId) (f : RForm)
  /-- FCVT_S_FIX (R169): Converts a signed integer to binary32. -/
  | fcvtSFix (cp : CpId) (f : RForm)
  /-- CLZ (R98): CLZ counts leading zeros of g_a. -/
  | clz (cp : CpId) (f : RForm)
  /-- CTZ (R98): CTZ counts trailing zeros of g_a. -/
  | ctz (cp : CpId) (f : RForm)
  /-- POPC (R98): POPC counts set bits of g_a. -/
  | popc (cp : CpId) (f : RForm)
  /-- BREV (R98): BREV reverses the bits of g_a. -/
  | brev (cp : CpId) (f : RForm)
  /-- BSWAP (R98): BSWAP reverses the bytes of g_a. -/
  | bswap (cp : CpId) (f : RForm)
  /-- RDTICK (R111): RDTICK writes the partition's current tick number. -/
  | rdtick (cp : CpId) (f : RForm)
  /-- RDTIME (R111): RDTIME writes TCK_TIME. -/
  | rdtime (cp : CpId) (f : RForm)
  /-- RDCYC (R111): RDCYC writes the core site's cycle count. -/
  | rdcyc (cp : CpId) (f : RForm)
  /-- RDPS (R98): RDPS writes PS as RAW into g_d. -/
  | rdps (cp : CpId) (f : RForm)
  /-- WRPS (R87): WRPS replaces the RW fields of PS from g_a. -/
  | wrps (cp : CpId) (f : RForm)
  /-- GATE (R211): GATE calls through a sealed gate pair, pushing a gate frame on the trap stack. -/
  | gate (cp : CpId) (f : RForm)
  /-- GATE_F (R211): GATE.F calls through a gate saving the frame in the gate half of the fast entry bank. -/
  | gateF (cp : CpId) (f : RForm)
  /-- GRET (R213): GRET pops a gate frame and restores the caller's state. -/
  | gret (cp : CpId) (f : RForm)
  /-- RETF_EVENT (R208): RETF with a = 0 returns from the event half of the fast entry bank. -/
  | retfEvent (cp : CpId) (f : RForm)
  /-- RETF_GATE (R213): RETF with a = 1 returns from a GATE.F call through the gate half. -/
  | retfGate (cp : CpId) (f : RForm)
  /-- TRAP (R204): TRAP raises a synchronous trap event with its code. -/
  | trap (cp : CpId) (f : RForm)
  /-- TRET (R206): TRET pops a trap frame and restores PS, c15 and PC. -/
  | tret (cp : CpId) (f : RForm)
  /-- FENCE (R118): FENCE orders all storage accesses of the CP. -/
  | fence (cp : CpId) (f : RForm)
  /-- FENCE_A (R179): FENCE.A delivers pending imprecise arithmetic exceptions. -/
  | fenceA (cp : CpId) (f : RForm)
  /-- FENCE_I (R110): FENCE.I makes later instruction fetches see earlier stores. -/
  | fenceI (cp : CpId) (f : RForm)
  /-- CINV_R (R252): CINV.R invalidates a range of lines without write-back, resumably. -/
  | cinvR (cp : CpId) (f : RForm)
  /-- CCLN_R (R252): CCLN.R cleans a range of lines, resumably. -/
  | cclnR (cp : CpId) (f : RForm)
  /-- CFLS_R (R252): CFLS.R cleans and invalidates a range of lines, resumably. -/
  | cflsR (cp : CpId) (f : RForm)
  /-- RDSET (R70): RDSET changes CONDEMNED, GEN, POLICY and WP of a region descriptor. -/
  | rdset (cp : CpId) (f : RForm)
  /-- MFK (R110): MFK reads a k register into g_d. -/
  | mfk (cp : CpId) (f : RForm)
  /-- MTK (R110): MTK writes a k register from g_d. -/
  | mtk (cp : CpId) (f : RForm)
  /-- EMSET (R110): EMSET sets PS.EM. -/
  | emset (cp : CpId) (f : RForm)
  /-- EMCLR (R110): EMCLR clears PS.EM. -/
  | emclr (cp : CpId) (f : RForm)
  /-- WRPSK (R87): WRPSK replaces the RW and RW/K fields of PS. -/
  | wrpsk (cp : CpId) (f : RForm)
  /-- WAIT (R110): WAIT stops issue until an interrupt becomes pending. -/
  | wait (cp : CpId) (f : RForm)
  /-- CUSTOMER_INSN (R241): A major-0x3C instruction decodes through the customer decode table and runs customer microcode. -/
  | customerInsn (cp : CpId) (minor : BitVec 7) (f : RForm)
  /-- EVENT_DELIVERY (R202): At an instruction boundary or safe point with EM clear the CP takes its lowest pending event. -/
  | eventDelivery (cp : CpId)
  /-- WDOG_EXPIRY (R201): The CP watchdog period expires and sets EVPEND.WDOG or checkstops. -/
  | wdogExpiry (cp : CpId)
  /-- LKP_CP_RESTART (R593): The Lockkeeper restarts a logical CP in its reset state after checkstop or restart. -/
  | lkpCpRestart (cp : CpId)
  /-- CHECKPOINT (R273): A CP takes a checkpoint and releases its held outputs. -/
  | checkpoint (cp : CpId)
  /-- CP_TRANSIENT_FAULT (R275): An error check fires and the CP rolls back to its checkpoint and retries. -/
  | cpTransientFault (cp : CpId) (check : CopyCheck)
  /-- CORE_SPARING (R281): The Lockkeeper freezes the failed site, chooses a spare and moves the CP state. -/
  | coreSparing (cp : CpId) (ckptLost : Bool)
  /-- SPARING_COMPLETE (R281): Sparing ends: binding updated, record written and the CP resumes on the spare. -/
  | sparingComplete (cp : CpId)
  /-- PAIR_INTERVAL_COMPARE (R285): The comparator compares both copies' signatures for an interval and releases verified outputs. -/
  | pairIntervalCompare (n : PairId) (d : CopyDiff)
  /-- PAIR_SELF_TEST_DONE (R288): Self-test of both sites after a hard pair fault completes and decides sparing or checkstop. -/
  | pairSelfTestDone (n : PairId) (leaderOk followerOk : Bool)
  /-- SYNC_POINT_PERFORM (R286): After the follower catches up and the buffer empties the leader performs the sync-point instruction. -/
  | syncPointPerform (n : SyncCompare)
  /-- COMPARATOR_SUSPECT (R292): Comparator rails disagree; the pair enters SUSPECT and the test starts. -/
  | comparatorSuspect (k : CompId)
  /-- COMPARATOR_TEST_DONE (R291): A difference-injection test completes and passes or fails the comparator. -/
  | comparatorTestDone (k : CompId) (pass : Bool)
  /-- PAIR_LOG_ECC_ERROR (R293): An uncorrectable input-log or delay-buffer entry rolls both copies back. -/
  | pairLogEccError (n : PairId) (verified : Bool) (entry : Nat)
  /-- DEBUG_HALT (R294): Halting a pair member for debug breaks the pair. -/
  | debugHalt (s : SiteId)
  /-- PAIR_REPAIR (R295): A write of REPAIR requests re-forming a degraded pair. -/
  | pairRepair (i : Initiator) (n : PairId)
  /-- PAIR_REPAIR_COPY_DONE (R295): The leader's state has been copied to the new follower and the pair is PAIRED. -/
  | pairRepairCopyDone (n : PairId)
  /-- CONTROL_STORE_ERROR (R221): A control-store ECC error is corrected or the location is rewritten from the image. -/
  | controlStoreError (q : SeqRef) (addr : BitVec 14) (double : Bool)
  /-- MC_WATCHDOG (R230): A sequencer reaches 4,096 microcycles without a safe point. -/
  | mcWatchdog (q : SeqRef) (stackErr : Bool)
  /-- MICROWORD_WAIT_END (R226): A waiting microword sees its event at the end of a microcycle and sequences on. -/
  | microwordWaitEnd (q : SeqRef)
  /-- ENGINE_EVENT_ROUTINE (R235): At a safe point an engine with a pending tick or error event calls its event routine. -/
  | engineEventRoutine (e : UnitId)
  /-- TICK_EDGE (R37): An edge of the selected tick input passes the divider and filter. -/
  | tickEdge (pin : Fin 4) (rising : Bool) (t : Word)
  /-- TIMER_CANDIDATE (R31): The internal timer period elapses and offers a candidate tick. -/
  | timerCandidate
  /-- TMAX_EXPIRY (R38): No tick for TMAX in LOCKED: the unit coasts or enters LOST with a generated tick. -/
  | tmaxExpiry
  /-- COAST_TICK (R38): A further coasted tick is generated one measured period after the last. -/
  | coastTick
  /-- LOST_TICK (R39): In LOST the unit generates and numbers a tick that is not committed. -/
  | lostTick
  /-- COMMIT_POINT (R45): The commit point of tick T passes and ports take staged data for T. -/
  | commitPoint
  /-- CP_RESV_CHECK (R47): CP_RESV after a tick, DONE is tested and CP_RESV_EXCEEDED counted if clear. -/
  | cpResvCheck (n : PartId)
  /-- TICK_SOURCE_CHANGE (R29): A write of TCK_CTL.SRC changes the tick source by state. -/
  | tickSourceChange (i : Initiator) (src : BitVec 3)
  /-- TICK_ENABLE (R35): Setting TCK_CTL.ENABLE moves the unit from STOPPED to ACQUIRING. -/
  | tickEnable (i : Initiator) (src : BitVec 3)
  /-- TICK_DISABLE (R35): Clearing TCK_CTL.ENABLE stops the tick unit. -/
  | tickDisable (i : Initiator) (src : BitVec 3)
  /-- TCK_TIMER_WRITE (R31): A TCK_TIMER write sets a valid period or is kept inactive. -/
  | tckTimerWrite (i : Initiator) (v : Word)
  /-- TCK_IN_WRITE (R28): A TCK_IN_n write configures the input and restarts its divider. -/
  | tckInWrite (i : Initiator) (n : Fin 4) (v : Word)
  /-- TCK_NUM_WRITE (R33): A TCK_NUM write sets the tick number only while STOPPED. -/
  | tckNumWrite (i : Initiator) (v : Word)
  /-- TCK_FILT_WRITE (R36): A TCK_FILT write is refused when TMIN is 0 or not below TMAX. -/
  | tckFiltWrite (i : Initiator) (v : Word)
  /-- TICK_DONE_SET (R48): Partition software sets TCK_PART DONE for the current pound. -/
  | tickDoneSet (i : Initiator) (n : PartId)
  /-- CACHE_INVALIDATE_ALL (R255): OP INVALIDATE_ALL discards every line of an L2 or the L3. -/
  | cacheInvalidateAll (i : Initiator) (c : CacheSel)
  /-- CACHE_FLUSH_ALL (R255): OP FLUSH_ALL writes back and invalidates every line. -/
  | cacheFlushAll (i : Initiator) (c : CacheSel)
  /-- FULL_CACHE_OP_DONE (R255): A full-cache operation ends, clearing BUSY and CONTENTS_AGED. -/
  | fullCacheOpDone (c : CacheSel)
  /-- CACHE_DISABLE (R262): Clearing ENABLE bypasses a cache keeping its lines. -/
  | cacheDisable (i : Initiator) (c : CacheSel)
  /-- CACHE_ENABLE (R263): Setting ENABLE re-enables a cache, recording if contents are aged. -/
  | cacheEnable (i : Initiator) (c : CacheSel)
  /-- L2_LOCK_WRITE (R248): A write of L2_LOCK is taken or refused under the way limits. -/
  | l2LockWrite (i : Initiator) (s : SiteId) (v : Word)
  /-- L3MASK_WRITE (R248): A write of PRT_L3MASK is taken or refused under the way limits. -/
  | l3maskWrite (i : Initiator) (n : PartId) (v : Word)
  /-- DIR_PARITY_ERROR (R256): A cache directory parity error invalidates or poisons the line. -/
  | dirParityError (c : CacheRef) (set : Nat) (way : Fin 16) (addrLost : Bool)
  /-- CACHE_DATA_ERROR (R257): A cache data ECC error is corrected or poisons the word. -/
  | cacheDataError (c : ArrayRef) (set : Nat) (way : Fin 16) (word : Fin 8) (double : Bool)
  /-- HBM_READ_ERROR (R268): An HBM read error is corrected, re-read, retried or poisoned. -/
  | hbmReadError (pa : BitVec 40) (err : HbmError)
  /-- PATROL_SCRUB (R269): The patrol scrub reads the next words of its stack. -/
  | patrolScrub (stack : Fin 4) (words : Nat)
  /-- DOORBELL (R306): A PRT_DB_n write reads a start-table entry and queues or refuses a program. -/
  | doorbell (i : Initiator) (n : PartId) (v : Word)
  /-- PROGRAM_DISPATCH (R303): A queued program leaves the start queue for a free context. -/
  | programDispatch (e : UnitId)
  /-- CMD_FETCH (R310): An engine fetches and checks a channel command. -/
  | cmdFetch (e : UnitId) (x : CtxId)
  /-- CMD_SEND (R309): A SEND command begins, tick-bound or staged at once. -/
  | cmdSend (e : UnitId) (x : CtxId)
  /-- CMD_RECV (R314): A RECV posts a buffer for its endpoint's inbound frames. -/
  | cmdRecv (e : UnitId) (x : CtxId)
  /-- CMD_XFORM (R315): An XFORM moves data through a job chain from source to destination. -/
  | cmdXform (e : UnitId) (x : CtxId)
  /-- CMD_JUMP (R313): A JUMP continues the program at its target. -/
  | cmdJump (e : UnitId) (x : CtxId)
  /-- CMD_WAITT (R328): A WAITT waits for its target tick. -/
  | cmdWaitt (e : UnitId) (x : CtxId)
  /-- CMD_SYNC (R328): A SYNC waits for acknowledgement of every frame sent so far. -/
  | cmdSync (e : UnitId) (x : CtxId)
  /-- CMD_NOP (R328): A NOP completes on execution. -/
  | cmdNop (e : UnitId) (x : CtxId)
  /-- CMD_CUSTOMER (R316): A customer opcode calls its dispatch entry in customer microcode. -/
  | cmdCustomer (e : UnitId) (x : CtxId)
  /-- SEND_STAGING (R317): Staging of a SEND's data into frames in the journal area runs. -/
  | sendStaging (e : UnitId) (x : CtxId)
  /-- COMMAND_COMPLETE (R328): A channel command completes and the program continues or ends. -/
  | commandComplete (e : UnitId) (x : CtxId)
  /-- STALLED_RECORD_POST (R332): When ring room appears a stalled record is written and the program resumes. -/
  | stalledRecordPost (e : UnitId) (x : CtxId)
  /-- ENGINE_RUN (R300): Writing RUN 1 in STOPPED starts the engine. -/
  | engineRun (i : Initiator) (e : UnitId)
  /-- ENGINE_STOP (R300): Writing RUN 0 cancels every program and stops the engine. -/
  | engineStop (i : Initiator) (e : UnitId)
  /-- ENGINE_DRAIN (R300): Setting DRAIN refuses starts and lets programs run out. -/
  | engineDrain (i : Initiator) (e : UnitId)
  /-- CANCEL_PROGRAM (R337): CE_CANCEL with ALL clear cancels one program. -/
  | cancelProgram (i : Initiator) (e : UnitId) (part : BitVec 4) (pgm : BitVec 16)
  /-- CANCEL_ALL (R337): CE_CANCEL with ALL set cancels every program of the partition. -/
  | cancelAll (i : Initiator) (e : UnitId) (part : BitVec 4)
  /-- ENGINE_FAULT (R338): An engine fault enters RECOVERING and starts recovery. -/
  | engineFault (e : UnitId) (cause : EngineFaultCause) (uaddr : BitVec 14) (x : Option CtxId) (t : Word)
  /-- ENGINE_RESTART_DONE (R338): The engine restarts and its programs resume. -/
  | engineRestartDone (e : UnitId)
  /-- ENGINE_SLICE_END (R326): A pound slice ends, clearing engine state before the next slice. -/
  | engineSliceEnd (e : UnitId) (n : PartId)
  /-- RTO_TIMEOUT (R352): A SENT entry unacknowledged for RTO becomes RESEND. -/
  | rtoTimeout (u : UnitId) (slot : BitVec 16) (t : Word)
  /-- RETRANSMIT (R353): A RESEND entry is sent again with RTX raised. -/
  | retransmit (u : UnitId) (payloadOk : Bool)
  /-- ENDPOINT_RESUME (R353): Writing a JNL_HOLD bit resumes a held endpoint. -/
  | endpointResume (i : Initiator) (u : UnitId) (eps : Word)
  /-- HWM_PERSIST (R358): The Lockkeeper writes a high-water record to MRAM each interval. -/
  | hwmPersist
  /-- INBOUND_ACK_SEND (R360): An inbound cumulative acknowledgement is sent within ACK_INT or 16 frames. -/
  | inboundAckSend (u : PortId) (ep : EpId)
  /-- DATA_FRAME_SEND (R321): A port sends a DATA frame in pound order once credit allows. -/
  | dataFrameSend (u : PortId)
  /-- IDLE_FRAME_SEND (R373): A port sends IDLE when no frame was sent for 1 µs. -/
  | idleFrameSend (u : PortId)
  /-- CREDIT_FRAME_SEND (R374): A port sends a CREDIT frame at least every 2 µs while the count changes. -/
  | creditFrameSend (u : PortId)
  /-- EPOCH_FRAME_RESEND (R377): An unechoed EPOCH frame is resent every RTO. -/
  | epochFrameResend (u : PortId) (ep : EpId)
  /-- RX_DATA (R360): A DATA frame from the partner is checked and delivered or discarded. -/
  | rxData (u : PortId) (fr : Frame)
  /-- RX_EPOCH (R592): An EPOCH frame sets the partner epoch and expected number. -/
  | rxEpoch (u : PortId) (fr : Frame)
  /-- RX_ACK (R350): An ACK frees entries and turns NACK ranges to RESEND. -/
  | rxAck (u : PortId) (fr : Frame)
  /-- RX_CREDIT (R374): A CREDIT frame updates the credit the partner grants. -/
  | rxCredit (u : PortId) (fr : Frame)
  /-- RX_ABORT (R592): An ABORT frame may post an RX_ABORTED record. -/
  | rxAbort (u : PortId) (fr : Frame)
  /-- RX_MARKER (R592): A partner MARKER shows only that the link is alive. -/
  | rxMarker (u : PortId) (fr : Frame)
  /-- RX_IDLE (R592): A partner IDLE shows only that the link is alive. -/
  | rxIdle (u : PortId) (fr : Frame)
  /-- RX_TRAIN (R369): A TRAIN frame starts or completes link training. -/
  | rxTrain (u : PortId) (fr : Frame)
  /-- PORT_RETRAIN (R369): A write of PORT_CTL.RETRAIN starts training. -/
  | portRetrain (i : Initiator) (u : PortId)
  /-- TRAIN_PHASE_COMPLETE (R367): A training phase completes and the next begins or the port is UP. -/
  | trainPhaseComplete (u : PortId)
  /-- TRAIN_PHASE_TIMEOUT (R368): A lane phase runs out its time and training restarts narrower. -/
  | trainPhaseTimeout (u : PortId) (failed : BitVec 4)
  /-- PARAM_TIMEOUT (R368): PARAM runs out 1 ms and training restarts on the same lanes. -/
  | paramTimeout (u : PortId)
  /-- PORT_DOWN_RETRY (R368): A port with no working lane retries training every 100 ms. -/
  | portDownRetry (u : PortId)
  /-- LANE_LOCK_LOSS (R369): An active lane loses lock for over 1 µs and the port retrains. -/
  | laneLockLoss (u : PortId) (lane : Fin 4)
  /-- UNCORR_LIMIT_EXCEEDED (R369): Uncorrectable events exceed the limit per ms and the port retrains. -/
  | uncorrLimitExceeded (u : PortId)
  /-- TP_INT_EVENT (R386): An inactive-to-active change on a Towpath interrupt line is filtered and accepted. -/
  | tpIntEvent (k : Fin 4) (active : Bool) (t : Word)
  /-- TP_INT_UNMASK (R388): Writing 1 to a MASKED bit unmasks the line. -/
  | tpIntUnmask (i : Initiator) (lines : BitVec 4)
  /-- ENCRYPT (R398): An ENCRYPT job runs an AES mode on the data. -/
  | encrypt (e : UnitId) (x : CtxId) (stage : Fin 2)
  /-- DECRYPT (R405): A DECRYPT job runs an AES mode, releasing plaintext by its rules. -/
  | decrypt (e : UnitId) (x : CtxId) (stage : Fin 2)
  /-- COMPRESS (R408): A COMPRESS job produces DEFLATE, zlib or gzip output. -/
  | compress (e : UnitId) (x : CtxId) (stage : Fin 2)
  /-- DECOMPRESS (R411): A DECOMPRESS job inflates and verifies a stream. -/
  | decompress (e : UnitId) (x : CtxId) (stage : Fin 2)
  /-- KEYLOAD (R396): A KEYLOAD job unwraps a key blob into a slot. -/
  | keyload (e : UnitId) (x : CtxId)
  /-- KEYCLR (R395): A KEYCLR job empties a key slot. -/
  | keyclr (e : UnitId) (x : CtxId)
  /-- JOB_COMPLETE (R394): A job ends and writes its result record. -/
  | jobComplete (e : UnitId) (x : CtxId)
  /-- JOB_SUSPEND (R414): A job saves its sealed state to the resume area. -/
  | jobSuspend (e : UnitId) (x : CtxId)
  /-- XF_SLICE_END (R417): A pooled slice ends and running jobs suspend with state cleared. -/
  | xfSliceEnd (k : XfKind) (n : PartId)
  /-- XF_UNIT_FAULT (R420): A unit detects an internal error and its job moves to another unit. -/
  | xfUnitFault (k : XfKind) (i : Fin 8) (t : Word)
  /-- NI_RESPONSE (R429): A response packet arrives and completes an outstanding request. -/
  | niResponse (src dst : NiId) (req : PktHead) (answer : NiAnswer)
  /-- LINK_FLIT_CRC_ERROR (R435): A flit CRC error is replayed; too many fail the link. -/
  | linkFlitCrcError (l : Fin 15) (t : Word)
  /-- ROUTE_ARM (R439): Writing NOC_ROUTE.ARM holds changed packets and drains removed ports. -/
  | routeArm (i : Initiator)
  /-- ROUTE_SWITCH (R439): At a tick boundary shadow routes become active and EPOCH advances. -/
  | routeSwitch
  /-- REROUTE_RETURN (R440): A packet naming a removed port returns to its source as REROUTE. -/
  | rerouteReturn (src dst : NiId) (req : PktHead) (repoch : BitVec 8) (router : Fin 62)
  /-- DOMAIN_CLOSE (R437): An NI is set CLOSING and answers new requests DOMAIN_ABSENT. -/
  | domainClose (d : Domain)
  /-- DOMAIN_DRAINED (R437): The domain bridge drains, DRAINED is set and the domain is gated. -/
  | domainDrained (d : Domain)
  /-- DOMAIN_OPEN (R437): A domain is powered, its bridge trained and the NI opened. -/
  | domainOpen (d : Domain)
  /-- DOMAIN_ABSENT_ANSWER (R438): An initiator receives DOMAIN_ABSENT and handles it by kind. -/
  | domainAbsentAnswer (src dst : NiId) (req : PktHead) (k : AbsentKind) (off : BitVec 24)
  /-- PROBE_CTL_WRITE (R442): A PROBE_CTL write configures a probe and restarts capture. -/
  | probeCtlWrite (i : Initiator) (p : Fin 8) (v : Word)
  /-- PROBE_MATCH (R442): A head flit matching a probe is counted and captured. -/
  | probeMatch (router : Fin 62) (port : Fin 5) (head : HeadFlit) (t : Word)
  /-- STATS_SNAPSHOT (R545): Writing NOC_SNAP.TAKE copies every NI statistic at one instant. -/
  | statsSnapshot (i : Initiator)
  /-- HEARTBEAT_SEND (R455): A unit sends its heartbeat word on both paths every 5 µs. -/
  | heartbeatSend
  /-- HEARTBEAT_RECEIVE (R457): A valid heartbeat word from the twin arrives on a path. -/
  | heartbeatReceive (path : HbPath) (w : Word) (t : Word)
  /-- HEARTBEAT_MISS (R457): A 5 µs heartbeat period passes without a valid word. -/
  | heartbeatMiss (path : HbPath)
  /-- JOIN_WAIT_EXPIRY (R449): An electing unit hears no twin within JOIN_WAIT. -/
  | joinWaitExpiry
  /-- TAKEOVER (R464): TWN_CMD TAKEOVER switches over without a declaration. -/
  | takeover (i : Initiator)
  /-- FORCE_TAKEOVER (R464): TWN_CMD FORCE_TAKEOVER switches over from any allowed role. -/
  | forceTakeover (i : Initiator)
  /-- RESYNC (R465): TWN_CMD RESYNC puts the unit into RESYNC. -/
  | resync (i : Initiator)
  /-- HANDOVER (R466): TWN_CMD HANDOVER schedules a gapless role exchange. -/
  | handover (i : Initiator)
  /-- HANDOVER_SWITCH (R466): After tick T the twin becomes ACTIVE and the old active STANDBY. -/
  | handoverSwitch
  /-- STAND_DOWN (R464): TWN_CMD STAND_DOWN sets DEVICE_FAIL and fences the unit. -/
  | standDown (i : Initiator)
  /-- OWN_GNT_ASSERT (R463): An OWN_GNT assertion held 10 µs acts as TAKEOVER. -/
  | ownGntAssert
  /-- DALNOS_LINK_LOSS (R462): The Dalnos link is lost with both units healthy. -/
  | dalnosLinkLoss
  /-- DALNOS_LINK_UP (R451): The Dalnos link completes training at some width. -/
  | dalnosLinkUp (lanes : BitVec 16) (delay : Nat)
  /-- DAL_PAYLOAD (R356): The standby stores a mirrored payload. -/
  | dalPayload (fr : DalFrame)
  /-- DAL_ENTRY (R356): The standby stores a mirrored journal entry. -/
  | dalEntry (fr : DalFrame)
  /-- DAL_MACK (R356): A MACK makes the active unit's entries READY. -/
  | dalMack (fr : DalFrame)
  /-- DAL_FREE (R356): A FREE frame frees the standby's entry copies. -/
  | dalFree (fr : DalFrame)
  /-- DAL_STATE (R453): A STATE frame updates mirrored tick, epochs and inbound numbers. -/
  | dalState (fr : DalFrame)
  /-- DAL_TICK (R454): A TICK frame gives the standby its candidate tick. -/
  | dalTick (fr : DalFrame)
  /-- DAL_BULK (R465): A BULK frame delivers a chunk of the resynchronisation copy. -/
  | dalBulk (fr : DalFrame)
  /-- DAL_RDREQ (R355): An RDREQ asks the twin for a payload copy. -/
  | dalRdreq (fr : DalFrame)
  /-- DAL_RDRSP (R355): An RDRSP returns a payload for retransmission. -/
  | dalRdrsp (fr : DalFrame)
  /-- DAL_LNAK (R453): An LNAK makes the sender replay from the named frame. -/
  | dalLnak (fr : DalFrame)
  /-- DAL_IDLE (R453): A Dalnos IDLE frame carries nothing. -/
  | dalIdle (fr : DalFrame)
  /-- RESYNC_COMPLETE (R465): The bulk copy ends and the joining unit enters STANDBY. -/
  | resyncComplete
  /-- PRT_START (R470): PRT_CMD START schedules a LOADING partition's start. -/
  | prtStart (i : Initiator) (n : PartId)
  /-- PRT_HALT (R470): PRT_CMD HALT stops the partition's CPs. -/
  | prtHalt (i : Initiator) (n : PartId)
  /-- PRT_RESUME (R470): PRT_CMD RESUME continues a halted partition. -/
  | prtResume (i : Initiator) (n : PartId)
  /-- PRT_RESTART (R470): PRT_CMD RESTART cancels programs and schedules the CPs' re-entry. -/
  | prtRestart (i : Initiator) (n : PartId)
  /-- PARTITION_ENTER_SERVICE (R473): At the tick boundary the root block is written and CPs enter service. -/
  | partitionEnterService (n : PartId)
  /-- FRAME_CLEAR_DONE (R477): Clearing of a partition's frames completes. -/
  | frameClearDone (n : PartId)
  /-- GET_CHALLENGE (R497): Esfort issues a fresh challenge on the mailbox. -/
  | getChallenge (m : Mailbox)
  /-- GET_IDENTITY (R495): Esfort returns the identity certificate. -/
  | getIdentity (m : Mailbox)
  /-- ATTEST (R500): Esfort returns a signed attestation report. -/
  | attest (m : Mailbox) (nonce : List Byte)
  /-- EXTEND (R499): Esfort extends slot 15 with a supplied value. -/
  | extend (m : Mailbox) (v : List Byte)
  /-- ENROLL_OWNER (R497): Esfort enrolls the device owner and debug key. -/
  | enrollOwner (m : Mailbox) (owner debug : List Byte) (sg : Signed)
  /-- TRANSFER_OWNER (R498): Esfort replaces the device owner and erases seeds. -/
  | transferOwner (m : Mailbox) (owner debug : List Byte) (clearParts : Bool) (sg : Signed)
  /-- ENROLL_PART (R498): Esfort enrolls a partition owner and erases its seed. -/
  | enrollPart (m : Mailbox) (n : PartId) (owner debug : List Byte) (sg : Signed)
  /-- SET_DEBUG (R497): Esfort sets a scope's debug key. -/
  | setDebug (m : Mailbox) (sc : Scope) (debug : List Byte) (sg : Signed)
  /-- SET_PASSWORD (R497): Esfort sets or disables a scope's password digest. -/
  | setPassword (m : Mailbox) (sc : Scope) (salt digest : List Byte) (sg : Signed)
  /-- KWK_SET (R498): Esfort installs a scope's wrapping seed. -/
  | kwkSet (m : Mailbox) (sc : Scope) (underD : Bool) (seed : List Byte) (sg : Signed)
  /-- SVN_ADVANCE (R493): Esfort raises the minimum SVN of one image kind. -/
  | svnAdvance (m : Mailbox) (kind : BitVec 16) (svn : BitVec 16) (sg : Signed)
  /-- IDE_KEY (R559): Esfort installs wrapped key material for an IDE stream. -/
  | ideKey (m : Mailbox) (body : List Byte) (sg : Signed)
  /-- LIFECYCLE (R501): Esfort moves the lifecycle forward, effective at the next start-up. -/
  | lifecycle (m : Mailbox) (target : BitVec 4) (sg : Signed)
  /-- FA_RESPONSE (R503): A signed challenge response opens a field-access session. -/
  | faResponse (m : Mailbox) (sc : Scope) (sg : Signed)
  /-- FA_PASSWORD (R504): A password attempt opens a session or counts a failure. -/
  | faPassword (m : Mailbox) (sc : Scope) (pw : List Byte)
  /-- FA_CLOSE (R505): Esfort closes a field-access session. -/
  | faClose (m : Mailbox) (sc : Scope)
  /-- CHALLENGE_EXPIRY (R497): A challenge expires after 60 s. -/
  | challengeExpiry (m : Mailbox)
  /-- PW_BACKOFF_EXPIRY (R504): A password back-off period ends. -/
  | pwBackoffExpiry
  /-- JTAG_BOUNDARY_CONTROL (R502): Loading EXTEST, CLAMP or HIGHZ halts work and extends slot 14. -/
  | jtagBoundaryControl
  /-- COLD_RESET (R508): RST_L rises and start-up begins. -/
  | coldReset (b : BootIn)
  /-- HBM_TRAINING_DONE (R510): HBM training and zero fill complete or start-up fails. -/
  | hbmTrainingDone (ok : BitVec 4)
  /-- SELF_TEST_DONE (R512): Built-in self-test completes and failures enter the repair map. -/
  | selfTestDone (r : SelfTestResult)
  /-- STARTUP_READY (R508): G0 is applied and CFG_START.STAGE becomes READY. -/
  | startupReady
  /-- AUX_POWER_UP (R566): VDD_AUX comes up and resets the ESF block. -/
  | auxPowerUp
  /-- AGEING_THRESHOLD (R514): An ageing monitor crosses its threshold and a resource is retired. -/
  | ageingThreshold (ev : AgeEvent)
  /-- CFG_COMMIT (R520): CFG_CMD COMMIT copies an image and starts checking. -/
  | cfgCommit (i : Initiator)
  /-- CFG_CHECK_DONE (R520): Checks end with refusal or PENDING. -/
  | cfgCheckDone
  /-- GENERATION_APPLY (R520): At a tick boundary the generation's fields are written. -/
  | generationApply
  /-- CFG_ACCEPT (R521): CFG_CMD ACCEPT makes the probation generation STABLE. -/
  | cfgAccept (i : Initiator)
  /-- CFG_ROLLBACK (R522): CFG_CMD ROLLBACK starts a rollback. -/
  | cfgRollback (i : Initiator)
  /-- CFG_CAPTURE (R520): CFG_CMD CAPTURE writes an unsigned image of current values. -/
  | cfgCapture (i : Initiator)
  /-- STORE_SELAUFEN (R516): CFG_CMD STORE_SELAUFEN stores a verified image. -/
  | storeSelaufen (i : Initiator)
  /-- PROBATION_EXPIRY (R521): TICKS_LEFT reaches 0 and the generation becomes STABLE. -/
  | probationExpiry
  /-- ROLLBACK_APPLY (R522): At a tick boundary an older generation is re-checked and applied. -/
  | rollbackApply
  /-- ERROR_RECORD_ARRIVE (R525): The recording unit accepts a record. -/
  | errorRecordArrive (r : RecordIn)
  /-- ERR_TAIL_WRITE (R533): Advancing ERR_IDX.TAIL moves spilled records into the ring. -/
  | errTailWrite (i : Initiator) (tail : BitVec 32)
  /-- ERR_PIDX_TAIL_WRITE (R537): A view-ring TAIL write is taken or refused. -/
  | errPidxTailWrite (i : Initiator) (n : PartId) (lost tail : BitVec 16)
  /-- COUNTER_WRITE (R542): A write to an event counter sets it, keeping coinciding increments. -/
  | counterWrite (i : Initiator) (off : BitVec 24) (v : Word) (inc : Nat)
  /-- MSIX_SEND (R554): A pending vector is sent as an MSI-X message when enabled. -/
  | msixSend (fn : PcieFn) (vec : BitVec 11)
  /-- BAR2_READ (R552): A host read through the storage window returns data bits. -/
  | bar2Read (off : BitVec 30) (n : Nat)
  /-- BAR2_WRITE (R552): A host write through the storage window writes RAW words. -/
  | bar2Write (off : BitVec 30) (bytes : List Byte) (poisoned ideOk : Bool)
  /-- VF_WINDOW_READ (R555): A VF reads partition storage through its window. -/
  | vfWindowRead (vf : PartId) (off : BitVec 18) (n : Nat)
  /-- VF_WINDOW_WRITE (R555): A VF writes partition storage through its window. -/
  | vfWindowWrite (vf : PartId) (off : BitVec 18) (bytes : List Byte)
  /-- PCI_WIN_WRITE (R553): A PCI_WIN write moves the storage window. -/
  | pciWinWrite (i : Initiator) (v : Word)
  /-- PCI_HNOTE (R556): A host notice sets EVPEND.HOST on a partition CP. -/
  | pciHnote (i : Initiator) (n : PartId) (v : Word)
  /-- PCI_MSG (R557): A CP write raises a PF0 or VF MSI-X vector. -/
  | pciMsg (i : Initiator) (n : PartId) (v : Word)
  /-- CONFIG_REQUEST (R509): A PCIe configuration request is answered or retried. -/
  | configRequest (fn : PcieFn) (op : ConfigOp) (t : Word)
  /-- PERST_ASSERT (R560): PERST_L resets only the PCIe interface. -/
  | perstAssert
  /-- PCIE_LINK_DOWN (R560): The PCIe link goes down. -/
  | pcieLinkDown
  /-- PCIE_LINK_UP (R554): The PCIe link comes up and pending messages may be sent. -/
  | pcieLinkUp (width : BitVec 5) (speed : BitVec 3)
  /-- FLR_VF (R560): A function-level reset of a VF resets its configuration. -/
  | flrVf (n : PartId)
  /-- FLR_PF (R560): A function-level reset of PF0 acts as PERST_L. -/
  | flrPf
  /-- LKP_SPARE_CP (R570): Mailbox SPARE_CP spares a logical CP. -/
  | lkpSpareCp (i : Initiator) (tag : Byte)
  /-- LKP_POWER_DOWN (R570): Mailbox POWER_DOWN persists, sets DEVICE_FAIL and closes domains. -/
  | lkpPowerDown (i : Initiator) (tag : Byte)
  /-- LKP_ECHO (R570): Mailbox ECHO copies ARG_0 into RES_0. -/
  | lkpEcho (i : Initiator) (tag : Byte)
  /-- LKP_RESERVED_CODE (R570): A reserved mailbox code completes with BAD_CODE. -/
  | lkpReservedCode (i : Initiator) (tag code : Byte)
  /-- CS_FREQ_WRITE (R583): A CS_CLK.FREQ write retargets the site's clock. -/
  | csFreqWrite (i : Initiator) (s : SiteId) (v : Word)
  /-- THERMAL_WARN (R585): A sensor reaching WARN sets WARN_SEEN. -/
  | thermalWarn (sensor : Fin 46) (temp : BitVec 16)
  /-- THROT_L_CHANGE (R586): THROT_L changes level and starts or ends throttling. -/
  | throtLChange (low : Bool)
  /-- THROTTLE_STEP (R586): Every 100 µs CEIL is lowered or raised by one step. -/
  | throttleStep (temps : List (BitVec 16)) (t : Word)
  /-- POWER_CAP (R587): Package power above LIMIT applies throttle steps. -/
  | powerCap (watts : BitVec 16)
  /-- EMERGENCY_SHUTDOWN (R588): TRIP, a rail fault or PWROK falling stops every clock. -/
  | emergencyShutdown (thermal : Bool)
  /-- RESERVED_ACCESS (R562): A reserved location is read as zero or discarded with a record. -/
  | reservedAccess (i : Initiator) (off : BitVec 24) (write : Bool)
  /-- REGISTER_WRITE (R8): A write to a register with no row of its own takes effect by access code. -/
  | registerWrite (i : Initiator) (off : BitVec 24) (v : Word)
  /-- RESET_ASSERT (R507): RST_L falls, resetting every domain except the always-on domain and halting all work until it rises again. -/
  | resetAssert
  /-- AUX_POWER_LOSS (R581): VDD_AUX is removed, the device enters OFF and Esfort, the SMBus slave and the heartbeat stop. -/
  | auxPowerLoss
  /-- PWROK_EDGE (R581): PWROK changes level while RST_L is low, moving the device between the AUX and ON power states. -/
  | pwrokEdge (level : Bool)
  /-- ERROR_RING_READ (R538): A read of ERR_IDX, ERR_PIDX_n or a ring record's word 0 re-arms the error signal and stops coalescing into that record. -/
  | errorRingRead (i : Initiator) (r : RingRead)
  /-- JTAG_DEBUG_ACCESS (R502): While debug and test access is open, a register or storage access through the IEEE 1149.1 port reaches any field or word whatever its access code. -/
  | jtagDebugAccess (a : JtagAccess)
  deriving DecidableEq, Repr

end Sys2Proof
end

