-- ==== Sys2Proof/Machine/State.lean ====
section
/-!
DEFINITION. The state of the KR-9600 as plain data: the registers of the register space, main storage with its tags and
poison, the caches, the CPs with their checkpoints and held outputs, and every unit of the I/O die; the reasons a step can
stop; the state after reset.
-/

namespace Sys2Proof.Machine

/-- Why the model stops. -/
inductive Fault where
  /-- A command reaches a physical address outside main storage (R67): raised by the storage operations. Safe: the
  hardware has no such location. -/
  | noStorage
  deriving DecidableEq, Repr

/-- Why the model gives no meaning. -/
inductive Refusal where
  /-- A command that has no meaning yet: raised by the dispatcher alone. Safe. -/
  | notModelled (mnemonic : String)
  deriving DecidableEq, Repr

/-! Association lists sorted by key, the one form of every sparse table. -/

/-- The entry of a key, or the default. -/
def alGet {β : Type} (d : β) : List (Nat × β) → Nat → β
  | [], _ => d
  | (a, v) :: t, k => if a = k then v else alGet d t k

/-- Insert or replace an entry, keys rising. -/
def alIns {β : Type} : List (Nat × β) → Nat → β → List (Nat × β)
  | [], k, v => [(k, v)]
  | (a, w) :: t, k, v =>
    if a < k then (a, w) :: alIns t k v else if a = k then (k, v) :: t else (k, v) :: (a, w) :: t

/-- Remove the entry of a key. -/
def alErase {β : Type} : List (Nat × β) → Nat → List (Nat × β)
  | [], _ => []
  | (a, w) :: t, k => if a = k then alErase t k else (a, w) :: alErase t k

/-- Set an entry, listing none that equals the default. -/
def alSet {β : Type} [DecidableEq β] (d : β) (l : List (Nat × β)) (k : Nat) (v : β) : List (Nat × β) :=
  if v = d then alErase l k else alIns l k v

/-! Capabilities and the CP (chapters 03, 04, 07, 10). -/

/-- A capability (R65, R84): bit i of perms is CAPH bit 40 + i. -/
structure Cap where
  /-- base address, length, permissions, object type; sealed or not (R65) -/
  base : Word
  len : BitVec 40
  perms : BitVec 12
  otype : Byte
  isSealed : Bool
  deriving DecidableEq, Repr

/-- The null capability (R84). -/
def Cap.null : Cap := ⟨0, 0, 0, 0, false⟩

/-- The state of a CP that its checkpoint holds (R271). -/
structure CpRegs where
  /-- g0 to g31 (R81) -/
  g : Vector TWord 32
  /-- p0 to p7, bit i is p_i (R83) -/
  p : BitVec 8
  /-- c0 to c15 (R84) -/
  c : Vector Cap 16
  /-- the program counter -/
  pc : Word
  /-- PS (R86) -/
  ps : Word
  /-- the return stack, newest entry first, at most 32 (R84, R108) -/
  rs : List Word
  /-- k0 TSP, k1 TVEC, k2 FE_VEC, k3 FE_STAT, k4 EVPEND, k5 WDOG (R217) -/
  tsp : Word
  tvec : Word
  feVec : Word
  feStat : Word
  evpend : Word
  wdog : Word
  /-- k16 ESCV, k17 CARDB, k18 COLCTL, k19 AXEN (R217) -/
  escv : Word
  cardb : Word
  colctl : Word
  axen : Word
  /-- fe0 to fe15 (R207) -/
  fe : Vector TWord 16
  /-- shadow stacks E and G, newest first -/
  shE : List Word
  shG : List Word
  /-- the trap code and fast entry code capabilities captured under R196 -/
  trapCap : Cap
  feCap : Cap
  /-- the escape vector cache of R131: 32 entry addresses, none when empty -/
  escVec : Vector (Option Word) 32
  deriving DecidableEq, Repr

/-- The registers of R85; c15 and the program counter are set from the entry capability. -/
def CpRegs.init (entry : Cap) : CpRegs where
  g := (Vector.replicate 32 TWord.raw0).set 0 (TWord.ofFix 0)
  p := 1
  c := (Vector.replicate 16 Cap.null).set 15 entry
  pc := entry.base
  ps := 0x4000
  rs := []
  tsp := 0
  tvec := 0
  feVec := 0
  feStat := 0
  evpend := 0
  wdog := 0
  escv := 0
  cardb := 0
  colctl := 0
  axen := 0
  fe := Vector.replicate 16 TWord.raw0
  shE := []
  shG := []
  trapCap := Cap.null
  feCap := Cap.null
  escVec := Vector.replicate 32 none

/-- A store held in a core site until the next checkpoint (R272): the bytes it writes, and the tag and collector bits it
gives the word; none keeps what is there. -/
structure StoreOut where
  /-- address of the word, its new data, the bytes of it that are written -/
  pa : Nat
  data : Word
  bytes : BitVec 8
  /-- the type tag and the collector bits that it takes -/
  tag : Option (BitVec 6)
  col : Option (BitVec 2)
  /-- both words of a capability pair are written whole (R62, R104) -/
  whole : Bool
  deriving DecidableEq, Repr

/-- A line operation (R252). -/
inductive LineOp where
  | inval | clean | flush
  deriving DecidableEq, Repr

/-- The outputs that wait for a checkpoint (R272). -/
inductive Held where
  /-- a store, with the POLICY of its region (R259) -/
  | store (o : StoreOut) (pol : Nat)
  | line (op : LineOp) (la : Nat)
  /-- a store into the register window that waits in a pair (R285, R480): view offset and value -/
  | reg (x : Nat) (v : Word)
  /-- a healing write (R152): the store, its POLICY, the type tag and data bits that the slot must still hold, and the card
  write that comes before it -/
  | heal (o : StoreOut) (pol : Nat) (tag : BitVec 6) (data : Word) (card : Option (StoreOut × Nat))
  deriving DecidableEq, Repr

/-- A pending imprecise arithmetic trap (R179, R181): the faulting address and word, the enabled exceptions. -/
structure ArithTrap where
  /-- the faulting instruction and its address, the enabled exceptions -/
  addr : Word
  insn : BitVec 32
  exc : BitVec 11
  /-- instructions retired since (R179) -/
  age : Nat
  deriving DecidableEq, Repr

/-- A logical CP. -/
structure Cp where
  /-- the architected registers (R271) -/
  regs : CpRegs
  /-- the checkpoint store (R271) -/
  ckpt : CpRegs
  /-- outputs since the checkpoint, oldest first (R272) -/
  held : List Held
  /-- instructions retired since the checkpoint (R273) -/
  retired : Nat
  /-- transient faults in this interval (R276) -/
  attempts : Nat
  /-- the pending arithmetic trap (R181), and the one of the checkpoint (R182, R271) -/
  arith : Option ArithTrap
  ckptArith : Option ArithTrap
  /-- an event goes before the next instruction: the interrupt that ended WAIT (R110), one that became pending during an
  escape (R153) or a resumable instruction (R199) -/
  evDue : Bool
  /-- asynchronous machine checks, oldest first: RSEQ and address (R539) -/
  mck : List (BitVec 32 × Word)
  mckOvf : Bool
  /-- in service (R18, R470) -/
  inService : Bool
  /-- stopped by a partition HALT (R470) -/
  halted : Bool
  /-- halted for debug (R294, R482); a halt that waits for the end of the sparing (R297) -/
  debugHalt : Bool
  haltDue : Bool
  /-- checkstopped (R210) -/
  checkstop : Bool
  /-- the checkstop came from a machine check or a core error (R210) -/
  checkstopCore : Bool
  /-- stopped in WAIT (R110) -/
  waiting : Bool
  /-- frozen while it is spared (R281) or copied (R295) -/
  frozen : Bool
  /-- the instruction that waits at a sync point of a pair (R286) -/
  syncWait : Option (BitVec 32)
  /-- when that wait began, and the comparator's agreement to perform it -/
  syncSince : Word
  syncGo : Bool
  /-- RDCYC: cycles counted, and the time from which the present clock counts (R111) -/
  cycBase : Nat
  cycSince : Word
  /-- the customer instruction in progress (R231, R242) -/
  custInsn : Bool
  /-- its decode-table slot -/
  custSlot : Nat
  /-- its word, and what its routine has written and not yet committed (R231) -/
  custWord : BitVec 32
  custRegs : CpRegs
  custHeld : List Held
  /-- the site to which it is being moved, and its checkpoint was lost (R281, R282) -/
  spareTo : Option SiteId
  ckptLost : Bool
  deriving DecidableEq, Repr

def Cp.reset : Cp where
  regs := CpRegs.init Cap.null
  ckpt := CpRegs.init Cap.null
  held := []
  retired := 0
  attempts := 0
  arith := none
  ckptArith := none
  evDue := false
  mck := []
  mckOvf := false
  inService := false
  halted := false
  debugHalt := false
  haltDue := false
  checkstop := false
  checkstopCore := false
  waiting := false
  frozen := false
  syncWait := none
  syncSince := 0
  syncGo := false
  cycBase := 0
  cycSince := 0
  custInsn := false
  custSlot := 0
  custWord := 0
  custRegs := CpRegs.init Cap.null
  custHeld := []
  spareTo := none
  ckptLost := false

/-! Caches (chapter 09). -/

/-- A directory entry: a line address, dirty or not, or the reserved state of R251, which holds no data. -/
structure CLine where
  /-- the line address; dirty; the reserved state (R251) -/
  la : Nat
  dirty : Bool
  resv : Bool
  deriving DecidableEq, Repr

/-- One set: its ways and its tree pseudo-LRU bits, bit i for node i (R245). -/
structure CSet where
  /-- the entry in each way; the tree bits (R245) -/
  ways : List (Option CLine)
  plru : Nat
  deriving DecidableEq, Repr

/-- A cache array: the sets that ever held a line, by index. -/
abbrev Cache := List (Nat × CSet)

/-- Line contents kept apart from main storage: line address and eight words. -/
abbrev LineData := List (Nat × List TWord)

/-- Main storage as every coherent initiator sees it: data and tag bytes by address (R68), the poisoned words (R78), and
what the HBM holds for a line that some cache holds dirty (R252). -/
structure Mem where
  /-- bytes and tag bytes by physical address (R67, R68) -/
  cells : List Host.Cell
  /-- poisoned words (R78) -/
  poison : List Nat
  /-- what the HBM holds for a line that is dirty in a cache (R252) -/
  older : LineData
  deriving DecidableEq, Repr

/-- Nothing written yet: every byte reads 0, the zero fill of R510. -/
def Mem.empty : Mem := ⟨[], [], []⟩

/-- What an unlisted address reads as. Assumption 8 (DESIGN CHOICE). -/
abbrev memDefault : Byte := 0

/-- A microcode sequencer (R219, R221, R224, R229): control store, entry marks, the running state. -/
structure Seq where
  /-- microwords by location -/
  store : List (Nat × BitVec 160)
  /-- the locations that carry the entry mark -/
  entries : List Nat
  /-- the address of the microword to run (R219) -/
  upc : BitVec 14
  /-- the microstack (R223) -/
  ustack : List (BitVec 14)
  /-- the loop counter (R223) -/
  lc : BitVec 16
  /-- temporaries t0 to t15, and the second bank of an engine (R224, R235) -/
  t : Vector TWord 16
  t2 : Vector TWord 16
  /-- e0 to e31 of an engine (R224) -/
  e : Vector Word 32
  /-- the zero, negative, carry and tag-check flags (R223) -/
  flags : BitVec 4
  /-- bits 3:0 of the ALU result of the microword that waits (R226, DISP) -/
  disp : BitVec 4
  /-- a routine runs; it holds at a waiting microword (R226) -/
  running : Bool
  waiting : Bool
  /-- microcycles since the last safe point (R230) -/
  cycles : Nat
  /-- an engine: the context whose routine runs; its tick and error events; the event routine runs (R235); the last
  memory-port access faulted -/
  ctxNo : Option (Fin 16)
  tickEv : Bool
  errEv : Bool
  inEvent : Bool
  /-- the microstack depth to which the event routine returns; what it interrupted: a waiting microword, a routine -/
  evDepth : Nat
  evWait : Bool
  evRun : Bool
  memFault : Bool
  /-- what the memory port loaded last (R224) -/
  memData : TWord
  /-- CE_T: the journal slots whose frames the routine passes to the bus (R316) -/
  txSlots : List Nat
  /-- local working store (R299), by byte address of a word -/
  sram : List (Nat × Word)
  /-- the levels of TP_CTL_7 to TP_CTL_0, and what TP_AD is driven with, none when released (R222, R227) -/
  tpCtl : Byte
  tpAd : Option (BitVec 32)
  deriving DecidableEq, Repr

def Seq.reset : Seq where
  store := []
  entries := []
  upc := 0
  ustack := []
  lc := 0
  t := Vector.replicate 16 TWord.raw0
  t2 := Vector.replicate 16 TWord.raw0
  e := Vector.replicate 32 0
  flags := 0
  disp := 0
  running := false
  waiting := false
  cycles := 0
  ctxNo := none
  tickEv := false
  errEv := false
  inEvent := false
  evDepth := 0
  evWait := false
  evRun := false
  memFault := false
  memData := TWord.raw0
  txSlots := []
  sram := []
  tpCtl := 0
  tpAd := none

/-- A core site: its caches, RLB and sequencer. -/
structure Site where
  /-- the L1 and L2 caches (R243, R244) -/
  l1i : Cache
  l1d : Cache
  l2 : Cache
  /-- line contents of the L2 while it is disabled (R262) -/
  l2Frozen : LineData
  /-- clean lines that came back with an enable of aged contents and differ from storage (R263) -/
  l2Stale : LineData
  /-- L1D lines whose contents differ from what the next level gives (R257, R262); words that are poisoned in the L1I (R58) -/
  l1dStale : LineData
  l1iBad : List Nat
  /-- lines of the disabled L2 that have been stored past it (R252, R270) -/
  l2Old : List Nat
  /-- region numbers in the RLB, the descriptors it holds, and entries that fail parity (R72, R74) -/
  rlb : Cache
  rlbD : List (Nat × Word)
  rlbBad : List Nat
  /-- the micro-sequencer and control store (R219) -/
  seq : Seq
  /-- times of the retries within the last second (R276) -/
  retryTimes : List Word
  /-- the site is to be spared after its next checkpoint (R276) -/
  spareDue : Bool
  deriving DecidableEq, Repr

def Site.reset : Site := ⟨[], [], [], [], [], [], [], [], [], [], [], Seq.reset, [], false⟩

/-- An entry of a pair's input log (R284). -/
inductive LogEntry where
  /-- a loaded word, an old value, a time or EVPEND -/
  | value (w : TWord)
  /-- an event: the leader's retired-instruction count at which it is taken, its EVPEND bit, and the machine check taken
  from the CP's queue -/
  | event (count bit : Nat) (mck : Option (BitVec 32 × Word))
  deriving DecidableEq, Repr

/-- A checkpoint interval of a pair that the comparator has not verified (R285). -/
structure Ival where
  /-- its outputs in the delay store buffer, its entries in the log, its retired instructions -/
  outs : Nat
  logs : Nat
  count : Nat
  /-- the leader's state at the checkpoint that ends it (R271) -/
  regs : CpRegs
  arith : Option ArithTrap
  deriving DecidableEq, Repr

/-- A pair (R284, R285, R288): what the comparator holds for it. -/
structure Pair where
  /-- the delay store buffer: outputs of checked intervals not yet verified, oldest first -/
  dsb : List Held
  /-- the intervals that wait to be verified, oldest first (R285) -/
  ivals : List Ival
  /-- the leader's state at the last verified checkpoint (R288), with its pending arithmetic trap -/
  verified : CpRegs
  verArith : Option ArithTrap
  /-- the input log: what the follower takes from the leader (R284), oldest first -/
  log : List LogEntry
  /-- disagreements in this interval (R288) -/
  disagreed : Nat
  /-- both members are under core-site self-test (R288) -/
  testing : Bool
  /-- the re-pairing copy runs (R295) -/
  copying : Bool
  /-- a re-pairing waits for the leader's next checkpoint (R295) -/
  repairDue : Bool
  /-- length of the log at the leader's latest checkpoint -/
  logMark : Nat
  /-- instructions that the leader has retired since the pair formed (R284) -/
  retired : Nat
  /-- transient faults of the follower in its interval (R276, R289) -/
  attempts : Nat
  deriving DecidableEq, Repr

def Pair.reset : Pair where
  dsb := []
  ivals := []
  verified := CpRegs.init Cap.null
  verArith := none
  log := []
  disagreed := 0
  testing := false
  copying := false
  repairDue := false
  logMark := 0
  retired := 0
  attempts := 0

/-- What the device sends out. Assumption 9 (DESIGN CHOICE). -/
inductive OutEvent where
  /-- a frame on a port (R370) -/
  | frame (u : Nat) (fr : Frame)
  /-- a Dalnos frame (R452) -/
  | dal (fr : DalFrame)
  /-- a heartbeat word on a path (R455) -/
  | heartbeat (path : HbPath) (w : Word)
  /-- an MSI-X message (R554): function 0 is PF0, n + 1 is VF_n -/
  | msix (fn : Nat) (vec : Nat)
  /-- a TICK_OUT pulse: start and width in ns (R42) -/
  | tickOut (start width : Nat)
  /-- a level on a named output pin -/
  | pin (name : String) (level : Bool)
  /-- a Towpath control land: its level, or high impedance (R227, R447) -/
  | land (name : String) (level : Option Bool)
  /-- TP_AD_31 to TP_AD_0: their levels, or high impedance -/
  | towAd (v : Option (BitVec 32))
  deriving DecidableEq, Repr

/-- The answer to a host request. Assumption 9 (DESIGN CHOICE). -/
inductive HostResp where
  | none
  /-- a register read -/
  | word (v : Word)
  /-- a storage read; a poisoned TLP carries no data the host may use (R80) -/
  | bytes (b : List Byte) (poisoned : Bool)
  /-- an Esfort response: code and body (R497) -/
  | doe (code : Nat) (body : List Byte)
  /-- a configuration request: Configuration Request Retry Status when not served (R509), and the dword that a read gets -/
  | config (served : Bool) (v : BitVec 32)
  deriving DecidableEq, Repr

/-- The error-recording unit (R525 to R538) beside its registers. -/
structure ErrUnit where
  /-- RSEQ of the next group (R531) -/
  rseq : BitVec 32
  /-- ring positions whose word 0 software has read (R535) -/
  readPos : List Nat
  /-- the same for view ring n, key 32 n + i -/
  viewRead : List Nat
  /-- RSEQ of the latest record each source has placed (R535) -/
  last : List (Nat × Nat)
  /-- the same for view ring n, key 256 n + source -/
  viewLast : List (Nat × Nat)
  /-- position of the oldest spilled record (R533) -/
  spillRd : Nat
  /-- the error signal of PF0 has been given and ERR_IDX not read since (R538) -/
  signalled : Bool
  /-- the same for each view -/
  viewSignalled : BitVec 8
  deriving DecidableEq, Repr

/-- The MSI-X state of a function (R554). -/
structure FnState where
  /-- Bus Master Enable, MSI-X Enable, Function Mask (R554) -/
  busMaster : Bool
  msixEn : Bool
  fnMask : Bool
  /-- vectors whose mask bit is clear -/
  unmasked : List Nat
  /-- the pending bit array -/
  pend : List Nat
  deriving DecidableEq, Repr

/-- A function after reset: every vector masked (R560). -/
def FnState.reset : FnState := ⟨false, false, false, [], []⟩

/-- The PCIe interface (chapter 21). -/
structure PcieUnit where
  /-- PF0, then VF_0 to VF_7 -/
  fns : Vector FnState 9
  /-- VF Enable (R549) -/
  vfEnable : Bool
  /-- PCI_VWIN_n of each view (R555) -/
  vwin : Vector Word 8
  /-- keys of stream, direction, key-set (R559), key 4 stream + 2 direction + set: key and initial IV field -/
  ideKeys : List (Nat × List Byte)
  deriving DecidableEq, Repr

/-! Channel engines, journal, ports, transform engines (chapters 11 to 14). -/

/-- A program (R301 to R306). -/
structure Prog where
  /-- partition, program number, channel capability (R301, R303) -/
  part : PartId
  pgm : BitVec 16
  cap : Cap
  /-- the address of its current command -/
  addr : Word
  /-- started by a doorbell, its start-table index (R305) -/
  db : Bool
  sidx : Byte
  /-- started while its pair was unverified (R304) -/
  unv : Bool
  deriving DecidableEq, Repr

/-- A completion record but for PHASE (R330), and whether it raises the channel interrupt (R333). -/
structure CRec where
  /-- the four words; whether the channel interrupt is raised -/
  words : List Word
  irq : Bool
  deriving DecidableEq, Repr

/-- A staged payload: offset within the journal area, length. -/
structure Payload where
  /-- offset and length in bytes -/
  doff : Nat
  len : Nat
  deriving DecidableEq, Repr

/-- Where a program's current command stands. -/
inductive Phase where
  /-- the next command is to be fetched -/
  | fetch
  /-- fetched and checked -/
  | fetched
  /-- a SEND whose staging is due -/
  | staging
  /-- a tick-bound SEND sealed for its tick -/
  | sealedCmd
  /-- a SEND whose frames have sequence numbers -/
  | sending
  /-- a RECV whose buffer is posted -/
  | posted
  /-- a WAITT or SYNC -/
  | waiting
  /-- a job chain runs on behalf of an XFORM, SEND or RECV -/
  | job
  /-- a customer routine runs (R316) -/
  | routine
  /-- complete with a status and subcode; the record is due -/
  | done (status sub : Nat)
  /-- the record waits for ring space; whether the program goes on -/
  | stalled (r : CRec) (goes : Bool)
  deriving DecidableEq, Repr

/-- A stage of a job chain (R390, R394, R414). -/
structure Stage where
  /-- the descriptor -/
  desc : List Word
  /-- the descriptor that the stream began with, and its AAD or dictionary -/
  orig : List Word
  aux : List Byte
  /-- the inputs of this stream so far, each with the mark of a job that ended with FINAL clear -/
  segs : List (List Byte × Bool)
  /-- output bytes of the stream given out by earlier jobs -/
  emitted : Nat
  /-- this job's input and output, once the stage has run -/
  inp : List Byte
  out : List Byte
  ran : Bool
  /-- job status (R393) -/
  status : Nat
  /-- input bytes consumed as the result record states them -/
  consumed : Nat
  /-- check value (R412) -/
  check : BitVec 32
  deriving DecidableEq, Repr

/-- A program in a context. -/
structure Ctx where
  /-- the program, and how far its command has come -/
  prog : Prog
  phase : Phase
  /-- the four words of the command -/
  cmd : List Word
  /-- JUMPs in a row (R313) -/
  jumps : Nat
  /-- target tick as fetched, and the schedule offset then (R323) -/
  target : Nat
  offAt : Nat
  /-- the stages of its job chain -/
  stages : List Stage
  /-- staged, not yet sealed -/
  staged : List Payload
  /-- sequence numbers that the command's frames took -/
  seqs : List Nat
  /-- frames and bytes that the command has made -/
  frames : Nat
  bytes : Nat
  /-- the tick at which the frames were committed -/
  tick : Nat
  /-- endpoint and number of every frame that the program has sent (R328, SYNC) -/
  history : List (Nat × Nat)
  /-- a RECV: bytes taken, sequence numbers taken, SUB flags of R592 -/
  got : List Byte
  subBits : Nat
  /-- a RECV under XF: the status it ends with when its chain succeeds -/
  rxStatus : Nat
  /-- the command words as its routine sees and changes them (R224) -/
  regs : List Word
  /-- the number of this fetch on its engine (R314, R327) -/
  fetchNo : Nat
  /-- the engine is CE_T (R316) -/
  tow : Bool
  deriving DecidableEq, Repr

/-- A command sealed for its tick (R317, R318). -/
structure SealedCmd where
  /-- context, program, endpoint, target tick, schedule offset, payloads, fetch number -/
  ctx : Nat
  prog : Prog
  ep : Nat
  target : Nat
  offAt : Nat
  payloads : List Payload
  no : Nat
  deriving DecidableEq, Repr

/-- A tick-bound SEND that was fetched for a tick (R319, R320). -/
structure TbFetch where
  /-- fetch number, program, endpoint, target tick and schedule offset as fetched, COUNT, FSIZE -/
  no : Nat
  prog : Prog
  ep : Nat
  target : Nat
  offAt : Nat
  count : Nat
  fsize : Nat
  /-- its bytes count against the reservation -/
  counts : Bool
  deriving DecidableEq, Repr

/-- What a completed RECV delivered, for R592. -/
structure Delivered where
  /-- endpoint, sequence numbers, program, command address, partition -/
  ep : Nat
  seqs : List Nat
  pgm : BitVec 16
  cmd : Word
  part : PartId
  /-- an ABORT has been reported -/
  reported : Bool
  deriving DecidableEq, Repr

/-- A channel engine. Of its local SRAM (R299) the prefetch area is the command words of the contexts, and the transmit window
is empty between commands. Assumption 90 (DEDUCED). -/
structure Engine where
  /-- the start queue, oldest first -/
  queue : List Prog
  /-- the sixteen contexts (R303) -/
  ctx : Vector (Option Ctx) 16
  /-- the next program number (R303) -/
  nextPgm : BitVec 16
  /-- the schedule offset (R323) -/
  offset : Nat
  /-- the engine is retired (R339) -/
  retired : Bool
  /-- RUN was cleared during recovery (R340) -/
  stopDue : Bool
  /-- the state to return to after recovery -/
  after : Nat
  /-- times of the faults within the last second (R339) -/
  faultTimes : List Word
  /-- partitions that had an active program when the fault came -/
  hadActive : List Nat
  /-- commands sealed for a tick (R317) -/
  sealedCmds : List SealedCmd
  /-- contexts with a posted RECV, in fetch order (R314) -/
  posted : List Nat
  /-- what completed RECVs delivered (R592) -/
  delivered : List Delivered
  /-- tick-bound SENDs fetched for ticks whose commit point has not passed, in fetch order (R319, R320) -/
  resv : List TbFetch
  /-- the number of the next fetch -/
  nextFetch : Nat
  /-- pound-sliced mode: 0 to 7 the slice of that partition, 8 + n the turn of partition n in the time that remains, 16 before
  the first tick (R326) -/
  slice : Nat
  /-- whose turn comes first in the time that remains (R326) -/
  turn : Nat
  /-- contexts that have had their turn of R327 in this round -/
  served : List Nat
  /-- the micro-sequencer and control store (R219) -/
  seq : Seq
  deriving DecidableEq, Repr

def Engine.reset : Engine :=
  ⟨[], Vector.replicate 16 none, 0, 0, false, false, 0, [], [], [], [], [], [], 0, 16, 0, [], Seq.reset⟩

/-- The journal unit's working state for unit u (chapter 12); the entries stand in the journal area. -/
structure JnlUnit where
  /-- slots that are not FREE, in the order in which they were taken -/
  slots : List Nat
  /-- the slot last taken -/
  lastSlot : Nat
  /-- payloads in the pool, each with its number of uses -/
  pool : List (Payload × Nat)
  /-- by endpoint: the payloads of its latest staged tick, each with its mark of end of message (R348, R52) -/
  retained : List (Nat × List (Payload × Bool))
  /-- slots whose entry, or payload, the twin has not acknowledged (R356) -/
  mirEntry : List Nat
  mirPayload : List Nat
  /-- slots that wait for the twin's copy of a payload (R355) -/
  rdWait : List Nat
  /-- by endpoint: the highest number sent (R350) -/
  sentHi : List (Nat × Nat)
  /-- the target tick of the last commit point, its time, and whether it fell in LOST -/
  committed : Option Nat
  /-- cut-through messages to abort: endpoint, first and last number (R380, R407) -/
  aborts : List (Nat × Nat × Nat)
  /-- slots whose frames carry CUT (R380) -/
  cut : List Nat
  /-- payloads that have been sent to the twin, and slots whose entry and payload the twin has acknowledged (R355, R356) -/
  paySent : List Payload
  mirDone : List Nat
  deriving DecidableEq, Repr

def JnlUnit.reset : JnlUnit := ⟨[], 65535, [], [], [], [], [], [], none, [], [], [], []⟩

/-- A channel port (chapter 13). -/
structure Port where
  /-- lanes that training runs on, and those that have failed -/
  lanes : BitVec 4
  failed : BitVec 4
  /-- the partner's TRAIN frame of this training has arrived: lanes it names -/
  partnerLanes : Option (BitVec 4)
  /-- this port's own TRAIN frame has been sent -/
  trainSent : Bool
  /-- credit: the partner's advertisement and latest count, blocks used (R374) -/
  txAdv : Nat
  txCount : Nat
  txUsed : Nat
  /-- blocks received and freed since training, and the count last sent -/
  rxUsed : Nat
  rxFreed : Nat
  rxTold : Nat
  /-- the receive pool: frames that wait for a RECV -/
  pool : List (Nat × Frame)
  /-- endpoints announced in this epoch and the partner epoch held (R592) -/
  partner : List (Nat × BitVec 16)
  /-- endpoints whose EPOCH frame is still to be echoed, and those to be announced first (R377) -/
  epochOpen : List Nat
  epochDue : List Nat
  /-- accepted frames per endpoint since the last acknowledgement -/
  ackDue : List (Nat × Nat)
  /-- a newer epoch was echoed (R378) -/
  fenced : Bool
  /-- by endpoint: the partner epoch accepted last, which an ACK echoes (R371) -/
  accepted : List (Nat × BitVec 16)
  /-- frames taken by a RECV under XF whose data is not yet visible: endpoint, number, blocks, oldest first (R314, R374) -/
  heldAck : List (Nat × Nat × Nat)
  /-- by endpoint: the number acknowledged last (R358) -/
  acked : List (Nat × Nat)
  deriving DecidableEq, Repr

def Port.reset : Port := ⟨0, 0, none, false, 0, 0, 0, 0, 0, 0, [], [], [], [], [], false, [], [], []⟩

/-- A key in a slot (R396): key bytes, KTYPE and USAGE, and the count of loads and clears of the slot. -/
structure KeySlot where
  /-- the key when loaded, its type, its usage and the number of loads (R395, R397) -/
  key : Option (List Byte)
  ktype : Nat
  usage : Byte
  gen : Nat
  /-- a commit takes the slot from its owner when the running job ends (R395) -/
  clearDue : Bool
  deriving DecidableEq, Repr

/-- A suspended job's state as sealed in a resume area (R414). -/
structure SavedJob where
  /-- its number, partition and stages -/
  id : Nat
  part : PartId
  stages : List Stage
  /-- load counts of the slots that the stages name -/
  gens : List Nat
  deriving DecidableEq, Repr

/-- The cipher and compression engines (chapter 14). -/
structure Xform where
  /-- slots that differ from empty -/
  slots : List (Nat × KeySlot)
  /-- jobs sealed in resume areas (R414) -/
  saved : List SavedJob
  /-- the next number of a sealed job -/
  nextId : Nat
  /-- times of unit errors, key 8 kind + index (R420) -/
  faults : List (Nat × Word)
  deriving DecidableEq, Repr

def KeySlot.reset : KeySlot := ⟨none, 0, 0, 0, false⟩
def Xform.reset : Xform := ⟨[], [], 0, []⟩

/-- The lock tick unit (chapter 02) beside its registers. -/
structure TickUnit where
  /-- the source in effect (R29) -/
  src : Nat
  /-- a source that takes effect at the next tick of the present one -/
  srcDue : Option Nat
  /-- edges counted by the dividers (R28) -/
  divs : Vector Nat 4
  /-- the timer's valid period, 0 none, and when its phase began or its last tick came -/
  period : Nat
  /-- a period written that applies from the timer's next tick -/
  nextPeriod : Nat
  /-- when the timer ticked last (R31) -/
  phase : Word
  /-- the most recent tick was accepted -/
  lastAccepted : Bool
  /-- a tick has come since ENABLE or a source change in ACQUIRING -/
  anyTick : Bool
  /-- coasted ticks in a row -/
  coasted : Nat
  /-- partitions whose DONE test of this pound has been made (R47) -/
  tested : BitVec 8
  /-- the commit point of the next tick has passed (R45), and it fell in LOST (R39) -/
  commitDone : Bool
  commitLost : Bool
  /-- by partition: T0 of R44 -/
  t0 : Vector Nat 8
  /-- events accepted in this pound on each Towpath line, and the latest event's time -/
  tpCount : Vector Nat 4
  tpLast : Vector (Option Word) 4
  /-- the line is active, and has been since the last tick -/
  tpActive : BitVec 4
  tpSince : BitVec 4
  /-- a pound is open: a tick has come since reset (R47) -/
  pound : Bool
  /-- by partition: when software set DONE last (R48) -/
  doneAt : Vector (Option Word) 8
  deriving DecidableEq, Repr

def TickUnit.reset : TickUnit :=
  ⟨0, none, Vector.replicate 4 0, 0, 0, 0, false, false, 0, 0, false, false, Vector.replicate 8 0, Vector.replicate 4 0,
   Vector.replicate 4 none, 0, 0, false, Vector.replicate 8 none⟩

/-- The twin machinery (chapter 16) beside its registers. -/
structure TwinUnit where
  /-- the role that the twin's latest valid heartbeat names, 0 before one -/
  partner : Nat
  /-- IN_SYNC of that word -/
  partnerSync : Bool
  /-- Dalnos link sequence numbers (R452): the next to send, the next expected -/
  txSeq : Nat
  rxSeq : Nat
  /-- the replay buffer, newest first (R453) -/
  replay : List DalFrame
  /-- heartbeats missed in a row on the pins and on the link (R457) -/
  missPins : Nat
  missLink : Nat
  /-- a standby twin takes new entries (R356, R465) -/
  mirrorOn : Bool
  /-- entries go unmirrored until the standby has resynchronised (R357) -/
  bypass : Bool
  /-- mirroring starts at the next commit point (R465) -/
  mirrorNext : Bool
  /-- a bulk copy runs: journal slots still to copy, key 65536 u + slot; bulk frames still to come are counted by the receiver -/
  bulk : List Nat
  bulkSent : Nat
  /-- the tick T of a HANDOVER in progress (R466) -/
  handover : Option Nat
  /-- bad heartbeat words in this pound, and the pins are ignored (R456) -/
  hbBad : Nat
  pinsIgnored : Bool
  /-- DEVICE_FAIL of the heartbeat word this unit sends (R457), and IN_SYNC -/
  deviceFail : Bool
  inSync : Bool
  /-- link delay measured in training, in ns (R454) -/
  linkDelay : Nat
  /-- the twin's G0 digest bits 63:0 as its last STATE frame gave them -/
  twinDigest : Option Word
  /-- FREE indices mirrored, MACK progress and RDREQ tags outstanding: tag, unit, slot -/
  rdTags : List (Nat × Nat × Nat)
  /-- the next RDREQ tag -/
  nextTag : Nat
  /-- payloads held for the twin: unit, offset, bytes -/
  heldPay : List (Nat × Nat)
  /-- the last tick and edge that the twin reported (R453) -/
  twinTick : Nat
  /-- chunks of the bulk copy received, in order (R465) -/
  bulkIn : List (List Byte)
  /-- the role to show in heartbeat words while RST_L is low (R455) -/
  lastRole : Nat
  /-- mirrored payload bytes of this pound, and the bytes that mirror back-pressure has deferred (R25) -/
  mirPound : Nat
  mirBack : Nat
  deriving DecidableEq, Repr

def TwinUnit.reset : TwinUnit :=
  ⟨0, false, 0, 0, [], 0, 0, false, false, false, [], 0, none, 0, false, false, false, 0, none, [], 0, [], 0, [], 0, 0, 0⟩

/-- The keys of a scope of Esfort's key store (R496, R497): owner and debug key, password salt and digest, wrapping seed. -/
structure ScopeKeys where
  /-- owner key and debug key -/
  owner : Option (List Byte)
  debug : Option (List Byte)
  /-- salt and digest of the password -/
  salt : List Byte
  digest : List Byte
  /-- wrapping seed W -/
  seed : Option (List Byte)
  deriving DecidableEq, Repr

def ScopeKeys.none : ScopeKeys := ⟨.none, .none, [], [], .none⟩

/-- A high-water record (R358): next outbound and inbound numbers by 64 u + ep, the epochs of the ports, the tick. -/
structure Hwm where
  /-- next outbound and inbound numbers, epochs, tick -/
  outs : List Nat
  ins : List Nat
  epochs : List Nat
  tick : Nat
  deriving DecidableEq, Repr

/-- A microcode image (R237): its fields, the bytes before its signature block, and the block. -/
structure McImage where
  /-- KIND, customer serial, base address -/
  kind : Nat
  serial : BitVec 16
  base : BitVec 14
  /-- microwords with their entry marks, decode entries -/
  words : List (BitVec 160 × Bool)
  cdt : List Word
  /-- the engines and the partition it is for -/
  engines : BitVec 9
  part : Nat
  /-- the signed bytes; the signature block -/
  bytes : List Byte
  block : List Byte
  deriving DecidableEq, Repr

/-- What the fuses and the configuration store keep without power (R494, R501, R517). -/
structure Nv where
  /-- the fused lifecycle (R501) -/
  lifecycle : Nat
  /-- a lifecycle change that the next start-up brings into effect -/
  lifeNext : Option Nat
  /-- the device owner's half of the step to RETURN has been given (R501) -/
  returnHalf : Bool
  /-- the key store: the device scope, and each partition's (R494, R497) -/
  dev : ScopeKeys
  parts : Vector ScopeKeys 8
  /-- minimum SVN of KIND 1 to 4 (R493) -/
  svn : Vector Nat 4
  /-- SVN of the image of KIND 1 to 4 now loaded -/
  svnNow : Vector Nat 4
  /-- G0 to G3: the image bytes of each (R520) -/
  gens : List (List Byte)
  /-- G0 stands in probation, and power has been lost during it (R523) -/
  probation : Bool
  probLost : Nat
  /-- Selaufen images stored for the next start-ups, by KIND (R516) -/
  newImages : List (Nat × List Byte)
  /-- the repair map (R511), and successive start-ups at which a mapped-out site passed self-test (R513) -/
  repair : List RepairEntry
  passes : Vector Nat 20
  /-- the newest high-water record and the records written (R358) -/
  hwm : Option Hwm
  hwmCount : Nat
  /-- the block map where it differs from the identity, and write counts by physical block (R518) -/
  blkMap : List (Nat × Nat)
  wear : List (Nat × Nat)
  deriving DecidableEq, Repr

/-- Assumption 7 (DESIGN CHOICE). -/
def Nv.reset : Nv :=
  ⟨0, .none, false, ScopeKeys.none, Vector.replicate 8 ScopeKeys.none, Vector.replicate 4 0, Vector.replicate 4 0, [], false, 0,
   [], [], Vector.replicate 20 0, .none, 0, [], []⟩

/-- Esfort beside its registers and key store (chapter 18). -/
structure EsfUnit where
  /-- the open challenge of each mailbox: PF0, VF_0 to VF_7, SMBus (R497) -/
  chal : Vector (Option (List Byte)) 10
  /-- challenges drawn -/
  chalCount : Nat
  /-- when the present back-off began (R504) -/
  backoffAt : Word
  /-- the output lands are under boundary control: CPs and engines stand still (R502) -/
  boundary : Bool
  /-- how the open session of each scope was opened: the device, then partition n (R499) -/
  methods : Vector Nat 9
  deriving DecidableEq, Repr

def EsfUnit.reset : EsfUnit := ⟨Vector.replicate 10 .none, 0, 0, false, Vector.replicate 9 0⟩

/-- Configuration generations in progress (chapter 19). -/
structure CfgUnit where
  /-- the image copied by COMMIT (R520) -/
  image : List Byte
  /-- the STATE to which a refusal returns -/
  prev : Nat
  /-- when PENDING was entered -/
  since : Word
  /-- HBM training has ended well at this start-up (R508) -/
  hbmOk : Bool
  /-- the customer images in force (R239) -/
  cust : List McImage
  deriving DecidableEq, Repr

def CfgUnit.reset : CfgUnit := ⟨[], 5, 0, false, []⟩

/-- A network interface's requests that are kept to be sent again (R429, R438, R440), and its VC2 tokens (R433). -/
structure NiUnit where
  /-- answered DOMAIN_ABSENT: TID and destination -/
  absent : List (BitVec 16 × Nat)
  /-- returned as REROUTE or held for a route change: TID and destination -/
  heldReq : List (BitVec 16 × Nat)
  /-- destinations held until the next route switch -/
  holdDst : List Nat
  /-- VC2 tokens by partition (R433) -/
  tokens : Vector Nat 8
  deriving DecidableEq, Repr

/-- The Canal network beside its registers (chapter 15). -/
structure NocUnit where
  /-- the network interfaces -/
  nis : Vector NiUnit 75
  /-- when the change in progress was armed -/
  armedAt : Word
  /-- replays of the last millisecond: link and time (R435) -/
  replays : List (Nat × Word)
  /-- captures of each probe since its last PROBE_CTL write (R442) -/
  probeN : Vector Nat 8
  deriving DecidableEq, Repr

def NocUnit.reset : NocUnit := ⟨Vector.replicate 75 ⟨[], [], [], Vector.replicate 8 0⟩, 0, [], Vector.replicate 8 0⟩

/-- Power and temperature beside their registers (chapter 23). -/
structure PwrUnit where
  /-- emergency shutdown (R588): every clock is stopped until RST_L rises -/
  emergency : Bool
  /-- THROT_L is low -/
  throtLow : Bool
  /-- by compute die: since when its reservation-free sites stand at the floor while the condition lasts (R586) -/
  since : Vector (Option Word) 2
  /-- main storage controllers, and the ports, that run at half rate (R586) -/
  mscHalf : BitVec 4
  portHalf : Bool
  deriving DecidableEq, Repr

def PwrUnit.reset : PwrUnit := ⟨false, false, Vector.replicate 2 none, 0, false⟩


/-- The state of the machine. -/
structure State where
  /-- the commands that wait, first in, first out -/
  pending : List Instr
  /-- the model's own counter of free values drawn -/
  freeCtr : Nat
  /-- what left the device, newest first -/
  out : List OutEvent
  /-- the answer to the last host read -/
  resp : HostResp
  /-- every register of R561 that was written since reset, by PF0 BAR0 offset -/
  regs : List (Nat × Word)
  /-- main storage -/
  mem : Mem
  /-- the logical CPs -/
  cps : Vector Cp 16
  /-- the core sites -/
  sites : Vector Site 20
  /-- the L3 slices (R244) -/
  l3 : Vector Cache 32
  /-- line contents of the L3 while it is disabled (R262) -/
  l3Frozen : LineData
  /-- clean L3 lines that differ from what the HBM holds (R257, R263) -/
  l3Stale : List Nat
  /-- lines of the disabled L3 that have been stored past it (R252) -/
  l3Old : List Nat
  /-- the type-tag caches: tag lines by number, a line of eight data lines (R267) -/
  tagCache : Vector Cache 4
  /-- the ten pairs (R284) -/
  pairs : Vector Pair 10
  /-- the error-recording unit (R525) -/
  err : ErrUnit
  /-- the PCIe interface (R548) -/
  pcie : PcieUnit
  /-- overruns since the generation in force was applied, and its OVR_LIMIT (R519, R521) -/
  overruns : Nat
  ovrLimit : Nat
  /-- the level of RST_L (R507, R580) -/
  rstL : Bool
  /-- STRAP_TOW_PRESENT as sampled (R300, R580) -/
  towPresent : Bool
  /-- STRAP_SMB_ADDR_1 and 0, the low bits of the SMBus address (R580) -/
  smbAddr : BitVec 2
  /-- VDD_AUX is valid; PWROK is high (R581) -/
  auxOn : Bool
  pwrok : Bool
  /-- the channel engines -/
  engines : Vector Engine 9
  /-- the journal (R341) -/
  jnl : Vector JnlUnit 9
  /-- the ports A to H (R364) -/
  ports : Vector Port 8
  /-- the cipher and compression engines (R389) -/
  xf : Xform
  /-- the lock tick unit (R27) -/
  tick : TickUnit
  /-- records without a context that wait for space in a partition's ring (R332) -/
  ringWait : Vector (List CRec) 8
  /-- partitions with START or RESTART pending for the next tick boundary (R470) -/
  startDue : BitVec 8
  /-- pending bits that wait for the first CP of partition n to enter service (R334) -/
  pendWait : Vector (BitVec 7) 8
  /-- the twin operation unit (R444) -/
  twin : TwinUnit
  /-- what power loss keeps: fuses, MRAM and the configuration store -/
  nv : Nv
  /-- Esfort (R494) -/
  esf : EsfUnit
  /-- configuration generations (R519) -/
  cfg : CfgUnit
  /-- the Canal network (R428) -/
  noc : NocUnit
  /-- power and temperature (R586, R588) -/
  pwr : PwrUnit
  /-- frames that are being cleared, by partition (R475, R477) -/
  clearing : Vector (List Nat) 8
  /-- by offset: what CE_RESV, CE_EPOWN and JNL_PORT held before a configuration commit whose first commit point has not come
  (R340, R363) -/
  heldCfg : List (Nat × Word)
  /-- the SPARE_CP command that the Lockkeeper mailbox runs: CP and TAG (R570) -/
  lkpSpare : Option (CpId × Byte)
  deriving DecidableEq, Repr

/-- The machine right after reset (R13, R85, R566): RST_L is low and nothing has started. Assumption 7 (DESIGN CHOICE). -/
def State.reset : State where
  pending := []
  freeCtr := 0
  out := []
  resp := .none
  regs := []
  mem := Mem.empty
  cps := Vector.replicate 16 Cp.reset
  sites := Vector.replicate 20 Site.reset
  l3 := Vector.replicate 32 []
  l3Frozen := []
  l3Stale := []
  l3Old := []
  tagCache := Vector.replicate 4 []
  pairs := Vector.replicate 10 Pair.reset
  err := ⟨0, [], [], [], [], 0, false, 0⟩
  pcie := ⟨Vector.replicate 9 FnState.reset, false, Vector.replicate 8 0, []⟩
  overruns := 0
  ovrLimit := 0
  rstL := false
  towPresent := false
  smbAddr := 0
  auxOn := true
  pwrok := true
  engines := Vector.replicate 9 Engine.reset
  jnl := Vector.replicate 9 JnlUnit.reset
  ports := Vector.replicate 8 Port.reset
  xf := Xform.reset
  tick := TickUnit.reset
  ringWait := Vector.replicate 8 []
  startDue := 0
  pendWait := Vector.replicate 8 0
  twin := TwinUnit.reset
  nv := Nv.reset
  esf := EsfUnit.reset
  cfg := CfgUnit.reset
  noc := NocUnit.reset
  pwr := PwrUnit.reset
  clearing := Vector.replicate 8 []
  heldCfg := []
  lkpSpare := none

end Sys2Proof.Machine
end

