-- ==== Sys2Proof/Machine/Ops.lean ====
section
/-!
DEFINITION. The named operations over registers, counters, main storage, CPs and error records that every meaning uses.
-/

namespace Sys2Proof.Machine

/-! Registers of the register space (R8, R13, R561). -/

/-- The value that a register location holds. -/
def State.reg (s : State) (off : Nat) : Word := alGet (regReset off) s.regs off

/-- Write a register location whole. -/
def State.setReg (s : State) (off : Nat) (v : Word) : State := { s with regs := alIns s.regs off v }

/-- Bits hi:lo of a word. -/
def bits (w : Word) (hi lo : Nat) : Nat := w.toNat / 2 ^ lo % 2 ^ (hi + 1 - lo)

/-- Bit i of a word. -/
def bit (w : Word) (i : Nat) : Bool := w.getLsbD i

/-- A word with bits hi:lo replaced. -/
def insBits (w : Word) (hi lo : Nat) (v : Nat) : Word :=
  (w &&& ~~~(BitVec.ofNat 64 (fmask hi lo))) ||| BitVec.ofNat 64 (v % 2 ^ (hi + 1 - lo) * 2 ^ lo)

/-- A field of a register location. -/
def State.fld (s : State) (off hi lo : Nat) : Nat := bits (s.reg off) hi lo

/-- Write a field of a register location. -/
def State.setFld (s : State) (off hi lo v : Nat) : State := s.setReg off (insBits (s.reg off) hi lo v)

/-- A one-bit field. -/
def State.flag (s : State) (off i : Nat) : Bool := bit (s.reg off) i

/-- Write a one-bit field. -/
def State.setFlag (s : State) (off i : Nat) (b : Bool) : State := s.setFld off i i (if b then 1 else 0)

/-- R540: add n events to a counter; a carry out of bit 47 wraps the value and sets OVF. -/
def countBy (w : Word) (n : Nat) : Word :=
  let v := w.toNat % 2 ^ 48 + n
  BitVec.ofNat 64 (v % 2 ^ 48) ||| (if v < 2 ^ 48 then w &&& 0x8000000000000000 else 0x8000000000000000)

/-- Count n events in the counter at an offset. -/
def State.count (s : State) (off : Nat) (n : Nat := 1) : State := s.setReg off (countBy (s.reg off) n)

/-- TCK_TIME (R32), in ns. -/
def State.now (s : State) : Word := s.reg oTCK_TIME

/-- Time does not run backwards: TCK_TIME takes a later stamp. Assumption 2 (DESIGN CHOICE). -/
def State.advanceTo (s : State) (t : Word) : State :=
  if s.now.toNat < t.toNat then s.setReg oTCK_TIME t else s

/-- An empty queue: time passes, 1 ns a step, while RST_L is high (R32). Assumption 1 (DESIGN CHOICE). -/
def State.idle (s : State) : State := if s.rstL then s.setReg oTCK_TIME (s.now + 1) else s

/-- TCK_NUM (R33). -/
def State.tickNum (s : State) : Nat := s.fld oTCK_NUM 47 0

/-- Draw a value the spec leaves open. Assumption 6 (DESIGN CHOICE). -/
def State.freeVal (s : State) : Word := Config.freeWord s.freeCtr

/-- The next free value will be another one. Assumption 6 (DESIGN CHOICE). -/
def State.freeStep (s : State) : State := { s with freeCtr := s.freeCtr + 1 }

/-- Something leaves the device. Assumption 9 (DESIGN CHOICE). -/
def State.emit (s : State) (e : OutEvent) : State := { s with out := e :: s.out }

/-- Repeat an operation over a list. -/
def State.forEach {α : Type} (s : State) (l : List α) (f : α → State → State) : State := l.foldl (fun s a => f a s) s

/-! Main storage (R7, R57, R67 to R69, R78). -/

/-- One past the last byte of main storage (R67). -/
abbrev storageEnd : Nat := 0x2000000000
/-- One past the last byte of the data area (R67). -/
abbrev dataEnd : Nat := 0x1C00000000
/-- The journal area and the reserve begin here (R67). -/
abbrev journalBase : Nat := 0x1F80000000
abbrev reserveBase : Nat := 0x1FC0000000

/-- R68: where the tag byte of a data word is held. -/
def tagAddr (pa : Nat) : Nat := dataEnd + pa / 8

/-- R69: words of the journal area and the reserve have no tag byte. -/
def hasTag (pa : Nat) : Bool := decide (pa < dataEnd)

/-- Read one byte. -/
def Mem.byte (m : Mem) (a : Nat) : Byte := alGet memDefault m.cells a

/-- Write one byte, keeping the canonical form. -/
def Mem.setByte (m : Mem) (a : Nat) (b : Byte) : Mem := { m with cells := alSet memDefault m.cells a b }

/-- The memory's canonical form: addresses strictly rising, no entry equal to the default, poisoned words rising. -/
abbrev Mem.wf (m : Mem) : Prop :=
  List.Pairwise (fun x y => x.1 < y.1) m.cells ∧ (∀ c ∈ m.cells, c.2 ≠ memDefault)
    ∧ List.Pairwise (fun (x y : Nat) => x < y) m.poison

/-- n bytes from an address upward. -/
def Mem.bytes (m : Mem) (a n : Nat) : List Byte := (List.range n).map fun i => m.byte (a + i)

/-- Write bytes from an address upward. -/
def Mem.setBytes (m : Mem) (a : Nat) : List Byte → Mem
  | [] => m
  | b :: t => (m.setByte a b).setBytes (a + 1) t

/-- R7: the little-endian value of bytes. -/
def leNat : List Byte → Nat
  | [] => 0
  | b :: t => b.toNat + 256 * leNat t

/-- R7: n little-endian bytes of a value. -/
def leBytes : Nat → Nat → List Byte
  | 0, _ => []
  | n + 1, v => BitVec.ofNat 8 v :: leBytes n (v / 256)

/-- The 64 data bits of the word at an address. -/
def Mem.data (m : Mem) (pa : Nat) : Word := BitVec.ofNat 64 (leNat (m.bytes pa 8))

/-- The tag byte of the word at an address (R68, R69). -/
def Mem.tagByte (m : Mem) (pa : Nat) : Byte := if hasTag pa then m.byte (tagAddr pa) else 0

/-- The tagged word at a word-aligned address. -/
def Mem.word (m : Mem) (pa : Nat) : TWord :=
  ⟨m.data pa, (m.tagByte pa).setWidth 6, (m.tagByte pa).extractLsb' 6 2, m.poison.contains pa⟩

/-- Write a tag byte where the word has one (R69). -/
def Mem.setTagByte (m : Mem) (pa : Nat) (tag : BitVec 6) (col : BitVec 2) : Mem :=
  if hasTag pa then m.setByte (tagAddr pa) (col ++ tag) else m

/-- Add a number to a strictly rising list. -/
def insNat : List Nat → Nat → List Nat
  | [], k => [k]
  | a :: t, k => if a < k then a :: insNat t k else if a = k then a :: t else k :: a :: t

/-- Mark or unmark a word as poisoned. -/
def Mem.setPoison (m : Mem) (pa : Nat) (b : Bool) : Mem :=
  if b then { m with poison := insNat m.poison pa } else { m with poison := m.poison.filter (· ≠ pa) }

/-- Write a whole tagged word: data, tag byte and poison mark. -/
def Mem.putWord (m : Mem) (pa : Nat) (w : TWord) : Mem :=
  ((m.setBytes pa (leBytes 8 w.data.toNat)).setTagByte pa w.tag w.col).setPoison pa w.poison

/-- R62: the other half of a stored capability pair becomes RAW when one half is overwritten. -/
def Mem.breakPair (m : Mem) (pa : Nat) : Mem :=
  let other := if pa % 16 = 0 then pa + 8 else pa - 8
  let lo := if pa % 16 = 0 then pa else pa - 8
  if (m.word lo).tag = tagCAPL ∧ (m.word (lo + 8)).tag = tagCAPH then
    m.setTagByte other tagRAW (m.word other).col
  else m

/-- The bytes of w selected by a mask replace those of v. -/
def mergeBytes (v w : Word) (mask : BitVec 8) : Word :=
  let one := fun (i : Nat) => if mask.getLsbD i then fmask (8 * i + 7) (8 * i) else 0
  let k := BitVec.ofNat 64 (one 0 + one 1 + one 2 + one 3 + one 4 + one 5 + one 6 + one 7)
  (v &&& ~~~k) ||| (w &&& k)

/-- Perform a store (R59, R62, R77, R78, R112). -/
def Mem.store (m : Mem) (o : StoreOut) : Mem :=
  let m := if o.tag.isSome && !o.whole then m.breakPair o.pa else m
  let w := m.word o.pa
  m.putWord o.pa ⟨mergeBytes w.data o.data o.bytes, o.tag.getD w.tag, o.col.getD w.col, w.poison && o.bytes ≠ 0xFF⟩

/-- A store of a whole word from a g register (R59, R62). -/
def StoreOut.ofWord (pa : Nat) (w : TWord) : StoreOut := ⟨pa, w.data, 0xFF, some w.tag, none, false⟩
/-- A write of RAW data by the host or an engine: the type tag becomes RAW, the collector bits stay (R59, R62). -/
def StoreOut.raw (pa : Nat) (v : Word) : StoreOut := ⟨pa, v, 0xFF, some tagRAW, none, false⟩
/-- A write of a word with collector bits 0b00 (R62). -/
def StoreOut.fresh (pa : Nat) (w : TWord) : StoreOut := ⟨pa, w.data, 0xFF, some w.tag, some 0, false⟩

/-- What a CP sees of storage: the held outputs stand over it (R113, R272). -/
def Mem.withHeld (m : Mem) (h : List Held) : Mem :=
  h.foldl (fun m x => match x with
    | .store o _ => m.store o
    | .heal o _ tag v card =>
      if (m.word o.pa).tag = tag ∧ (m.word o.pa).data = v then
        (match card with | some c => m.store c.1 | none => m).store o
      else m
    | _ => m) m

/-- Write words as the reserve and journal area hold them. -/
def Mem.putRaws (m : Mem) (pa : Nat) : List Word → Mem
  | [] => m
  | w :: t => (m.putWord pa (TWord.ofRaw w)).putRaws (pa + 8) t

/-- Read n words of data bits. -/
def Mem.raws (m : Mem) (pa n : Nat) : List Word := (List.range n).map fun i => m.data (pa + 8 * i)

/-! CPs, partitions, core sites. -/

/-- CP_k. -/
def State.cp (s : State) (k : CpId) : Cp := s.cps[k]
/-- Replace CP_k. -/
def State.setCp (s : State) (k : CpId) (c : Cp) : State := { s with cps := s.cps.set k c }
/-- Change CP_k. -/
def State.modCp (s : State) (k : CpId) (f : Cp → Cp) : State := s.setCp k (f (s.cp k))
/-- Change the registers of CP_k. -/
def State.modRegs (s : State) (k : CpId) (f : CpRegs → CpRegs) : State :=
  s.modCp k fun c => { c with regs := f c.regs }
/-- The registers of CP_k. -/
def State.cr (s : State) (k : CpId) : CpRegs := (s.cp k).regs
/-- Core site CS_t. -/
def State.site (s : State) (t : SiteId) : Site := s.sites[t]
def State.modSite (s : State) (t : SiteId) (f : Site → Site) : State :=
  { s with sites := s.sites.set t (f (s.site t)) }
/-- The core site bound to CP_k: CS_BIND.STATE is BOUND and LCP is k (R17). -/
def State.siteOf (s : State) (k : CpId) : Option SiteId :=
  (List.finRange 20).find? fun t => s.fld (oCS_BIND t) 2 0 = 2 ∧ s.fld (oCS_BIND t) 11 8 = k
/-- Count an event of the core site that CP_k runs on (R544). -/
def State.countSite (s : State) (k : CpId) (x : Nat) (n : Nat := 1) : State :=
  match s.siteOf k with
  | some t => s.count (cSITE t x) n
  | none => s
/-- The partition that owns CP_k (R469). -/
def State.partOf (s : State) (k : CpId) : Option PartId :=
  (List.finRange 8).find? fun n => s.flag (oPRT_CTL n) 63 ∧ s.flag (oPRT_CTL n) k
/-- The partition that owns a core site (CS_BIND.PART). -/
def State.sitePart (s : State) (t : SiteId) : Option PartId :=
  let p := s.fld (oCS_BIND t) 19 16
  if h : p < 8 then some ⟨p, h⟩ else none

/-- The pair that runs CP_k: enabled, and the two copies run (PAIRED or SUSPECT) (R283, R292). -/
def State.pairOf (s : State) (k : CpId) : Option PairId :=
  (List.finRange 10).find? fun n =>
    s.fld (oCMP_PAIR n) 35 32 = k ∧ (s.fld (oCMP_PSTAT n) 3 0 = 2 ∨ s.fld (oCMP_PSTAT n) 3 0 = 3)
/-- The pair of CP_k whose outputs are unverified (R296). -/
def State.pairUnverified (s : State) (k : CpId) : Option PairId :=
  (List.finRange 10).find? fun n =>
    s.fld (oCMP_PAIR n) 35 32 = k ∧ 4 ≤ s.fld (oCMP_PSTAT n) 3 0 ∧ s.fld (oCMP_PSTAT n) 3 0 ≤ 6

/-! MSI-X (R554). -/

/-- A source sets the pending bit of its vector; sources merge. Function 0 is PF0, n + 1 is VF_n. -/
def State.raiseMsix (s : State) (fn : Fin 9) (vec : Nat) : State :=
  let f := s.pcie.fns[fn]
  if f.pend.contains vec then s
  else { s with pcie := { s.pcie with fns := s.pcie.fns.set fn { f with pend := vec :: f.pend } } }

/-- The MSI-X function of a partition's VF. -/
def vfFn (n : PartId) : Fin 9 := ⟨n + 1, by omega⟩

/-! Error records (R525 to R538). -/

/-- A record with no detail. -/
def mkRec (sev : Fin 8) (source code : Nat) (part : Option PartId := none) (lcp : Option CpId := none)
    (addr : Word := 0) (info0 : Word := 0) (info1 : Word := 0) : RecordIn :=
  ⟨sev, BitVec.ofNat 8 source, BitVec.ofNat 16 code, part, lcp, addr, info0, info1, none, false⟩

/-- R526: word 0 of a record. -/
def recWord0 (r : RecordIn) (auth : Nat) (cont : Bool) (rep : Nat) : Word :=
  BitVec.ofNat 64 (2 ^ 63 + (if cont then 2 ^ 62 else 0) + r.sev.val * 2 ^ 59
    + (match r.part with | some n => n.val | none => 0xF) * 2 ^ 52 + r.source.toNat * 2 ^ 40
    + r.code.toNat * 2 ^ 24 + rep * 2 ^ 8 + auth)

/-- R526: the eight words of a record. Assumption 79 (DEDUCED). -/
def recWords (s : State) (r : RecordIn) (rseq : BitVec 32) : List Word :=
  let auth := match r.lcp with | some k => bits (s.cr k).ps 39 32 | none => 0
  [ recWord0 r auth false 1,
    BitVec.ofNat 64 ((match r.lcp with | some k => k.val | none => 0xF) * 2 ^ 52 + s.tickNum),
    s.now, s.now, r.addr, r.info0, r.info1, BitVec.ofNat 64 (rseq.toNat * 2 ^ 32) ]

/-- The records of a group: the first and its continuation (R530). -/
def groupWords (s : State) (r : RecordIn) (rseq : BitVec 32) : List (List Word) :=
  let auth := match r.lcp with | some k => bits (s.cr k).ps 39 32 | none => 0
  recWords s r rseq ::
    (match r.cont with
     | some d => [recWord0 r auth true 0 :: ((List.range 7).map fun i => d.getD i 0)]
     | none => [])

/-- Write register locations from an offset upward. -/
def State.setRegs (s : State) (off : Nat) : List Word → State
  | [] => s
  | w :: t => (s.setReg off w).setRegs (off + 8) t

/-- ERR_IDX.HEAD − TAIL (R532). -/
def State.ringUsed (s : State) : Nat := (s.fld oERR_IDX 31 0 + 2 ^ 32 - s.fld oERR_IDX 63 32) % 2 ^ 32
/-- The PF0 error signal of R538. -/
def State.errSignal (s : State) (sev : Nat) : State :=
  if s.fld oERR_CTL 10 8 ≤ sev ∧ s.err.signalled = false then
    { s.raiseMsix 0 0 with err := { (s.raiseMsix 0 0).err with signalled := true } }
  else s

/-- Place one record in the PF0 ring (R532). -/
def State.ringPut (s : State) (ws : List Word) : State :=
  let h := s.fld oERR_IDX 31 0
  let s := (s.setRegs (oERR_RING h 0) ws).setFld oERR_IDX 31 0 ((h + 1) % 2 ^ 32)
  let s := { s with err := { s.err with readPos := s.err.readPos.filter (· ≠ h % 512) } }
  s.errSignal (bits (ws.getD 0 0) 61 59)

/-- R533: capacity and place of the spill area. Assumption 79 (DEDUCED). -/
def State.spillCap (s : State) : Nat :=
  let o := s.fld oERR_SPILL 4 0
  if 10 ≤ o ∧ o ≤ 20 then 2 ^ o else 2 ^ 10
def State.spillAddr (s : State) (i : Nat) : Nat := s.fld oERR_SPILL 51 16 * 2 ^ 16 + 64 * (i % s.spillCap)

/-- Append one record to the spill area (R533). -/
def State.spillPut (s : State) (ws : List Word) : State :=
  let n := s.fld oERR_SPILLSTAT 20 0
  ({ s with mem := s.mem.putRaws (s.spillAddr (s.err.spillRd + n)) ws }).setFld oERR_SPILLSTAT 20 0 (n + 1)

/-- R533: move the oldest spilled records into free ring positions, whole groups only in order. -/
def State.spillDrain : Nat → State → State
  | 0, s => s
  | fuel + 1, s =>
    if s.fld oERR_SPILLSTAT 20 0 = 0 ∨ 512 ≤ s.ringUsed then s
    else
      let ws := s.mem.raws (s.spillAddr s.err.spillRd) 8
      let s := s.setFld oERR_SPILLSTAT 20 0 (s.fld oERR_SPILLSTAT 20 0 - 1)
      let s := { s with err := { s.err with spillRd := (s.err.spillRd + 1) % s.spillCap } }
      (s.ringPut ws).spillDrain fuel

/-- R536: first-error and worst-error capture of a group's first record. -/
def State.errCapture (s : State) (sev : Nat) (ws : List Word) : State :=
  let s := if s.flag oERR_CAP 0 = false ∧ s.fld oERR_CTL 6 4 ≤ sev then
      (s.setRegs (oERR_FIRST 0) ws).setFlag oERR_CAP 0 true else s
  if s.flag oERR_CAP 1 = false ∨ bits (s.reg (oERR_WORST 0)) 61 59 < sev then
    (s.setRegs (oERR_WORST 0) ws).setFlag oERR_CAP 1 true
  else s

/-- Whether a stored record and a new one have the fields of R535 in common. -/
def State.sameRecord (s : State) (off : Nat) (ws : List Word) : Bool :=
  let w := fun i => s.reg (off + 8 * i)
  let m0 : Word := ~~~(BitVec.ofNat 64 (fmask 23 8 ||| fmask 7 0))
  decide ((w 0 &&& m0) = (ws.getD 0 0 &&& m0)) && decide (bits (w 1) 55 52 = bits (ws.getD 1 0) 55 52)
    && decide (w 4 = ws.getD 4 0) && decide (w 5 = ws.getD 5 0)
    && (if s.fld oTCK_STAT 2 0 = 0 then decide (s.now.toNat ≤ (w 2).toNat + 100000)
        else decide (bits (w 1) 47 0 = bits (ws.getD 1 0) 47 0))

/-- The count of R535 and the latest time. -/
def State.recRepeat (s : State) (off : Nat) : State :=
  let w := s.reg off
  let n := bits w 23 8
  (s.setReg off (insBits w 23 8 (if n < 65535 then n + 1 else n))).setReg (off + 24) s.now

/-- R535: the ring index of the record into which a new one is coalesced. Assumption 79 (DEDUCED). -/
def State.coalesceAt (s : State) (r : RecordIn) (ws : List Word) : Option Nat :=
  if 5 ≤ r.sev.val ∧ r.sev.val ≤ 6 ∨ r.cont.isSome then none
  else
    match s.err.last.find? (fun p => p.1 = r.source.toNat) with
    | none => none
    | some (_, seq) =>
      let tail := s.fld oERR_IDX 63 32
      (List.range s.ringUsed).findSome? fun i =>
        let x := (tail + i) % 2 ^ 32
        let off := oERR_RING x 0
        if bits (s.reg (off + 56)) 63 32 = seq ∧ bits (s.reg off) 47 40 = r.source.toNat
            ∧ bit (s.reg off) 62 = false ∧ s.err.readPos.contains (x % 512) = false ∧ s.sameRecord off ws = true
        then some x else none

/-- ERR_PIDX_n.HEAD − TAIL (R537). -/
def State.viewUsed (s : State) (n : PartId) : Nat :=
  (s.fld (oERR_PIDX n) 15 0 + 2 ^ 16 - s.fld (oERR_PIDX n) 31 16) % 2 ^ 16

/-- Place one record in a view ring (R537, R538). -/
def State.viewPut (s : State) (n : PartId) (ws : List Word) : State :=
  let h := s.fld (oERR_PIDX n) 15 0
  let s := (s.setRegs (oERR_VRING n h 0) ws).setFld (oERR_PIDX n) 15 0 ((h + 1) % 2 ^ 16)
  let s := { s with err := { s.err with viewRead := s.err.viewRead.filter (· ≠ 32 * n.val + h % 32) } }
  if s.fld oERR_CTL 10 8 ≤ bits (ws.getD 0 0) 61 59 ∧ s.err.viewSignalled.getLsbD n = false then
    let s := s.raiseMsix (vfFn n) 0
    { s with err := { s.err with viewSignalled := s.err.viewSignalled ||| BitVec.ofNat 8 (2 ^ n.val) } }
  else s

/-- R535 for the partition's own copy. -/
def State.viewCoalesceAt (s : State) (n : PartId) (r : RecordIn) (ws : List Word) : Option Nat :=
  if 5 ≤ r.sev.val ∧ r.sev.val ≤ 6 ∨ r.cont.isSome then none
  else
    match s.err.viewLast.find? (fun p => p.1 = 256 * n.val + r.source.toNat) with
    | none => none
    | some (_, seq) =>
      let tail := s.fld (oERR_PIDX n) 31 16
      (List.range (s.viewUsed n)).findSome? fun i =>
        let x := (tail + i) % 2 ^ 16
        let off := oERR_VRING n x 0
        if bits (s.reg (off + 56)) 63 32 = seq ∧ bits (s.reg off) 47 40 = r.source.toNat
            ∧ bit (s.reg off) 62 = false ∧ s.err.viewRead.contains (32 * n.val + x % 32) = false
            ∧ s.sameRecord off ws = true
        then some x else none

/-- R537: the partition's copy of a group. -/
def State.viewGroup (s : State) (n : PartId) (r : RecordIn) (rseq : BitVec 32) (grp : List (List Word)) : State :=
  match s.viewCoalesceAt n r (grp.headD []) with
  | some x => s.recRepeat (oERR_VRING n x 0)
  | none =>
    if s.viewUsed n + grp.length ≤ 32 then
      let s := s.forEach grp fun ws s => s.viewPut n ws
      let key := 256 * n.val + r.source.toNat
      { s with err := { s.err with viewLast := (key, rseq.toNat) :: s.err.viewLast.filter (·.1 ≠ key) } }
    else
      s.setFld (oERR_PIDX n) 63 48 (min 65535 (s.fld (oERR_PIDX n) 63 48 + grp.length))

/-- R534: a group of a source is lost. -/
def State.groupLost (s : State) (source : Nat) : State :=
  s.setFld (oERR_LOST source) 31 0 (min (2 ^ 32 - 1) (s.fld (oERR_LOST source) 31 0 + 1))

/-- R531: RSEQ advances by one for every group. -/
def State.rseqStep (s : State) : State := { s with err := { s.err with rseq := s.err.rseq + 1 } }

/-- R531 to R533, R536: the PF0 side of a group: capture, ring, spill or loss. -/
def State.ringGroup (s : State) (r : RecordIn) (grp : List (List Word)) : State :=
  let s := s.spillDrain 512
  let s := s.errCapture r.sev.val (grp.headD [])
  let seq := s.err.rseq.toNat
  let noteLast := fun (s : State) =>
    { s with err := { s.err with
        last := (r.source.toNat, seq) :: s.err.last.filter (·.1 ≠ r.source.toNat) } }
  if s.fld oERR_SPILLSTAT 20 0 = 0 ∧ s.ringUsed + grp.length ≤ 512 then
    noteLast (s.forEach grp fun ws s => s.ringPut ws)
  else if s.fld oERR_SPILLSTAT 20 0 + grp.length ≤ s.spillCap then
    noteLast (s.forEach grp fun ws s => s.spillPut ws)
  else s.groupLost r.source.toNat

/-- R525: the recording unit accepts a record. Assumption 79 (DEDUCED). -/
def State.record (s : State) (r : RecordIn) : State :=
  if r.srcFull then (s.groupLost r.source.toNat).rseqStep
  else
    let grp := groupWords s r s.err.rseq
    let inView := fun (s : State) =>
      match r.part with
      | some n => s.viewGroup n r s.err.rseq grp
      | none => s
    match s.coalesceAt r (grp.headD []) with
    | some x => inView ((s.errCapture r.sev.val (grp.headD [])).recRepeat (oERR_RING x 0))
    | none => (inView (s.ringGroup r grp)).rseqStep

/-- A record of a happening for which R529 states no CODE: a free value. Assumption 58 (DESIGN CHOICE). -/
def State.recordOpen (s : State) (r : RecordIn) : State := (s.record { r with code := s.freeVal.setWidth 16 }).freeStep

/-- The initiator code of R529. Assumption 67 (DEDUCED). -/
def initCode : Initiator → Nat
  | .pf0 => 0x00
  | .vf n => 0x10 + n
  | .cp k => 0x20 + k
  | .lkp => 0x40
  | .doe => 0x41

/-- The partition an initiator stands in. -/
def State.initPart (s : State) : Initiator → Option PartId
  | .vf n => some n
  | .cp k => s.partOf k
  | _ => none

/-- The CP an initiator names. -/
def initCp : Initiator → Option CpId
  | .cp k => some k
  | _ => none

/-- The access record of R9, R11, R562 (R529 CODE 0xF001). -/
def State.accessRecord (s : State) (i : Initiator) (off : Nat) (write : Bool) : State :=
  s.record (mkRec 0 0xF0 0xF001 (s.initPart i) (initCp i) 0 (BitVec.ofNat 64 off)
    (BitVec.ofNat 64 (initCode i + if write then 256 else 0)))

/-! Pending events of a CP (R198, R539). -/

/-- Set a bit of EVPEND; an interrupt ends WAIT and, with PS.EM clear, goes before the next instruction (R110). -/
def State.setPend (s : State) (k : CpId) (b : Nat) : State :=
  s.modCp k fun c =>
    { c with regs := { c.regs with evpend := insBits c.regs.evpend b b 1 },
             waiting := c.waiting && !(decide (3 ≤ b)),
             evDue := c.evDue || (c.waiting && decide (3 ≤ b) && !bit c.regs.ps 14) }

/-- Clear a bit of EVPEND. -/
def State.clrPend (s : State) (k : CpId) (b : Nat) : State :=
  s.modRegs k fun r => { r with evpend := insBits r.evpend b b 0 }

/-- R539: an asynchronous machine check joins the CP's queue of 8, or sets OVF. -/
def State.mchkQueue (s : State) (k : CpId) (rseq : BitVec 32) (addr : Word) : State :=
  (s.modCp k fun c =>
    if c.mck.length < 8 then { c with mck := c.mck ++ [(rseq, addr)] } else { c with mckOvf := true }).setPend k 0

/-! Region translation (R70 to R75). -/

/-- What a translation answers. -/
inductive Xl where
  /-- the physical address and the descriptor -/
  | ok (pa : Nat) (desc : Word)
  /-- a region fault by its CODE (R205) -/
  | region (code : Nat)
  /-- the descriptor at this physical address is rejected (R71, R74) -/
  | bad (pa : Nat)
  /-- the table lies outside main storage -/
  | absent
  deriving DecidableEq, Repr

/-- The address of the descriptor of a region (R72). -/
def State.rdtAddr (s : State) (n : PartId) (rn : Nat) : Nat := s.fld (oPRT_RDT n) 45 0 * 64 + 8 * rn
/-- PRT_RDT_n.LEN, a larger value acting as 57,344. -/
def State.rdtLen (s : State) (n : PartId) : Nat := min 57344 (s.fld (oPRT_RDT n) 63 48)

/-- What a descriptor at address da says of an access (R70, R71, R75). -/
def xlDesc (d : Word) (da : Nat) (ea : Word) (isStore : Bool) : Xl :=
  if bit d 63 = false then .region 2
  else if bits d 54 52 ≠ 0 ∨ bits d 20 0 ≠ 0 ∨ 57343 < bits d 51 21 then .bad da
  else if isStore ∧ bit d 55 = true then .region 3
  else .ok (bits d 51 21 * 2 ^ 21 + ea.toNat % 2 ^ 21) d

/-- Orders 3 to 5 of R75 for partition n, with the descriptor that an RLB holds, if any (R72). -/
def State.xlateWith (s : State) (n : PartId) (cached : Option Word) (ea : Word) (isStore : Bool) : Xl :=
  let rn := ea.toNat / 2 ^ 21
  if s.rdtLen n ≤ rn then .region 1
  else
    let da := s.rdtAddr n rn
    match cached with
    | some d => xlDesc d da ea isStore
    | none =>
      if storageEnd < da + 8 then .absent
      else if s.mem.poison.contains da then .bad da
      else xlDesc (s.mem.data da) da ea isStore

/-- Orders 3 to 5 of R75 for partition n by its table. -/
def State.xlate (s : State) (n : PartId) (ea : Word) (isStore : Bool) : Xl := s.xlateWith n none ea isStore

/-- POLICY of a descriptor (R70). -/
def policyOf (d : Word) : Nat := bits d 57 56

/-- The descriptor of an address when RN < LEN, V = 1 and it is accepted. -/
def State.regionDesc (s : State) (n : PartId) (ea : Word) : Option Word :=
  match s.xlate n ea false with
  | .ok _ d => some d
  | _ => none

/-- R60: the class of a tag is pointer, for partition n's user tags (PRT_TAGCLASS_n). -/
def State.pointerTag (s : State) (n : Option PartId) (t : BitVec 6) : Bool :=
  decide (8 ≤ t.toNat ∧ t.toNat ≤ 15)
    || (decide (0x30 ≤ t.toNat) && (match n with
        | some n => s.flag (oPRT_TAGCLASS n) (t.toNat - 0x30)
        | none => false))

end Sys2Proof.Machine
end

