-- ==== Sys2Proof/Machine/Cache.lean ====
section
/-!
DEFINITION. The caches (chapter 09): tree pseudo-LRU replacement, eligible ways, fills and evictions, coherence, and the
line operations. Mem.cells hold the latest coherent value; the caches record which lines they hold and which of them are
dirty, and Mem.older what the HBM holds for a dirty line.
-/

namespace Sys2Proof.Machine

/-! One cache array. -/

/-- A set of n ways with nothing in it. -/
def CSet.empty (n : Nat) : CSet := ⟨List.replicate n none, 0⟩

/-- The set at an index. -/
def Cache.set? (c : Cache) (n idx : Nat) : CSet := alGet (CSet.empty n) c idx

/-- The way that holds a line with data. -/
def CSet.hit (x : CSet) (la : Nat) : Option Nat :=
  x.ways.findIdx? fun w => match w with | some l => l.la == la && !l.resv | none => false

/-- The way reserved for a line (R251). -/
def CSet.reserved (x : CSet) (la : Nat) : Option Nat :=
  x.ways.findIdx? fun w => match w with | some l => l.la == la && l.resv | none => false

/-- Clear bit i. -/
def clearBit (t i : Nat) : Nat := if t.testBit i then t - 2 ^ i else t

/-- R246: every node on the path to a way points to the other child; lv tree levels, b the way's place below the node. -/
def plruTouch : Nat → Nat → Nat → Nat → Nat
  | 0, _, _, t => t
  | lv + 1, node, b, t =>
    let up := decide (2 ^ lv ≤ b)
    let t' := if up then clearBit t node else t ||| 2 ^ node
    plruTouch lv (2 * node + 1 + up.toNat) (if up then b - 2 ^ lv else b) t'

/-- R247: follow the tree from a node over the eligible ways. -/
def plruVictim (elig : Nat → Bool) (t : Nat) : Nat → Nat → Nat → Nat
  | 0, _, base => base
  | lv + 1, node, base =>
    let loOk := (List.range (2 ^ lv)).any fun i => elig (base + i)
    let upOk := (List.range (2 ^ lv)).any fun i => elig (base + 2 ^ lv + i)
    let up := if t.testBit node then upOk else !loOk
    plruVictim elig t lv (2 * node + 1 + up.toNat) (if up then base + 2 ^ lv else base)

/-- Tree levels of a cache of n ways. -/
def treeLevels (n : Nat) : Nat := Nat.log2 n

/-- A hit in way w: the tree is updated (R246) and the line is dirty from now on if the access writes. -/
def CSet.use (x : CSet) (n w : Nat) (dirty : Bool) : CSet :=
  ⟨x.ways.modify w (fun e => e.map fun l => { l with dirty := l.dirty || dirty }), plruTouch (treeLevels n) 0 w x.plru⟩

/-- R247, R251: fill a line. A way reserved for it is refilled; else the lowest invalid eligible way, else the tree's
victim, which is never a locked way. The line evicted, if any; no fill when no way is eligible (R249). -/
def CSet.fill (x : CSet) (n : Nat) (elig lock : Nat → Bool) (la : Nat) (dirty : Bool) : CSet × Option CLine :=
  let put := fun w => (⟨x.ways.set w (some ⟨la, dirty, false⟩), plruTouch (treeLevels n) 0 w x.plru⟩ : CSet)
  let ok := fun w => elig w && (match x.ways.getD w none with | some l => !l.resv && !lock w | none => true)
  match x.reserved la with
  | some w => (put w, none)
  | none =>
    if (List.range n).any ok then
      match (List.range n).find? (fun w => ok w && (x.ways.getD w none).isNone) with
      | some w => (put w, none)
      | none =>
        let w := plruVictim ok x.plru (treeLevels n) 0 0
        (put w, x.ways.getD w none)
    else (x, none)

/-- A hit, or a fill: the set, whether it holds the line now, and the line evicted. -/
def CSet.access (x : CSet) (n : Nat) (elig lock : Nat → Bool) (la : Nat) (dirty : Bool) : CSet × Option CLine :=
  match x.hit la with
  | some w => (x.use n w dirty, none)
  | none => x.fill n elig lock la dirty

/-- Remove a line; in a locked way the reserved state stays (R251). Whether it was there, locked, dirty. -/
def CSet.drop (x : CSet) (lock : Nat → Bool) (la : Nat) : CSet × Option (Bool × Bool) :=
  match x.hit la with
  | some w =>
    let d := match x.ways.getD w none with | some l => l.dirty | none => false
    (⟨x.ways.set w (if lock w then some ⟨la, false, true⟩ else none), x.plru⟩, some (lock w, d))
  | none => (x, none)

/-- The line is no longer dirty. -/
def CSet.clean (x : CSet) (la : Nat) : CSet :=
  ⟨x.ways.map fun e => e.map fun l => if l.la = la then { l with dirty := false } else l, x.plru⟩

/-- Whether a set holds a line dirty. -/
def CSet.dirtyAt (x : CSet) (la : Nat) : Bool :=
  x.ways.any fun e => match e with | some l => l.la == la && l.dirty | none => false

/-- Change one set of a cache. -/
def Cache.mod (c : Cache) (n idx : Nat) (f : CSet → CSet) : Cache := alIns c idx (f (c.set? n idx))

/-! Places of a line (R243, R244). -/

/-- The line address of a physical address. -/
def lineOf (pa : Nat) : Nat := pa / 64
def l1Set (la : Nat) : Nat := la % 128
def l2Set (la : Nat) : Nat := la % 4096
/-- R244: the home slice. -/
def l3Slice (la : Nat) : Fin 32 :=
  let f := fun i => la / 2 ^ (5 * i) % 32
  ⟨(f 0 ^^^ f 1 ^^^ f 2 ^^^ f 3 ^^^ f 4 ^^^ f 5 ^^^ (la / 2 ^ 30 % 16)) % 32, Nat.mod_lt _ (by decide)⟩
def l3Set (la : Nat) : Nat := la / 32 % 6144

/-- The cache is in use (L2_CTL.ENABLE, L3_CTL.ENABLE). -/
def State.l2On (s : State) (t : SiteId) : Bool := s.flag (oL2_CTL t) 0
def State.l3On (s : State) : Bool := s.flag oL3_CTL 0

/-- Locked ways (L2_LOCK.LOCK; LOCK of any partition's PRT_L3MASK). -/
def State.l2Locked (s : State) (t : SiteId) (w : Nat) : Bool := s.flag (oL2_LOCK t) w
def State.l3Locked (s : State) (w : Nat) : Bool := (List.range 8).any fun n => s.flag (oPRT_L3MASK n) (16 + w)

/-- R249 in an L2. -/
def State.l2Elig (s : State) (t : SiteId) (w : Nat) : Bool :=
  if s.fld (oL2_LOCK t) 31 16 ≠ 0 then s.flag (oL2_LOCK t) (16 + w) else !s.l2Locked t w

/-- The INSTANCE of a cache in the repair map (R511): L1I, L1D and L2 of the sites, then the L3 slices. -/
def cacheNo : CacheRef → Nat
  | .l1i s => s
  | .l1d s => 20 + s
  | .l2 s => 40 + s
  | .l3 k => 60 + k

/-- R512, R514, R515: a way that the repair map retires is no longer used. -/
def State.wayRetired (s : State) (c : CacheRef) (w : Nat) : Bool :=
  s.nv.repair.any fun e => e.kind == 2 && e.action == 2 && decide (e.inst.toNat = cacheNo c ∧ e.element.toNat = w)

/-- R248, R249 in the L3: the governing partition's ways, or SYSMASK. -/
def State.l3Elig (s : State) (part : Option PartId) (w : Nat) : Bool :=
  match part with
  | some n =>
    if s.fld (oPRT_L3MASK n) 47 32 &&& s.fld (oPRT_L3MASK n) 15 0 ≠ 0 then
      s.flag (oPRT_L3MASK n) (32 + w) && s.flag (oPRT_L3MASK n) w
    else s.flag (oPRT_L3MASK n) w && !s.flag (oPRT_L3MASK n) (16 + w)
  | none => s.flag oL3_CTL (16 + w)

/-! Main storage and its controllers. -/

/-- The data line whose tags the tag word at an address holds (R266, R68). -/
def tagLine (pa : Nat) : Nat := (pa - dataEnd) / 8

/-- R265: the stack that holds an address; a tag line lies in the stack of its data block. -/
def stackOf (pa : Nat) : Fin 4 :=
  let p := if dataEnd ≤ pa ∧ pa < dataEnd + dataEnd / 8 then 64 * tagLine pa else pa
  ⟨((p / 2 ^ 9 % 4) ^^^ (p / 2 ^ 21 % 4)) % 4, Nat.mod_lt _ (by decide)⟩

/-- R267: the controller's type-tag cache sees a transfer of a data line: the tag line of its 512-byte block, whose set is
the block number within the stack modulo 4,096. Assumption 25 (DEDUCED). -/
def State.tagTouch (s : State) (la : Nat) (dirty : Bool) : State :=
  if dataEnd ≤ 64 * la then s
  else
    let n := stackOf (64 * la)
    let c := (s.tagCache[n]).mod 16 (la / 32 % 4096) fun x => (x.access 16 (fun _ => true) (fun _ => false) (la / 8) dirty).1
    { s with tagCache := s.tagCache.set n c }

/-! What the HBM holds for dirty lines. -/

/-- The eight words of a line. -/
def Mem.line (m : Mem) (la : Nat) : List TWord := (List.range 8).map fun i => m.word (64 * la + 8 * i)
/-- Write the eight words of a line. -/
def Mem.putLine (m : Mem) (la : Nat) (ws : List TWord) : Mem :=
  (List.range 8).foldl (fun m i => m.putWord (64 * la + 8 * i) (ws.getD i TWord.raw0)) m
/-- The line is written back or no longer dirty: the HBM holds the latest value. -/
def Mem.forgetOlder (m : Mem) (la : Nat) : Mem := { m with older := alErase m.older la }
/-- Before a line first becomes dirty: keep what the HBM holds. Assumption 25 (DEDUCED). -/
def Mem.keepOlder (m : Mem) (la : Nat) : Mem :=
  if m.older.any (·.1 = la) then m else { m with older := alIns m.older la (m.line la) }
/-- What the HBM holds for a line takes the place of its contents. -/
def Mem.revert (m : Mem) (la : Nat) : Mem :=
  match m.older.find? (fun x => x.1 = la) with
  | some (_, ws) => (m.putLine la ws).forgetOlder la
  | none => m

/-- The sets of a line in the arrays. -/
def State.l1dAt (s : State) (t : SiteId) (la : Nat) : CSet := (s.site t).l1d.set? 8 (l1Set la)
def State.l2At (s : State) (t : SiteId) (la : Nat) : CSet := (s.site t).l2.set? 16 (l2Set la)
def State.l3At (s : State) (la : Nat) : CSet := (s.l3[l3Slice la]).set? 16 (l3Set la)

/-- A core site holds the line dirty in its L1D or its enabled L2. -/
def State.siteDirty (s : State) (t : SiteId) (la : Nat) : Bool :=
  (s.l1dAt t la).dirtyAt la || (s.l2On t && (s.l2At t la).dirtyAt la)

/-- Some enabled cache holds the line dirty. -/
def State.dirtyIn (s : State) (la : Nat) : Bool :=
  (List.finRange 20).any (fun t => s.siteDirty t la) || (s.l3On && (s.l3At la).dirtyAt la)

/-- The L3 holds the line. -/
def State.inL3 (s : State) (la : Nat) : Bool := s.l3On && ((s.l3At la).hit la).isSome

/-- The entries of other lines. -/
def LineData.without (x : LineData) (la : Nat) : LineData := x.filter fun p => p.1 ≠ la

/-- The next level of a core site has come to show another value than ws, which its L1D holds: the L1D keeps it. -/
def State.keepL1 (s : State) (t : SiteId) (la : Nat) (ws : List TWord) : State :=
  if ((s.l1dAt t la).hit la).isSome then
    s.modSite t fun x => if x.l1dStale.any (·.1 = la) then x else { x with l1dStale := alIns x.l1dStale la ws }
  else s

/-- Storage has come to show another value for a line than ws, which caches hold clean: each copy keeps what it held. -/
def State.keepCopies (s : State) (la : Nat) (ws : List TWord) : State :=
  s.forEach (List.finRange 20) fun t s =>
    if s.l2On t && ((s.l2At t la).hit la).isSome then
      s.modSite t fun x => if x.l2Stale.any (·.1 = la) then x else { x with l2Stale := alIns x.l2Stale la ws }
    else s.keepL1 t la ws

/-- What an enabled L2 holds for a line, and what the L1D of its core site does. -/
def State.l2View (s : State) (t : SiteId) (la : Nat) : List TWord := alGet (s.mem.line la) (s.site t).l2Stale la
def State.l1View (s : State) (t : SiteId) (la : Nat) : List TWord := alGet (s.l2View t la) (s.site t).l1dStale la

/-- Storage shows what the HBM holds for a line; clean copies keep what they held. -/
def State.revertLine (s : State) (la : Nat) : State :=
  if s.mem.older.any (·.1 = la) then
    State.keepCopies { s with mem := s.mem.revert la } la (s.mem.line la)
  else s

/-- When no cache holds the line dirty any more, it has been written back and the HBM holds its latest value; a stale line
that has left the L3 gives way to what the HBM holds (R263). -/
def State.settle (s : State) (la : Nat) : State :=
  if s.dirtyIn la then s
  else if s.l3Stale.contains la then
    if s.inL3 la then s else State.revertLine { s with l3Stale := s.l3Stale.filter (· ≠ la) } la
  else if s.mem.older.any (·.1 = la) then State.tagTouch { s with mem := s.mem.forgetOlder la } la true
  else s

/-- Change one set of the L3. -/
def State.modL3 (s : State) (la : Nat) (f : CSet → CSet) : State :=
  { s with l3 := s.l3.set (l3Slice la) ((s.l3[l3Slice la]).mod 16 (l3Set la) f) }
/-- Change one set of an L2. -/
def State.modL2 (s : State) (t : SiteId) (la : Nat) (f : CSet → CSet) : State :=
  s.modSite t fun x => { x with l2 := x.l2.mod 16 (l2Set la) f }

/-! Accesses. -/

/-- Access the L3 (R249, R261): a hit, or a fill with the governing ways from main storage; an evicted dirty line is
written back. -/
def State.l3Access (s : State) (part : Option PartId) (la : Nat) (dirty : Bool) : State :=
  let s := if s.inL3 la then s else s.tagTouch la false
  if s.l3On then
    let r := (s.l3At la).access 16 (fun w => s.l3Elig part w && !s.wayRetired (.l3 (l3Slice la)) w) s.l3Locked la dirty
    let s := s.modL3 la fun _ => r.1
    match r.2 with
    | some l => s.settle l.la
    | none => s
  else s

/-- A line leaves an L1D without more: an L2 that loses a line takes its L1D copy with it. Assumption 25 (DEDUCED). -/
def State.l1Out (s : State) (t : SiteId) (la : Nat) : State :=
  s.modSite t fun x =>
    { x with l1d := x.l1d.mod 8 (l1Set la) fun y => (y.drop (fun _ => false) la).1, l1dStale := x.l1dStale.without la }

/-- Access the L2 of a site: a hit, or a fill from the next level; an evicted dirty line goes to the L3. A request that
does not allocate is served from the next level (R249). -/
def State.l2Access (s : State) (t : SiteId) (part : Option PartId) (la : Nat) (dirty : Bool) : State :=
  let x := s.l2At t la
  let r := x.access 16 (fun w => s.l2Elig t w && !s.wayRetired (.l2 t) w) (s.l2Locked t) la dirty
  if s.l2On t && (r.1.hit la).isSome then
    let miss := (x.hit la).isNone
    let s := if miss then s.l3Access part la false else s
    let s := s.modSite t fun y =>
      { y with l2 := y.l2.mod 16 (l2Set la) fun _ => r.1, l2Stale := if miss then y.l2Stale.without la else y.l2Stale }
    match r.2 with
    | some l =>
      let dirty := l.dirty || (s.l1dAt t l.la).dirtyAt l.la
      let s := (s.l1Out t l.la).modSite t fun y => { y with l2Stale := y.l2Stale.without l.la }
      if dirty then (s.l3Access part l.la true).settle l.la else s
    | none => s
  else s.l3Access part la dirty

/-- Access the L1D of a site; an evicted dirty line goes to the L2 (R243). -/
def State.l1dAccess (s : State) (t : SiteId) (part : Option PartId) (la : Nat) (dirty : Bool) : State :=
  let x := s.l1dAt t la
  let r := x.access 8 (fun w => !s.wayRetired (.l1d t) w) (fun _ => false) la dirty
  let s := s.modSite t fun y =>
    { y with l1d := y.l1d.mod 8 (l1Set la) fun _ => r.1,
             l1dStale := if (x.hit la).isNone then y.l1dStale.without la else y.l1dStale }
  match r.2 with
  | some l =>
    let s := s.modSite t fun y => { y with l1dStale := y.l1dStale.without l.la }
    if l.dirty then (s.l2Access t part l.la true).settle l.la else s
  | none => s

/-- The words of other lines. -/
def otherLines (la : Nat) (ws : List Nat) : List Nat := ws.filter fun pa => lineOf pa ≠ la

/-- Access the L1I of a site. -/
def State.l1iAccess (s : State) (t : SiteId) (la : Nat) : State :=
  s.modSite t fun y =>
    let r := (y.l1i.set? 8 (l1Set la)).access 8 (fun w => !s.wayRetired (.l1i t) w) (fun _ => false) la false
    { y with l1i := y.l1i.mod 8 (l1Set la) fun _ => r.1,
             l1iBad := match r.2 with | some l => otherLines l.la y.l1iBad | none => y.l1iBad }

/-- A line leaves the L1I. -/
def Site.dropL1i (x : Site) (la : Nat) : Site :=
  { x with l1i := x.l1i.mod 8 (l1Set la) fun y => (y.drop (fun _ => false) la).1, l1iBad := otherLines la x.l1iBad }

/-- An enabled L2 loses a line, with the L1D copy; a locked way enters the reserved state (R251). -/
def State.siteOut (s : State) (t : SiteId) (la : Nat) : State :=
  let s := s.l1Out t la
  if s.l2On t then
    (s.modL2 t la fun y => (y.drop (s.l2Locked t) la).1).modSite t fun x => { x with l2Stale := x.l2Stale.without la }
  else s

/-- R258, R260: before a store becomes visible, every other copy of the line is invalidated. -/
def State.invalOthers (s : State) (keep : Option SiteId) (la : Nat) : State :=
  s.forEach (List.finRange 20) fun t s =>
    let s := s.modSite t fun x => x.dropL1i la
    if keep = some t then s else s.siteOut t la

/-- R262: a disabled cache takes no invalidation: what it holds of the line is older than storage from now on. -/
def State.superseded (s : State) (la : Nat) : State :=
  let s := if s.l3Frozen.any (·.1 = la) then { s with l3Old := insNat s.l3Old la } else s
  s.forEach (List.finRange 20) fun t s =>
    if (s.site t).l2Frozen.any (·.1 = la) then s.modSite t fun x => { x with l2Old := insNat x.l2Old la } else s

/-- A store reaches the coherent hierarchy: from a core site under the region's POLICY (R259), or from another initiator
(R261). pol is the policy: 0 all levels, 1 the L3 only, others none. Assumption 25 (DEDUCED). -/
def State.cacheStore (s : State) (t : Option SiteId) (part : Option PartId) (pol la : Nat) : State :=
  let s := { s with mem := s.mem.keepOlder la, l3Stale := s.l3Stale.filter (· ≠ la) }
  let s := (s.invalOthers (if pol = 0 then t else none) la).superseded la
  let s := match t, pol with
    | some t, 0 =>
      ((if s.l3On then s.modL3 la fun x => x.clean la else s).l2Access t part la true).l1dAccess t part la true
    | _, 0 => s.l3Access part la true
    | _, 1 => s.l3Access part la true
    | _, _ => if s.l3On then s.modL3 la fun x => (x.drop s.l3Locked la).1 else s
  s.settle la

/-- R258: another initiator reads: the L2 that holds the line dirty gives it up, to the L3 where the access may allocate
there or finds the line there. -/
def State.giveUp (s : State) (keep : Option SiteId) (part : Option PartId) (pol la : Nat) : State :=
  s.forEach (List.finRange 20) fun t s =>
    if keep = some t || !s.siteDirty t la then s
    else
      let s := s.siteOut t la
      (if pol ≤ 1 || s.inL3 la then s.l3Access part la true else s).settle la

/-- A read through the L3 by an initiator, or by a CP that allocates nothing below it (R259, R261). -/
def State.sharedRead (s : State) (part : Option PartId) (pol la : Nat) : State :=
  let s := s.giveUp none part pol la
  if pol ≤ 1 || s.inL3 la then s.l3Access part la false else s.tagTouch la false

/-- A load through the caches (R246, R259). Assumption 25 (DEDUCED). -/
def State.cacheLoad (s : State) (t : Option SiteId) (part : Option PartId) (pol la : Nat) : State :=
  match t, pol with
  | some t, 0 =>
    if ((s.l1dAt t la).hit la).isSome then s.l1dAccess t part la false
    else ((s.giveUp (some t) part 0 la).l2Access t part la false).l1dAccess t part la false
  | _, _ => s.sharedRead part pol la

/-- An instruction fetch through the caches. -/
def State.cacheFetch (s : State) (t : Option SiteId) (part : Option PartId) (pol la : Nat) : State :=
  match t, pol with
  | some t, 0 =>
    if (((s.site t).l1i.set? 8 (l1Set la)).hit la).isSome then s.l1iAccess t la
    else ((s.giveUp (some t) part 0 la).l2Access t part la false).l1iAccess t la
  | _, _ => s.sharedRead part pol la

/-! The region lookaside buffer (R72 to R74). -/

/-- An entry leaves the RLB. -/
def Site.rlbDrop (x : Site) (rn : Nat) : Site :=
  { x with rlb := x.rlb.mod 8 (rn % 128) fun y => (y.drop (fun _ => false) rn).1
           rlbD := x.rlbD.filter (·.1 ≠ rn), rlbBad := x.rlbBad.filter (· ≠ rn) }

/-- A translation by the descriptor of a region: a hit, or a fill. -/
def Site.rlbUse (x : Site) (rn : Nat) (d : Word) : Site :=
  let r := (x.rlb.set? 8 (rn % 128)).access 8 (fun _ => true) (fun _ => false) rn false
  let out := fun (i : Nat) => match r.2 with | some l => l.la == i | none => false
  { x with rlb := x.rlb.mod 8 (rn % 128) fun _ => r.1
           rlbD := alIns (x.rlbD.filter fun p => !out p.1) rn d, rlbBad := x.rlbBad.filter fun i => !out i }

/-- The descriptor that the RLB of CP_k's core site holds for an address; an entry that fails parity is not used (R74). -/
def State.rlbDesc (s : State) (k : CpId) (ea : Word) : Option Word :=
  match s.siteOf k with
  | some t =>
    let rn := ea.toNat / 2 ^ 21
    if (s.site t).rlbBad.contains rn then none else ((s.site t).rlbD.find? (·.1 = rn)).map (·.2)
  | none => none

/-- Orders 3 to 5 of R75 for CP_k in partition n, through its RLB. -/
def State.rlbXlate (s : State) (k : CpId) (n : PartId) (ea : Word) (isStore : Bool) : Xl :=
  s.xlateWith n (s.rlbDesc k ea) ea isStore

/-- A parity error in the RLB entry that CP_k needs: counted, the entry invalidated (R74). -/
def State.rlbParity (s : State) (k : CpId) (rn : Nat) : State :=
  match s.siteOf k with
  | some t => (s.modSite t fun x => x.rlbDrop rn).countSite k 3
  | none => s

/-- The RLB of CP_k sees a translation; a descriptor that is not accepted is not kept. Assumption 25 (DEDUCED). -/
def State.touchRlb (s : State) (k : CpId) (ea : Word) : State :=
  match s.siteOf k, s.partOf k with
  | some t, some n =>
    let rn := ea.toNat / 2 ^ 21
    match s.rlbXlate k n ea false with
    | .ok _ d =>
      let s := if (s.site t).rlbBad.contains rn then s.rlbParity k rn else s
      s.modSite t fun x => x.rlbUse rn d
    | _ => s
  | _, _ => s

/-- R73: every CP of a partition invalidates its copy of a descriptor. -/
def State.rlbInval (s : State) (n : PartId) (rn : Nat) : State :=
  s.forEach ((List.finRange 20).filter fun t => s.sitePart t == some n) fun t s => s.modSite t fun x => x.rlbDrop rn

/-- A region table has another place or length: no copy of its descriptors stays. Assumption 25 (DEDUCED). -/
def State.rlbClear (s : State) (n : PartId) : State :=
  s.forEach ((List.finRange 20).filter fun t => s.sitePart t == some n) fun t s =>
    s.modSite t fun x => { x with rlb := [], rlbD := [], rlbBad := [] }

/-! Line operations (R252, R253). -/

/-- Count a line dropped from a locked way (R253, R544). -/
def State.countDrop (s : State) (off : Nat) (r : Option (Bool × Bool)) : State :=
  match r with
  | some (true, _) => s.count off
  | _ => s

/-- Old contents of a disabled cache are written back: over what the HBM holds, under a dirty copy elsewhere. -/
def State.writeOld (s : State) (la : Nat) (ws : List TWord) : State :=
  if s.dirtyIn la then { s with mem := { s.mem with older := alIns s.mem.older la ws } }
  else (State.keepCopies { s with mem := s.mem.putLine la ws } la (s.mem.line la)).tagTouch la true

/-- The latest contents that disabled caches hold dirty for a line are written back; contents that were stored past since
are not the latest. -/
def State.thawLine (s : State) (la : Nat) : State :=
  let back := fun (s : State) (f : LineData) (latest : Bool) =>
    match f.find? (·.1 = la) with
    | some (_, ws) => if latest then s.writeOld la ws else s
    | none => s
  let s := back s s.l3Frozen ((s.l3At la).dirtyAt la && !s.l3Old.contains la)
  s.forEach (List.finRange 20) fun t s =>
    back s (s.site t).l2Frozen ((s.l2At t la).dirtyAt la && !(s.site t).l2Old.contains la)

/-- R252: after CCLN the line is dirty nowhere and storage holds its latest value. -/
def State.lineClean (s : State) (la : Nat) : State :=
  let s := s.thawLine la
  let s := s.forEach (List.finRange 20) fun t s => s.modSite t fun x =>
    { x with l1d := x.l1d.mod 8 (l1Set la) fun y => y.clean la, l2 := x.l2.mod 16 (l2Set la) fun y => y.clean la }
  (s.modL3 la fun x => x.clean la).settle la

/-- The line leaves every cache, enabled or disabled; locked ways keep the reserved state (R253). -/
def State.lineRemove (s : State) (la : Nat) : State :=
  let s := s.forEach (List.finRange 20) fun t s =>
    let r := (s.l2At t la).drop (s.l2Locked t) la
    let s := (s.l1Out t la).modSite t fun x =>
      { x.dropL1i la with l2 := x.l2.mod 16 (l2Set la) fun _ => r.1, l2Frozen := x.l2Frozen.without la,
                          l2Stale := x.l2Stale.without la, l2Old := x.l2Old.filter (· ≠ la) }
    s.countDrop (cSITE t 12) r.2
  let r := (s.l3At la).drop s.l3Locked la
  let s := s.modL3 la fun _ => r.1
  let s := { s with l3Frozen := s.l3Frozen.without la, l3Old := s.l3Old.filter (· ≠ la) }
  (s.countDrop (cL3 (l3Slice la) 0) r.2).settle la

/-- R252, R253: one unit of a range operation, or a LINE operation. -/
def State.lineOp (s : State) (op : LineOp) (la : Nat) : State :=
  match op with
  | .clean => s.lineClean la
  | .flush => (s.lineClean la).lineRemove la
  | .inval =>
    State.lineRemove { s with mem := s.mem.revert la, l3Stale := s.l3Stale.filter (· ≠ la) } la

end Sys2Proof.Machine
end

