-- ==== Sys2Proof/Machine/CacheCtl.lean ====
section
/-!
DEFINITION. Cache control and cache faults: full-cache operations (R255), enabling and disabling (R262, R263), locking
(R248, R251), directory and data errors (R256, R257), and errors of main storage (R268, R269).
-/

namespace Sys2Proof.Machine

/-! Lines of an array. -/

/-- The lines with data that a cache array holds. -/
def Cache.lines (c : Cache) : List CLine :=
  (c.map fun x => x.2.ways.filterMap fun w => match w with | some l => if l.resv then none else some l | none => none).flatten

/-- Every line leaves; locked ways enter the reserved state. The array and the number of locked lines dropped. -/
def Cache.dropAll (c : Cache) (lock : Nat → Bool) : Cache × Nat :=
  let one := fun (x : CSet) => (x.ways.zipIdx).map fun p =>
    match p.1 with
    | some l => if l.resv then some l else if lock p.2 then some ⟨l.la, false, true⟩ else none
    | none => none
  let cnt := fun (x : CSet) => (x.ways.zipIdx).countP fun p =>
    match p.1 with
    | some l => !l.resv && lock p.2
    | none => false
  (c.map fun x => (x.1, ⟨one x.2, x.2.plru⟩), (c.map fun x => cnt x.2).sum)

/-- Reserved entries of ways that are no longer locked become invalid (R251). -/
def Cache.unlock (c : Cache) (lock : Nat → Bool) : Cache :=
  c.map fun x => (x.1, ⟨(x.2.ways.zipIdx).map fun p =>
    match p.1 with
    | some l => if l.resv && !lock p.2 then none else some l
    | none => none, x.2.plru⟩)

/-! Full-cache operations (R255). -/

/-- The registers of a cache. -/
def ctlOff : CacheSel → Nat
  | .l2 t => oL2_CTL t
  | .l3 => oL3_CTL
def statOff : CacheSel → Nat
  | .l2 t => oL2_STAT t
  | .l3 => oL3_STAT

/-- The dirty contents of an enabled cache leave it: written back, or discarded so that storage keeps what it held. -/
def State.leave (s : State) (flush : Bool) (la : Nat) : State :=
  if flush then State.tagTouch { s with mem := s.mem.forgetOlder la } la true else s.revertLine la

/-- The old contents that a disabled cache holds for a line are written back. -/
def State.leaveOld (s : State) (f : LineData) (flush : Bool) (la : Nat) : State :=
  match f.find? (fun x => x.1 = la), flush with
  | some (_, ws), true => s.writeOld la ws
  | _, _ => s

/-- A line of an L2 goes away under an operation, with its L1D copy: a dirty one is written back or discarded. -/
def State.l2Leave (s : State) (t : SiteId) (flush : Bool) (l : CLine) : State :=
  if s.l2On t then
    let dirty := s.siteDirty t l.la
    let s := s.l1Out t l.la
    if dirty then s.leave flush l.la else s
  else if l.dirty then s.leaveOld (s.site t).l2Frozen flush l.la else s

/-- The same for a line of the L3. -/
def State.l3Leave (s : State) (flush : Bool) (l : CLine) : State :=
  if s.l3Stale.contains l.la then State.revertLine { s with l3Stale := s.l3Stale.filter (· ≠ l.la) } l.la
  else if !l.dirty then s
  else if s.l3On then s.leave flush l.la
  else s.leaveOld s.l3Frozen flush l.la

/-- An L2 is emptied. -/
def State.l2Empty (s : State) (t : SiteId) (flush : Bool) : State :=
  let s := s.forEach ((s.site t).l2.lines) fun l s => s.l2Leave t flush l
  let r := (s.site t).l2.dropAll (s.l2Locked t)
  (s.modSite t fun x => { x with l2 := r.1, l2Frozen := [], l2Stale := [], l2Old := [] }).count (cSITE t 12) r.2

/-- One slice of the L3 is emptied. -/
def State.sliceEmpty (s : State) (flush : Bool) (k : Fin 32) : State :=
  let s := s.forEach (s.l3[k].lines) fun l s => s.l3Leave flush l
  let r := s.l3[k].dropAll s.l3Locked
  ({ s with l3 := s.l3.set k r.1 }).count (cL3 k 0) r.2

/-- The L3 is emptied. -/
def State.l3Empty (s : State) (flush : Bool) : State :=
  let s := s.forEach (List.finRange 32) fun k s => s.sliceEmpty flush k
  { s with l3Frozen := [], l3Old := [] }

/-- FULL_CACHE_OP_DONE (R255): the operation in progress has acted on every line; BUSY and CONTENTS_AGED clear. -/
def State.fullCacheOp (s : State) (c : CacheSel) : State :=
  if s.flag (statOff c) 0 = false then s
  else
    let flush := decide (s.fld (ctlOff c) 2 1 = 2)
    let s := match c with
      | .l2 t => s.l2Empty t flush
      | .l3 => s.l3Empty flush
    ((s.setFld (ctlOff c) 2 1 0).setFlag (statOff c) 0 false).setFlag (statOff c) 2 false

/-- FULL_CACHE_OP_DONE (R255, R270). -/
def execFullCacheOpDone (c : CacheSel) (s : State) : Host.Outcome State Fault Refusal := .next (s.fullCacheOp c)

/-! Enabling and disabling (R262, R263). -/

/-- An L2 is disabled: its lines stay in it, storage shows what lies below, and the L1D keeps its copies.
Assumption 26 (DEDUCED). -/
def State.l2Freeze (s : State) (t : SiteId) : State :=
  let ls := (s.site t).l2.lines
  let stale := (s.site t).l2Stale
  let s := s.modSite t fun x =>
    { x with l2Frozen := ls.map fun l => (l.la, s.l2View t l.la), l2Stale := [], l2Old := [] }
  let s := s.forEach stale fun p s => s.keepL1 t p.1 p.2
  s.forEach ls fun l s => if l.dirty && !s.dirtyIn l.la then s.revertLine l.la else s

/-- What a disabled L2 held for a line answers again. -/
def State.thawL2 (s : State) (t : SiteId) (p : Nat × List TWord) (l : CLine) : State :=
  let now := s.mem.line p.1
  if p.2 = now then s
  else
    let others := (List.finRange 20).any (fun u => u != t && s.siteDirty u p.1) || (s.l1dAt t p.1).dirtyAt p.1
      || (s.l3On && (s.l3At p.1).dirtyAt p.1)
    let s := s.keepL1 t p.1 now
    if l.dirty && !others then
      let s := State.keepCopies { s with mem := (s.mem.keepOlder p.1).putLine p.1 p.2 } p.1 now
      s.modSite t fun x => { x with l2Stale := x.l2Stale.without p.1 }
    else s.modSite t fun x => { x with l2Stale := alIns x.l2Stale p.1 p.2 }

/-- An L2 is enabled with old contents: dirty lines answer again, clean ones may be stale for its own CP.
Assumption 26 (DEDUCED). -/
def State.l2Thaw (s : State) (t : SiteId) : State :=
  let ls := (s.site t).l2.lines
  let fr := (s.site t).l2Frozen
  let s := s.modSite t fun x => { x with l2Frozen := [], l2Stale := [], l2Old := [] }
  s.forEach fr fun p s =>
    match ls.find? (fun l => l.la == p.1) with
    | some l => s.thawL2 t p l
    | none => s

/-- Every line of the L3. -/
def State.l3Lines (s : State) : List CLine := (s.l3.toList.map Cache.lines).flatten

/-- Some core site holds a line dirty. -/
def State.dirtyAbove (s : State) (la : Nat) : Bool := (List.finRange 20).any fun t => s.siteDirty t la

/-- The L3 is disabled: its lines stay in it and storage shows what the HBM holds; the L2s keep their copies.
Assumption 26 (DEDUCED). -/
def State.l3Freeze (s : State) : State :=
  let ls := s.l3Lines
  let stale := s.l3Stale
  let held := ls.map fun (l : CLine) =>
    (l.la, if s.dirtyAbove l.la then alGet (s.mem.line l.la) s.mem.older l.la else s.mem.line l.la)
  let s := { s with l3Frozen := held, l3Stale := [], l3Old := [] }
  s.forEach ls fun l s => if (l.dirty || stale.contains l.la) && !s.dirtyAbove l.la then s.revertLine l.la else s

/-- What the disabled L3 held for a line answers again, dirty or stale. -/
def State.thawL3 (s : State) (p : Nat × List TWord) (l : CLine) : State :=
  let now := s.mem.line p.1
  if p.2 = now ∨ s.dirtyAbove p.1 = true then s
  else
    let s := State.keepCopies { s with mem := (s.mem.keepOlder p.1).putLine p.1 p.2 } p.1 now
    if l.dirty then s else { s with l3Stale := insNat s.l3Stale p.1 }

/-- The L3 is enabled with old contents. Assumption 26 (DEDUCED). -/
def State.l3Thaw (s : State) : State :=
  let ls := s.l3Lines
  State.forEach { s with l3Frozen := [], l3Old := [] } s.l3Frozen fun p s =>
    match ls.find? (fun l => l.la == p.1) with
    | some l => s.thawL3 p l
    | none => s

/-- R263: ENABLE was set over old contents: the sticky bit, the counters, one record. Assumption 26 (DEDUCED). -/
def State.enabledAged (s : State) (c : CacheSel) : State :=
  let s := s.setFlag (statOff c) 3 true
  match c with
  | .l2 t => (s.count (cSITE t 17)).record (mkRec 1 t.val 17 (s.sitePart t))
  | .l3 => (s.forEach (List.finRange 32) fun k s => s.count (cL3 k 5)).record (mkRec 1 0x20 5)

/-- ENABLE has changed. The control register already holds the new value. -/
def State.enableChange (s : State) (c : CacheSel) (on : Bool) : State :=
  if on then
    let s := if s.flag (statOff c) 2 then s.enabledAged c else s
    match c with
    | .l2 t => s.l2Thaw t
    | .l3 => s.l3Thaw
  else
    let s := match c with
      | .l2 t => s.l2Freeze t
      | .l3 => s.l3Freeze
    s.setFlag (statOff c) 2 true

/-- A control register was written: old value, bits written. A full-cache operation starts, or is refused while one runs;
ENABLE takes effect at once (R255, R262, R263, R270). -/
def State.cacheCtlEffect (s : State) (i : Initiator) (c : CacheSel) (old v : Word) (recOff : Nat) : State :=
  let off := ctlOff c
  let op := bits v 2 1
  let busy := s.flag (statOff c) 0
  let s := s.setFld off 2 1 (if busy then bits old 2 1 else if op = 3 then 0 else op)
  let s := if busy ∧ op ≠ 0 then s.accessRecord i recOff true else s
  let s := if !busy ∧ (op = 1 ∨ op = 2) then s.setFlag (statOff c) 0 true else s
  if bit old 0 = s.flag off 0 then s else s.enableChange c (s.flag off 0)

/-! Locking (R248, R251). -/

/-- Ones among bits hi:lo. -/
def onesIn (w : Word) (hi lo : Nat) : Nat := (List.range (hi + 1 - lo)).countP fun i => bit w (lo + i)

/-- L2_LOCK was written: more than 12 locked ways are refused; unlocked reserved entries become invalid. -/
def State.l2LockEffect (s : State) (i : Initiator) (t : SiteId) (old : Word) (recOff : Nat) : State :=
  if 12 < onesIn (s.reg (oL2_LOCK t)) 15 0 then (s.setReg (oL2_LOCK t) old).accessRecord i recOff true
  else s.modSite t fun x => { x with l2 := x.l2.unlock (s.l2Locked t) }

/-- R248: a value of PRT_L3MASK_n that is accepted. -/
def l3maskOk (w : Word) : Bool :=
  (List.range 16).all (fun b => !bit w (16 + b) || bit w b)
    && (bits w 15 0 == 0 || decide (4 ≤ onesIn w 15 0 - onesIn w 31 16))

/-- Reserved L3 entries of ways that no partition locks become invalid. -/
def State.l3Unlock (s : State) : State := { s with l3 := s.l3.map fun c => c.unlock s.l3Locked }

/-- PRT_L3MASK_n was written. -/
def State.l3maskEffect (s : State) (i : Initiator) (n : PartId) (old : Word) (recOff : Nat) : State :=
  if !l3maskOk (s.reg (oPRT_L3MASK n)) then (s.setReg (oPRT_L3MASK n) old).accessRecord i recOff true else s.l3Unlock

/-! Directory and data errors (R256, R257). -/

/-- The array of a cache. -/
def State.arrayOf (s : State) : CacheRef → Cache
  | .l1i t => (s.site t).l1i
  | .l1d t => (s.site t).l1d
  | .l2 t => (s.site t).l2
  | .l3 k => s.l3[k]
/-- Replace the array of a cache. -/
def State.setArray (s : State) (c : CacheRef) (a : Cache) : State :=
  match c with
  | .l1i t => s.modSite t fun x => { x with l1i := a }
  | .l1d t => s.modSite t fun x => { x with l1d := a }
  | .l2 t => s.modSite t fun x => { x with l2 := a }
  | .l3 k => { s with l3 := s.l3.set k a }
/-- Ways of a cache. -/
def waysOf : CacheRef → Nat
  | .l1i _ => 8
  | .l1d _ => 8
  | _ => 16
/-- A way is locked. -/
def State.lockedIn (s : State) (c : CacheRef) (w : Nat) : Bool :=
  match c with
  | .l2 t => s.l2Locked t w
  | .l3 _ => s.l3Locked w
  | _ => false
/-- SOURCE of a cache's records (R528), and its counter by the index in a core site's and in a slice's array (R544). -/
def cacheSource : CacheRef → Nat
  | .l1i t => t
  | .l1d t => t
  | .l2 t => t
  | .l3 k => 0x20 + k
def cacheCode (c : CacheRef) (site slice : Nat) : Nat :=
  match c with
  | .l3 _ => slice
  | _ => site
def cacheCounter (c : CacheRef) (site slice : Nat) : Nat :=
  match c with
  | .l1i t => cSITE t site
  | .l1d t => cSITE t site
  | .l2 t => cSITE t site
  | .l3 k => cL3 k slice
/-- The partition that a cache's core site belongs to. -/
def State.cachePart (s : State) : CacheRef → Option PartId
  | .l1i t => s.sitePart t
  | .l1d t => s.sitePart t
  | .l2 t => s.sitePart t
  | .l3 _ => none

/-- The entry of a set and way. -/
def State.entryAt (s : State) (c : CacheRef) (set way : Nat) : Option CLine :=
  ((s.arrayOf c).set? (waysOf c) set).ways.getD way none

/-- What the caches hold beside storage for a line that leaves an array goes with it; an L1D copy leaves with the line of
its L2. -/
def State.forgetCopy (s : State) (c : CacheRef) (la : Nat) : State :=
  match c with
  | .l1i t => s.modSite t fun x => { x with l1iBad := otherLines la x.l1iBad }
  | .l1d t => s.modSite t fun x => { x with l1dStale := x.l1dStale.without la }
  | .l2 t =>
    if s.l2On t then (s.l1Out t la).modSite t fun x => { x with l2Stale := x.l2Stale.without la }
    else s.modSite t fun x => { x with l2Frozen := x.l2Frozen.without la }
  | .l3 _ => { s with l3Frozen := s.l3Frozen.without la }

/-- A way loses its line: it becomes invalid, or reserved when it is locked. -/
def State.killWay (s : State) (c : CacheRef) (set way la : Nat) : State :=
  let s := s.forgetCopy c la
  let f := fun (l : CLine) => if s.lockedIn c way then some (⟨l.la, false, true⟩ : CLine) else none
  s.setArray c ((s.arrayOf c).mod (waysOf c) set fun x =>
    ⟨x.ways.modify way fun e => match e with | some l => f l | none => none, x.plru⟩)

/-- Partition n maps a frame (R256). -/
def State.partMaps (s : State) (n : PartId) (frame : Nat) : Bool :=
  (List.range (s.rdtLen n)).any fun rn =>
    let d := s.mem.data (s.rdtAddr n rn)
    bit d 63 && bits d 51 21 == frame

/-- An asynchronous machine check with its record goes to every CP of the partitions that pass a test. -/
def State.machineCheckTo (s : State) (r : RecordIn) (who : PartId → Bool) : State :=
  let seq := s.err.rseq
  let s := s.record r
  s.forEach ((List.finRange 16).filter fun k => match s.partOf k with | some n => who n | none => false)
    fun k s => s.mchkQueue k seq r.addr

/-- A cache is in use. -/
def State.arrayOn (s : State) : CacheRef → Bool
  | .l2 t => s.l2On t
  | .l3 _ => s.l3On
  | _ => true

/-- A line is lost: eight poisoned words are written to its address (R256); no copy of it stays in an enabled cache. -/
def State.lineLost (s : State) (c : CacheRef) (la : Nat) : State :=
  let bad := (s.mem.line la).map fun w => { w with poison := true }
  if s.arrayOn c then
    let s := s.invalOthers none la
    let s := if s.l3On then s.modL3 la fun x => (x.drop s.l3Locked la).1 else s
    State.tagTouch { s with mem := (s.mem.forgetOlder la).putLine la bad, l3Stale := s.l3Stale.filter (· ≠ la) } la true
  else s.writeOld la bad

/-- The dirty contents of an entry are discarded: storage keeps its older value. -/
def State.dropDirty (s : State) (c : CacheRef) (la : Nat) : State :=
  if s.arrayOn c && !s.dirtyIn la then s.revertLine la else s

/-- DIR_PARITY_ERROR (R256). Assumption 27 (DEDUCED). -/
def State.dirParity (s : State) (c : CacheRef) (set way : Nat) (addrLost : Bool) : State :=
  match s.entryAt c set way with
  | some l =>
    if l.dirty && !l.resv then
      let s := s.count (cacheCounter c 14 2)
      let code := cacheCode c 14 2
      if addrLost then
        let a := s.freeVal
        let s := s.freeStep
        let info := Config.dirWay set way
        let s := ((s.freeStep).killWay c set way l.la).dropDirty c l.la
        let owns := fun (n : PartId) => match c with
          | .l3 _ => s.flag (oPRT_L3MASK n) way
          | _ => s.cachePart c == some n
        s.machineCheckTo (mkRec 5 (cacheSource c) code (s.cachePart c) none a info) owns
      else
        let s := (s.killWay c set way l.la).lineLost c l.la
        s.machineCheckTo (mkRec 5 (cacheSource c) code (s.cachePart c) none (BitVec.ofNat 64 (64 * l.la)))
          fun n => s.partMaps n (64 * l.la / 2 ^ 21)
    else
      let s := (s.count (cacheCounter c 13 1)).record (mkRec 2 (cacheSource c) (cacheCode c 13 1) (s.cachePart c))
      if l.resv then s else (s.killWay c set way l.la).settle l.la
  | none => (s.count (cacheCounter c 13 1)).record (mkRec 2 (cacheSource c) (cacheCode c 13 1) (s.cachePart c))

/-- DIR_PARITY_ERROR (R256, R270). -/
def execDirParityError (c : CacheRef) (set : Nat) (way : Fin 16) (addrLost : Bool) (s : State) :
    Host.Outcome State Fault Refusal := .next (s.dirParity c set way addrLost)

/-- A line with one word poisoned. -/
def badWord (ws : List TWord) (i : Nat) : List TWord := ws.modify i fun w => { w with poison := true }

/-- A word of a resident line becomes poisoned. A clean copy is poisoned where it stands; storage and the copies in other
caches keep their value. -/
def State.poisonIn (s : State) (c : CacheRef) (l : CLine) (word : Nat) : State :=
  let pa := 64 * l.la + 8 * word
  let now := s.mem.line l.la
  let fix := fun (f : LineData) => f.map fun p => if p.1 = l.la then (p.1, badWord p.2 word) else p
  match c with
  | .l1i t => s.modSite t fun x => { x with l1iBad := insNat x.l1iBad pa }
  | .l1d t =>
    if l.dirty then { s with mem := s.mem.setPoison pa true }
    else s.modSite t fun x => { x with l1dStale := alIns x.l1dStale l.la (badWord (s.l1View t l.la) word) }
  | .l2 t =>
    if !s.l2On t then s.modSite t fun x => { x with l2Frozen := fix x.l2Frozen }
    else
      let s := if (s.l1dAt t l.la).dirtyAt l.la then s else s.keepL1 t l.la (s.l2View t l.la)
      if l.dirty then { s with mem := s.mem.setPoison pa true }
      else s.modSite t fun x => { x with l2Stale := alIns x.l2Stale l.la (badWord (s.l2View t l.la) word) }
  | .l3 _ =>
    if !s.l3On then { s with l3Frozen := fix s.l3Frozen }
    else if s.dirtyAbove l.la then s
    else
      let s := s.keepCopies l.la now
      if l.dirty then { s with mem := s.mem.setPoison pa true }
      else { s with mem := (s.mem.keepOlder l.la).setPoison pa true, l3Stale := insNat s.l3Stale l.la }

/-- CACHE_DATA_ERROR (R58, R257). Assumption 27 (DEDUCED). -/
def State.dataError (s : State) (c : CacheRef) (set way word : Nat) (double : Bool) : State :=
  if double then
    let s := (s.count (cacheCounter c 16 4)).record (mkRec 3 (cacheSource c) (cacheCode c 16 4) (s.cachePart c))
    match s.entryAt c set way with
    | some l => if l.resv then s else s.poisonIn c l word
    | none => s
  else (s.count (cacheCounter c 15 3)).record (mkRec 2 (cacheSource c) (cacheCode c 15 3) (s.cachePart c))

/-! Main storage (R265, R268, R269). -/

/-- The HBM's copy of a word becomes poisoned. Copies that enabled caches hold stay as they are. -/
def State.poisonHbm (s : State) (pa : Nat) : State :=
  let la := lineOf pa
  let i := pa / 8 % 8
  let now := s.mem.line la
  if s.mem.older.any (fun x => x.1 = la) then
    { s with mem := { s.mem with older := s.mem.older.map fun p => if p.1 = la then (p.1, badWord p.2 i) else p } }
  else if s.inL3 la then
    { s with mem := { s.mem with older := alIns s.mem.older la (badWord now i) }, l3Stale := insNat s.l3Stale la }
  else State.keepCopies { s with mem := s.mem.setPoison (pa - pa % 8) true } la now

/-- An uncorrectable error: counted, recorded, the words poisoned; a tag error carries a qualifier whose place in the
record is not stated. -/
def State.hbmBad (s : State) (pa : Nat) (tag : Bool) : State :=
  let n := stackOf pa
  let s := s.count (cMSC n 1)
  if tag then
    let r := mkRec 3 (0x40 + n) 1 none none 0 s.freeVal
    let la := if dataEnd ≤ pa then tagLine pa else lineOf pa
    (s.freeStep.record r).forEach (List.range 8) fun i s => s.poisonHbm (64 * la + 8 * i)
  else (s.record (mkRec 3 (0x40 + n) 1)).poisonHbm pa

/-- An uncorrectable error and its one re-read. -/
def State.hbmReread (s : State) (pa : Nat) (tag ok : Bool) : State :=
  if ok then s.count (cMSC (stackOf pa) 0) else s.hbmBad pa tag

/-- HBM_READ_ERROR (R268). Assumption 27 (DEDUCED). -/
def State.hbmError (s : State) (pa : Nat) (e : HbmError) : State :=
  match e with
  | .single => s.count (cMSC (stackOf pa) 0)
  | .data reread => s.hbmReread pa false reread
  | .tag reread => s.hbmReread pa true reread
  | .link failed tagWord reread =>
    let s := s.count (cMSC (stackOf pa) 2) (min 3 (failed.val + 1))
    if failed.val = 3 then s.hbmReread pa tagWord reread else s

/-- HBM_READ_ERROR (R268). -/
def execHbmReadError (pa : BitVec 40) (e : HbmError) (s : State) : Host.Outcome State Fault Refusal :=
  if storageEnd ≤ pa.toNat then .fault .noStorage else .next (s.hbmError pa.toNat e)

/-- PATROL_SCRUB (R269): the words are read; an error found is an HBM_READ_ERROR. -/
def execPatrolScrub (_stack : Fin 4) (_words : Nat) (s : State) : Host.Outcome State Fault Refusal := .next s

end Sys2Proof.Machine
end

