-- ==== Sys2Proof/Machine/Bytes.lean ====
section
/-!
DEFINITION. Check values over bytes: CRC-32C (R370), CRC-32 and Adler-32 (R412).
-/

namespace Sys2Proof.Machine

/-- One bit of a reflected CRC. -/
def crcBit (poly c : BitVec 32) : BitVec 32 := if c.getLsbD 0 then (c >>> 1) ^^^ poly else c >>> 1

/-- One byte of a reflected CRC. -/
def crcByte (poly c : BitVec 32) (b : Byte) : BitVec 32 :=
  (List.range 8).foldl (fun c _ => crcBit poly c) (c ^^^ b.setWidth 32)

/-- A reflected CRC with initial value and final XOR all ones. -/
def crc (poly : BitVec 32) (bs : List Byte) : BitVec 32 := (bs.foldl (crcByte poly) 0xFFFFFFFF) ^^^ 0xFFFFFFFF

/-- R370: CRC-32C, the reflected form of the Castagnoli polynomial 0x1EDC_6F41. -/
def crc32c (bs : List Byte) : BitVec 32 := crc 0x82F63B78 bs
/-- R412: the CRC-32 of RFC 1952. -/
def crc32 (bs : List Byte) : BitVec 32 := crc 0xEDB88320 bs

/-- R412: Adler-32. -/
def adler32 (bs : List Byte) : BitVec 32 :=
  let r := bs.foldl (fun (p : Nat × Nat) b => let a := (p.1 + b.toNat) % 65521; (a, (p.2 + a) % 65521)) (1, 0)
  BitVec.ofNat 32 (r.2 * 65536 + r.1)

/-- The bytes of little-endian words. -/
def wordBytes (ws : List Word) : List Byte := (ws.map fun w => leBytes 8 w.toNat).flatten

/-- The little-endian words of bytes, the last one filled with zeros. -/
def bytesWords (bs : List Byte) : List Word :=
  (List.range ((bs.length + 7) / 8)).map fun i => BitVec.ofNat 64 (leNat ((bs.drop (8 * i)).take 8))

end Sys2Proof.Machine
end

