-- ==== Sys2Proof/Machine/Trap.lean ====
section
/-!
DEFINITION. What frames every Rilel instruction: capability checks (R188), checkpoints (R271 to R273), the delivery of
events through the trap stack or the fast entry bank (R194 to R210), escapes (R132), and the retirement of one instruction
in the order of R96.
-/

namespace Sys2Proof.Machine

/-! Permissions as masks over CAPH bits 51:40 (R65). -/
abbrev pLOAD : BitVec 12 := 0x001
abbrev pSTORE : BitVec 12 := 0x002
abbrev pEXEC : BitVec 12 := 0x004
abbrev pLDCAP : BitVec 12 := 0x008
abbrev pSTCAP : BitVec 12 := 0x010
abbrev pSEAL : BitVec 12 := 0x020
abbrev pUNSEAL : BitVec 12 := 0x040
abbrev pGATE : BitVec 12 := 0x080
abbrev pSYS : BitVec 12 := 0x100
abbrev pPORT : BitVec 12 := 0x200
abbrev pENGINE : BitVec 12 := 0x400
abbrev pTICK : BitVec 12 := 0x800

/-- A synchronous fault with its cause (R205). -/
structure SFault where
  cls : Nat
  code : Nat
  opnd : Nat
  addr : Word
  barrier : Bool
  card : Bool
  deriving DecidableEq, Repr

/-- An escape: vector, reason, whether the link is PC + 4, g29 and g30 (R133). -/
structure Esc where
  vec : Nat
  reason : Nat
  linkNext : Bool
  g29 : TWord
  g30 : TWord
  deriving DecidableEq, Repr

/-- Why an instruction does not complete. -/
inductive Stop where
  | fault (f : SFault)
  | escape (e : Esc)
  /-- a physical address outside main storage -/
  | absent
  /-- a resumable instruction stops between units without an event (R119) -/
  | suspend
  deriving DecidableEq, Repr

/-- A fault by class and code. -/
def Stop.mk (cls code : Nat) (addr : Word := 0) (opnd : Nat := 0) : Stop := .fault ⟨cls, code, opnd, addr, false, false⟩
def illegalInsn : Stop := .mk 0x01 0
def illegalOperand : Stop := .mk 0x02 0
def alignFault (ea : Word) : Stop := .mk 0x03 0 ea
def capFault (code : Nat) (addr : Word := 0) : Stop := .mk 0x04 code addr
def regionFault (code : Nat) (ea : Word) : Stop := .mk 0x05 code ea
/-- OPERAND_TAG naming its operand. -/
def tagFault (opnd : Nat) (addr : Word := 0) : Stop := .mk 0x06 1 addr opnd
def flowFault (code : Nat) (addr : Word := 0) : Stop := .mk 0x07 code addr
def stackTrap (code : Nat) : Stop := .mk 0x08 code
/-- A machine check of the instruction: 1 poison, 2 reserved tag, 3 bad pair or descriptor; a physical address. -/
def machineCheck (code : Nat) (pa : Nat) : Stop := .mk 0x10 code (BitVec.ofNat 64 pa)
/-- R79: a poisoned register is used; it has no physical address. -/
def poisonReg : Stop := .mk 0x10 1
def noSys : Stop := capFault 2

/-! Capabilities. -/

/-- R187: a sealed capability grants no permission here. -/
def Cap.grants (c : Cap) (p : BitVec 12) : Bool := !c.isSealed && c.perms &&& p == p

/-- R188: every byte is covered, the sum taken without wrapping. -/
def Cap.covers (c : Cap) (a n : Nat) : Bool := decide (c.base.toNat ≤ a ∧ a + n ≤ c.base.toNat + c.len.toNat)

/-- R188: SEALED, PERM, BOUNDS in this order. -/
def Cap.check (c : Cap) (ea : Word) (n : Nat) (p : BitVec 12) : Option Nat :=
  if c.isSealed then some 6 else if c.perms &&& p ≠ p then some 4 else if !c.covers ea.toNat n then some 5 else none

/-- R65: the data bits of CAPH. -/
def Cap.high (c : Cap) : Word :=
  (0 : BitVec 3) ++ BitVec.ofBool c.isSealed ++ c.otype ++ c.perms ++ c.len

/-- R65: the stored pair. -/
def Cap.pair (c : Cap) : TWord × TWord := (.mk0 tagCAPL c.base, .mk0 tagCAPH c.high)

/-- The capability that two words of data spell. -/
def Cap.ofData (lo hi : Word) : Cap :=
  ⟨lo, hi.setWidth 40, hi.extractLsb' 40 12, hi.extractLsb' 52 8, hi.getLsbD 60⟩

/-- R66: a pair of stored words as a capability. -/
def Cap.ofPair (lo hi : TWord) : Option Cap :=
  if lo.tag = tagCAPL ∧ hi.tag = tagCAPH ∧ hi.data.extractLsb' 61 3 = 0 then some (.ofData lo.data hi.data) else none

/-- R189: c15 grants SYS. -/
def CpRegs.sys (r : CpRegs) : Bool := r.c[15].grants pSYS

/-- R107: a branch target under a code capability. -/
def targetCheck (c15 : Cap) (t : Word) : Option Stop :=
  if t.toNat % 4 ≠ 0 then some (alignFault t)
  else if c15.grants pEXEC && c15.covers t.toNat 4 then none else some (capFault 3 t)

/-! PS fields (R86). -/
def CpRegs.em (r : CpRegs) : Bool := bit r.ps 14
def CpRegs.pa (r : CpRegs) : Bool := bit r.ps 12
def CpRegs.res (r : CpRegs) : Bool := bit r.ps 16
def CpRegs.rso (r : CpRegs) : Bool := bit r.ps 15
/-- Rounding mode. -/
def CpRegs.rm (r : CpRegs) : Nat := bits r.ps 11 10
/-- PS with one field replaced. -/
def CpRegs.withPs (r : CpRegs) (hi lo v : Nat) : CpRegs := { r with ps := insBits r.ps hi lo v }

/-- R480: the register window begins here. -/
abbrev windowBase : Nat := 0xFFFFFFFFFFF00000

/-- Line contents over main storage. -/
def Mem.withLines (m : Mem) (x : LineData) : Mem := x.foldl (fun m l => m.putLine l.1 l.2) m

/-- The view of main storage from the L2 of a core site: stale lines that it holds clean stand over the coherent value
(R257, R263). -/
def State.l2Mem (s : State) (t : SiteId) : Mem := if s.l2On t then s.mem.withLines (s.site t).l2Stale else s.mem

/-- The view of main storage that CP_k has: what its L2 and L1D hold, the outputs that wait in a pair's delay store buffer
(R285), and its own held outputs stand over the coherent value. -/
def State.cpMem (s : State) (k : CpId) : Mem :=
  let m := match s.siteOf k with
    | some t => (s.l2Mem t).withLines (s.site t).l1dStale
    | none => s.mem
  let m := match s.pairOf k with
    | some n => m.withHeld s.pairs[n].dsb
    | none => m
  m.withHeld (s.cp k).held

/-- The word from which CP_k fetches an instruction: what its L2 holds, with the poison of its L1I (R58, R115).
Assumption 4 (DESIGN CHOICE). -/
def State.fetchWord (s : State) (k : CpId) (pa : Nat) : TWord :=
  match s.siteOf k with
  | some t =>
    let w := (s.l2Mem t).word pa
    { w with poison := w.poison || (s.site t).l1iBad.contains pa }
  | none => s.mem.word pa

/-- Orders 3 to 5 of R75 for CP_k; no access but LDW and STW reaches the window (R480). Assumption 29 (DESIGN CHOICE). -/
def State.cpXlate (s : State) (k : CpId) (ea : Word) (isStore : Bool) : Except Stop (Nat × Word) :=
  match s.partOf k with
  | none => .error (regionFault 1 ea)
  | some n =>
    if windowBase ≤ ea.toNat then .error (regionFault 1 ea)
    else
      match s.rlbXlate k n ea isStore with
      | .ok pa d => .ok (pa, d)
      | .region c => .error (regionFault c ea)
      | .bad pa => .error (machineCheck 3 pa)
      | .absent => .error .absent

/-! Checkpoints. -/

/-- A store by CP_k goes to the line as its L1D holds it: what the L1D and L2 hold of it beside storage becomes the latest
value. -/
def State.ownLine (s : State) (t : SiteId) (la : Nat) : State :=
  if (s.site t).l1dStale.any (·.1 = la) || (s.site t).l2Stale.any (·.1 = la) then
    { (s.modSite t fun x => { x with l1dStale := x.l1dStale.without la, l2Stale := x.l2Stale.without la }) with
      mem := (s.mem.keepOlder la).putLine la (s.l1View t la) }
  else s

/-- A store is released to the L2 (R272). Assumption 25 (DEDUCED). -/
def State.releaseStore (s : State) (k : CpId) (o : StoreOut) (pol : Nat) : State :=
  let s := match s.siteOf k with
    | some t => s.ownLine t (lineOf o.pa)
    | none => s
  let s := s.cacheStore (s.siteOf k) (s.partOf k) pol (lineOf o.pa)
  { s with mem := s.mem.store o }

/-- One output is released to the L2 (R272). A healing write replaces the word only while the slot still holds what was
loaded, in one step with that check (R152). A register store never waits outside a pair. -/
def State.release (s : State) (k : CpId) (h : Held) : State :=
  match h with
  | .store o pol => s.releaseStore k o pol
  | .heal o pol tag v card =>
    if (s.mem.word o.pa).tag = tag ∧ (s.mem.word o.pa).data = v then
      ((match card with | some c => s.releaseStore k c.1 c.2 | none => s).releaseStore k o pol).countSite k 7
    else s.countSite k 9
  | .line op la => s.lineOp op la
  | .reg _ _ => s

/-- Number of stores in a buffer. -/
def storeCount (h : List Held) : Nat :=
  (h.map fun (x : Held) => match x with | .line _ _ => 0 | .heal _ _ _ _ (some _) => 2 | _ => 1).sum

/-- R285: the leader's outputs: the delay store buffer and the interval that is still open. -/
def State.pairStores (s : State) (k : CpId) (n : PairId) : Nat := storeCount s.pairs[n].dsb + storeCount (s.cp k).held

/-- R285: a pair's buffer and log have room for so many more stores and entries; CP_k outside a pair has no buffer. -/
def State.pairRoom (s : State) (k : CpId) (stores logs : Nat) : Bool :=
  match s.pairOf k with
  | some n => decide (s.pairStores k n + stores ≤ 256) && decide (s.pairs[n].log.length + logs ≤ 4096)
      && decide (s.fld (oCMP_PSTAT n) 48 36 < 4096)
  | none => true

/-- CMP_PSTAT.DSB follows the buffer. -/
def State.setDsb (s : State) (n : PairId) (h : List Held) : State :=
  ({ s with pairs := s.pairs.set n { s.pairs[n] with dsb := h } }).setFld (oCMP_PSTAT n) 57 49 (storeCount h)

/-- R296: an output goes out while CP_k's pair runs unverified. -/
def State.markUnverified (s : State) (k : CpId) : State :=
  match s.pairUnverified k with
  | some n => s.setFlag (oCMP_PSTAT n) 9 true
  | none => s

/-- The pair of CP_k whose follower takes the leader's state at the next checkpoint (R295). -/
def State.pairWaits (s : State) (k : CpId) : Option PairId :=
  (List.finRange 10).find? fun n =>
    s.pairs[n].repairDue && s.fld (oCMP_PAIR n) 35 32 == k.val && s.fld (oCMP_PSTAT n) 35 32 != 0xF
      && (s.fld (oCMP_PSTAT n) 3 0 == 1 || decide (4 ≤ s.fld (oCMP_PSTAT n) 3 0))

/-- R272, R273, R285, R296: take a checkpoint. The held outputs are released, or go to the pair's delay store buffer. A
site due under R276 is frozen for sparing. Assumption 39 (DEDUCED). -/
def State.checkpoint (s : State) (k : CpId) : State :=
  let c := s.cp k
  let s := match s.pairOf k with
    | some n =>
      let p := s.pairs[n]
      -- an interval in which nothing happened is none
      if c.regs = c.ckpt ∧ c.held = [] ∧ c.retired = 0 ∧ p.log.length = p.logMark then s
      else
        let v : Ival := ⟨c.held.length, p.log.length - p.logMark, c.retired, c.regs, c.arith⟩
        State.setDsb { s with pairs := s.pairs.set n { p with ivals := p.ivals ++ [v], logMark := p.log.length } } n (p.dsb ++ c.held)
    | none =>
      (if c.held = [] then s else s.markUnverified k).forEach c.held fun h s => s.release k h
  let s := s.modCp k fun c => { c with ckpt := c.regs, ckptArith := c.arith, held := [], retired := 0, attempts := 0 }
  -- R295: a pair that forms or re-forms waits for this checkpoint, once its comparator is bound
  let s := match s.pairWaits k with
    | some n => { s with pairs := s.pairs.set n { s.pairs[n] with repairDue := false, copying := true } }
    | none => s
  match s.siteOf k with
  | some t =>
    if (s.site t).spareDue then
      ((s.modSite t fun x => { x with spareDue := false }).setFld (oCS_BIND t) 2 0 4).modCp k
        fun c => { c with frozen := true }
    else s
  | none => s

/-- R275: the outputs are discarded and the checkpoint is restored, with the arithmetic trap that was pending then (R182);
events that are pending stay pending. -/
def State.rollback (s : State) (k : CpId) : State :=
  -- a leader's log and the follower's lag lose what the interval added
  let s := match s.pairOf k with
    | some n =>
      ({ s with pairs := s.pairs.set n { s.pairs[n] with log := s.pairs[n].log.take s.pairs[n].logMark,
                                                         retired := s.pairs[n].retired - (s.cp k).retired } }).setFld
        (oCMP_PSTAT n) 48 36 (s.fld (oCMP_PSTAT n) 48 36 - (s.cp k).retired)
    | none => s
  s.modCp k fun c =>
    { c with regs := { c.ckpt with evpend := insBits c.regs.evpend 1 1 c.ckptArith.isSome.toNat }, held := [], retired := 0,
             arith := c.ckptArith, evDue := false, syncWait := none, syncGo := false, waiting := false, custInsn := false }

/-- Add an output (R272). -/
def State.hold (s : State) (k : CpId) (h : Held) : State := s.modCp k fun c => { c with held := c.held ++ [h] }

/-- CFG_STAT.STATE takes a value; every change raises vector 3 of PF0 (R554). -/
def State.setCfgState (s : State) (v : Nat) : State :=
  if s.fld oCFG_STAT 2 0 = v then s else (s.setFld oCFG_STAT 2 0 v).raiseMsix 0 3

/-- R521, R522: a health failure during probation starts the automatic rollback. Assumption 78 (DEDUCED). -/
def State.healthFailure (s : State) : State :=
  if s.fld oCFG_STAT 2 0 = 3 then s.setCfgState 4 else s

/-! Events. -/

/-- An event to deliver: the content of the frame's words 2 to 5 and the resume address (R203, R204). -/
structure Ev where
  sync : Bool
  cause : Word
  addr : Word
  insnAddr : Word
  insn : BitVec 32
  resume : Word
  deriving DecidableEq, Repr

/-- R205: the cause word of a trap frame. -/
def causeWord (f : SFault) : Word :=
  BitVec.ofNat 64 ((if f.barrier then 2 ^ 49 else 0) + (if f.card then 2 ^ 48 else 0) + f.opnd % 8 * 2 ^ 40
    + f.code % 65536 * 2 ^ 16 + f.cls % 256)

/-- R203: the eight words of a trap frame. -/
def trapFrame (r : CpRegs) (e : Ev) : List TWord :=
  [ .ofRaw r.ps, .ofCode e.resume, .ofRaw e.cause, .ofRaw e.addr, .ofRaw e.insnAddr,
    .ofRaw (BitVec.ofNat 64 (r.rs.length * 2 ^ 32 + e.insn.toNat)), r.c[15].pair.1, r.c[15].pair.2 ]

/-- R194: the physical addresses and policies of a frame of n words below TSP, or the REASON of FE_STAT and the rejected
word's address for its machine-check record. Assumption 14 (DEDUCED). -/
def State.pushCheck (s : State) (k : CpId) (n : Nat) : Except (Nat × Option (Nat × Nat)) (List (Nat × Nat)) :=
  let r := s.cr k
  let c13 := r.c[13]
  let top := r.tsp.toNat
  if !c13.grants (pLOAD ||| pSTORE ||| pLDCAP ||| pSTCAP) then .error (2, none)
  else if top < 8 * n ∨ !c13.covers (top - 8 * n) (8 * n) then .error (3, none)
  else if top % 64 ≠ 0 then .error (4, none)
  else
    let eas := (List.range n).map fun i => BitVec.ofNat 64 (top - 8 * n + 8 * i)
    let xs := eas.map fun ea => s.cpXlate k ea true
    match xs.find? (fun x => match x with | .error _ => true | .ok _ => false) with
    | some (.error (.fault f)) => .error (5, if f.cls = 0x10 then some (0xF004, f.addr.toNat) else none)
    | some (.error _) => .error (5, none)
    | _ =>
      let ok := xs.filterMap fun x => match x with | .ok (pa, d) => some (pa, bits d 57 56) | .error _ => none
      let m := s.cpMem k
      match ok.find? (fun x => (m.word x.1).poison || tagReserved (m.word x.1).tag) with
      | some x => .error (6, if tagReserved (m.word x.1).tag then some (0xF003, x.1) else none)
      | none => .ok ok

/-- The frame words are written and TSP moves down (R194). The words of a pair are written whole. -/
def State.pushWords (s : State) (k : CpId) (size : Nat) (at_ : List (Nat × Nat)) (ws : List TWord) : State :=
  let s := (s.touchRlb k ((s.cr k).tsp - 1)).touchRlb k ((s.cr k).tsp - BitVec.ofNat 64 size)
  let outs := (at_.zip ws).map fun x =>
    Held.store ⟨x.1.1, x.2.data, 0xFF, some x.2.tag, none, x.2.tag = tagCAPL ∨ x.2.tag = tagCAPH⟩ x.1.2
  s.modCp k fun c =>
    { c with held := c.held ++ outs, regs := { c.regs with tsp := c.regs.tsp - BitVec.ofNat 64 size } }

/-- The SOURCE of a record of CP_k's core site (R528). -/
def State.srcOf (s : State) (k : CpId) : Nat := match s.siteOf k with | some t => t.val | none => 0x65

/-- R210: the CP stops with its state frozen; a group of two records goes out. -/
def State.doCheckstop (s : State) (k : CpId) (core : Bool) : State :=
  let r := s.cr k
  let s := s.modCp k fun c => { c with checkstop := true, checkstopCore := core, waiting := false }
  (s.record { mkRec 4 (s.srcOf k) 0xF005 (s.partOf k) (some k) 0 r.feStat r.fe[0].data with
      cont := some (((r.fe.toList.drop 1).take 7).map TWord.data) }).healthFailure

/-- R207: fast entry. -/
def State.fastEntry (s : State) (k : CpId) (e : Ev) (reason : Nat) : State :=
  let r := s.cr k
  let ws := trapFrame r e
  let stat := insBits (insBits (insBits r.feStat 11 8 reason) 25 20 r.rs.length) 0 0 1
  s.modRegs k fun r =>
    { r with
      fe := Vector.ofFn fun i => if i.val < 8 then ws.getD i TWord.raw0 else r.fe[i]
      feStat := stat, shE := r.rs, rs := []
      ps := insBits (insBits (insBits r.ps 14 14 1) 16 16 0) 39 32 0xFF
      c := r.c.set 15 r.feCap, pc := r.feVec &&& ~~~3#64 }

/-- R202: deliver an event. Whether its handler was entered: an event that stays pending, or that ends in a checkstop
(R207, R210), was not delivered. The checkpoint that follows a delivery (R273) is its caller's. -/
def State.deliver (s : State) (k : CpId) (e : Ev) : State × Bool :=
  let r := s.cr k
  let core := decide (bits e.cause 7 0 = 0x10)
  if bit r.feStat 0 ∧ e.sync then (s.doCheckstop k core, false)
  else
    let fast := fun (s : State) (reason : Nat) =>
      if bit r.feStat 0 then (s, false)
      else if bit r.feVec 0 = false then (s.doCheckstop k core, false)
      else (s.fastEntry k e reason, true)
    if e.sync ∧ r.em then fast s 0
    else if bit r.tvec 0 = false then fast s 1
    else
      match s.pushCheck k 8 with
      | .error (reason, w) =>
        let s := match w with
          | some (code, pa) => s.record (mkRec 5 (s.srcOf k) code (s.partOf k) (some k) (BitVec.ofNat 64 pa))
          | none => s
        fast s reason
      | .ok at_ =>
        let s := s.pushWords k 64 at_ (trapFrame r e)
        let s := s.modRegs k fun r =>
          { r with ps := insBits (insBits (insBits r.ps 14 14 1) 16 16 0) 39 32 0xFE
                   c := r.c.set 15 r.trapCap, pc := r.tvec &&& ~~~3#64 }
        (s, true)

/-- R200, R284: an event enters the input log with the count at which the leader takes it. -/
def State.logEvent (s : State) (k : CpId) (b : Nat) (m : Option (BitVec 32 × Word)) : State :=
  match s.pairOf k with
  | some n =>
    { s with pairs := s.pairs.set n { s.pairs[n] with log := s.pairs[n].log ++ [.event s.pairs[n].retired b m] } }
  | none => s

/-- After a delivery that entered its handler: what is no longer pending, the log, the checkpoint (R199, R273, R284). -/
def State.delivered (d : State × Bool) (k : CpId) (b : Nat) (m : Option (BitVec 32 × Word)) (f : State → State) : State :=
  if d.2 then ((f d.1).logEvent k b m).checkpoint k else d.1

/-- R179, R181: deliver the pending arithmetic trap with a resume address. Assumption 24 (DEDUCED). -/
def State.deliverArith (s : State) (k : CpId) (resume : Word) : State :=
  match (s.cp k).arith with
  | none => s
  | some a =>
    let e : Ev := ⟨false, BitVec.ofNat 64 (a.exc.toNat * 2 ^ 16 + 0x0A), 0, a.addr, a.insn, resume⟩
    State.delivered (s.deliver k e) k 1 none fun s => (s.modCp k fun c => { c with arith := none }).clrPend k 1

/-- R199: the CP takes its pending event of the lowest EVPEND bit. Assumption 24 (DEDUCED). -/
def State.takeEvent (s : State) (k : CpId) : State :=
  let r := s.cr k
  let s := s.modCp k fun c => { c with waiting := false, custInsn := false, evDue := false }
  let async := fun (cls code : Nat) (addr : Word) =>
    (⟨false, BitVec.ofNat 64 (code * 2 ^ 16 + cls), addr, r.pc, 0, r.pc⟩ : Ev)
  if bit r.evpend 0 then
    match (s.cp k).mck with
    | (q, a) :: t =>
      State.delivered (s.deliver k (async 0x10 4 a)) k 0 (some (q, a)) fun s =>
        let s := s.modCp k fun c => { c with mck := t }
        if t = [] ∧ (s.cp k).mckOvf = false then s.clrPend k 0 else s
    | [] =>
      State.delivered (s.deliver k (async 0x10 4 0)) k 0 none fun s =>
        (s.modCp k fun c => { c with mckOvf := false }).clrPend k 0
  else if bit r.evpend 1 then s.deliverArith k r.pc
  else if bit r.evpend 2 then State.delivered (s.deliver k (async 0x11 0 0)) k 2 none fun s => s.clrPend k 2
  else
    match [3, 4, 5, 6].find? (fun b => bit r.evpend b) with
    | some b => State.delivered (s.deliver k (async 0x12 b 0)) k b none fun s => s.clrPend k b
    | none => s

/-! One instruction. -/

/-- R199: with PS.EM clear an event is pending. -/
def State.eventOpen (s : State) (k : CpId) : Bool := !(s.cr k).em && bits (s.cr k).evpend 6 0 != 0

/-- The CP executes, or waits in WAIT, in a customer routine or for room in its pair: in service, not stopped for any
other reason. Assumptions 3 (DEDUCED), 30 (DEDUCED). -/
def State.standing (s : State) (k : CpId) : Bool :=
  let c := s.cp k
  c.inService && !s.esf.boundary && !s.pwr.emergency && !c.halted && !c.debugHalt && !c.checkstop && !c.frozen && c.syncWait.isNone
    && (s.siteOf k).isSome
    && (List.finRange 10).all fun n =>
        s.fld (oCMP_PAIR n) 35 32 != k || (!s.pairs[n].testing && !s.pairs[n].copying)

/-- The CP issues instructions: no WAIT, no event that goes first, its pair not stalled (R285), and no customer routine that
holds the CP: no later instruction retires before a routine ends (R234). -/
def State.issuing (s : State) (k : CpId) : Bool :=
  let c := s.cp k
  s.standing k && !c.custInsn && !c.waiting && !(c.evDue && s.eventOpen k) && s.pairRoom k 1 1

/-- R96 order 1: the fetch at the program counter. Assumption 4 (DESIGN CHOICE). -/
def State.fetchCheck (s : State) (k : CpId) : Option Stop :=
  let r := s.cr k
  if !(r.c[15].grants pEXEC && r.c[15].covers r.pc.toNat 4) then some (capFault 1 r.pc)
  else
    match s.cpXlate k r.pc false with
    | .error e => some e
    | .ok (pa, _) =>
      let w := s.fetchWord k (pa - pa % 8)
      if tagReserved w.tag then some (machineCheck 2 (pa - pa % 8))
      else if w.poison then some (machineCheck 1 (pa - pa % 8)) else none

/-- The RLB and the caches see the fetch at the program counter (R72, R246). -/
def State.fetched (s : State) (k : CpId) : State :=
  let ea := (s.cr k).pc
  match s.cpXlate k ea false with
  | .ok (pa, d) => (s.touchRlb k ea).cacheFetch (s.siteOf k) (s.partOf k) (policyOf d) (lineOf pa)
  | .error _ => s

/-- R83: a predicate register; p0 reads as true. -/
def CpRegs.pred (r : CpRegs) (i : Nat) : Bool := i == 0 || r.p.getLsbD i

/-- R83: write a predicate register; a write to p0 is discarded. -/
def CpRegs.setP (r : CpRegs) (i : Nat) (b : Bool) : CpRegs :=
  if i = 0 then r
  else { r with p := (r.p &&& ~~~(BitVec.ofNat 8 (2 ^ i))) ||| (if b then BitVec.ofNat 8 (2 ^ i) else 0) }

/-- R92: p[P] XOR N. -/
def CpRegs.holds (r : CpRegs) (p : Pred) : Bool := r.pred p.p.toNat != p.n

/-- The machine-check record of the CP's own instruction (R61, R79, R529). -/
def State.checkRecord (s : State) (k : CpId) (f : SFault) (insn : BitVec 32) : State :=
  if f.cls = 0x10 then
    s.record (mkRec 5 (s.srcOf k) (0xF001 + f.code) (s.partOf k) (some k) f.addr
      (if f.code = 1 then insn.setWidth 64 else 0))
  else s

/-- The trap was delivered, or its delivery checkstopped the CP. -/
def State.arithGone (s : State) (k : CpId) : Bool := (s.cp k).arith.isNone || (s.cp k).checkstop

/-- R202, R204: take a synchronous fault. A pending arithmetic trap goes first where it can be delivered (R179). While a
pair's buffer has no room for the frame the instruction waits (R285). Assumption 24 (DEDUCED). -/
def State.takeFault (s : State) (k : CpId) (insn : BitVec 32) (pc resume : Word) (f : SFault) : State :=
  let s := s.modRegs k fun r => { r with pc := pc }
  let s' := if (s.cp k).arith.isSome && !(s.cr k).em then s.deliverArith k pc else s
  if (s.cp k).arith.isSome && s'.arithGone k then s'
  else if !s.pairRoom k 8 0 then s
  else
    let d := (s.checkRecord k f insn).deliver k ⟨true, causeWord f, f.addr, pc, insn, resume⟩
    if d.2 then d.1.checkpoint k else d.1

/-- R132: an escape, or the fault that replaces it: a target that fails the check of R107 in any way is capability fault
TARGET. An event that is pending then goes before the handler's first instruction (R153). -/
def State.takeEscape (s : State) (k : CpId) (insn : BitVec 32) (pc : Word) (e : Esc) : State :=
  let r := s.cr k
  let entry := if bit r.escv 0 then r.escVec.toList.getD e.vec none else none
  match entry with
  | none => s.takeFault k insn pc pc ⟨0x02, 0x10 + e.vec, 0, 0, false, false⟩
  | some t =>
    match targetCheck r.c[15] t with
    | some _ => s.takeFault k insn pc pc ⟨0x04, 3, 0, t, false, false⟩
    | none =>
      let d := BitVec.ofNat 64 (insn.toNat * 2 ^ 32 + e.reason * 2 ^ 8 + e.vec)
      (s.modCp k fun c => { c with evDue := s.eventOpen k }).modRegs k fun r =>
        { r with
          g := (((r.g.set 27 (.ofRaw d)).set 28 (.ofCode (if e.linkNext then pc + 4 else pc))).set 29 e.g29).set 30 e.g30
          ps := insBits r.ps 16 16 0, pc := t }

/-- R179: a pending arithmetic trap goes before the next instruction, where it can be delivered. -/
def State.arithFirst (s : State) (k : CpId) (legal : Bool) (pr : Pred) : Option State :=
  let r := s.cr k
  if s.issuing k && (s.cp k).arith.isSome && !r.em && (s.fetchCheck k).isNone && legal && r.holds pr then
    let s' := s.deliverArith k r.pc
    if s'.arithGone k then some s' else none
  else none

/-- What a kind of instruction asks of the frame around it. -/
structure Kind where
  /-- resumable: progress is kept and PS.RES set when a unit stops (R119) -/
  resumable : Bool
  /-- a checkpoint stands before and after it (R273) -/
  ckptBoth : Bool
  /-- a checkpoint follows it (R273) -/
  ckptAfter : Bool
  /-- a sync point of a pair (R286) -/
  syncPoint : Bool
  deriving DecidableEq, Repr

/-- Checkpoints before and after, without a sync point (MTK, FENCE). -/
abbrev Kind.ckpt : Kind := ⟨false, true, false, false⟩
/-- A checkpoint after (gates and returns). -/
abbrev Kind.after : Kind := ⟨false, false, true, false⟩
abbrev Kind.plain : Kind := ⟨false, false, false, false⟩
/-- Assumption 13 (DEDUCED). -/
abbrev Kind.unit : Kind := ⟨true, false, false, false⟩
abbrev Kind.sync : Kind := ⟨false, true, false, true⟩

/-- The count of a retired instruction, and the checkpoint that is due by then (R273). Assumption 31 (DEDUCED). -/
def State.retireCount (s : State) (k : CpId) : State :=
  let s := s.countSite k 1
  let s : State := match s.pairOf k with
    | some n =>
      State.setFld { s with pairs := s.pairs.set n { s.pairs[n] with retired := s.pairs[n].retired + 1 } }
        (oCMP_PSTAT n) 48 36 (s.fld (oCMP_PSTAT n) 48 36 + 1)
    | none => s
  let s : State := s.modCp k fun c =>
    { c with retired := c.retired + 1, arith := c.arith.map fun a => { a with age := a.age + 1 } }
  if 256 ≤ (s.cp k).retired then s.checkpoint k else s

/-- After an instruction: the trap that is due (R179, R180) and the events that an unmasking lets in (R198).
Assumption 24 (DEDUCED). -/
def State.afterRetire (s : State) (k : CpId) (emBefore : Bool) : State :=
  let r := s.cr k
  if r.em then s
  else if !s.pairRoom k 8 1 then s.modCp k fun c => { c with evDue := true }
  else if emBefore && bits r.evpend 6 0 ≠ 0 then s.takeEvent k
  else
    match (s.cp k).arith with
    | some a => if r.pa || decide (64 < a.age) then s.deliverArith k r.pc else s
    | none => s

/-- R285: the instruction's outputs or log entries do not fit beside what a pair's buffer and log hold already: the leader
stalls before it. Assumption 40 (DEDUCED). -/
def State.pairOver (s s' : State) (k : CpId) : Bool :=
  match s.pairOf k with
  | some n => (decide (256 < s'.pairStores k n) && s.pairStores k n != 0)
      || (decide (4096 < s'.pairs[n].log.length) && s.pairs[n].log.length != 0)
  | none => false

/-- An instruction at pc does not complete (R202, R132, R119). -/
def State.stopAt (s : State) (k : CpId) (insn : BitVec 32) (pc : Word) : Stop → Host.Outcome State Fault Refusal
  | .fault f => .next (s.takeFault k insn pc (if f.cls = 0x09 then pc + 4 else pc) f)
  | .escape e => .next (s.takeEscape k insn pc e)
  | .suspend => .next (s.modRegs k fun q => { q with pc := pc })
  | .absent => .fault .noStorage

/-- What follows the body of an instruction at pc, which began in the state s with PS.EM as em says: it retires, or it does
not complete; a resumable one that stops has PS.RES set (R119). -/
def State.afterBody (s : State) (k : CpId) (kind : Kind) (insn : BitVec 32) (pc : Word) (em : Bool) :
    State × Option Stop → Host.Outcome State Fault Refusal
  | (s', none) =>
    if s.pairOver s' k then .next s
    else
      let s' := s'.retireCount k
      let s' := if kind.ckptBoth || kind.ckptAfter then s'.checkpoint k else s'
      .next (s'.afterRetire k em)
  | (s', some x) =>
    (if kind.resumable then s'.modRegs k fun r => r.withPs 16 16 1 else s').stopAt k insn pc x

/-- One Rilel instruction of CP_k: fetch, encoding, predicate, then its body, in the order of R96. The body sees the state
with the program counter already past the instruction, and the instruction's own address.
Assumptions 4 (DESIGN CHOICE), 13 (DEDUCED). -/
def State.retire (s : State) (k : CpId) (kind : Kind) (insn : BitVec 32) (legal : Bool) (pr : Pred)
    (body : Word → State → State × Option Stop) : Host.Outcome State Fault Refusal :=
  if !s.issuing k then .next s
  else
    let r := s.cr k
    match s.fetchCheck k with
    | some x => s.stopAt k insn r.pc x
    | none =>
      let s := s.fetched k
      if !legal then s.stopAt k insn r.pc illegalInsn
      else if !(r.holds pr) && !(kind.resumable && r.res) then
        .next (((s.modRegs k fun r => { r with pc := r.pc + 4 }).retireCount k).afterRetire k r.em)
      else if kind.syncPoint && (s.pairOf k).isSome && !(s.cp k).syncGo then
        -- R286: the open interval ends, so that it too is verified
        .next ((s.checkpoint k).modCp k fun c => { c with syncWait := some insn, syncSince := s.now })
      else
        let s := if kind.ckptBoth then s.checkpoint k else s
        let s := s.modCp k fun c => { c with syncGo := false }
        s.afterBody k kind insn r.pc r.em (body r.pc (s.modRegs k fun r => { r with pc := r.pc + 4 }))

end Sys2Proof.Machine
end

