-- ==== Sys2Proof/Machine/Ring.lean ====
section
/-!
DEFINITION. How engines reach storage (R311, R312), the completion rings of the partitions (R329 to R335), and the pending
bits that reach a partition's CPs (R334).
-/

namespace Sys2Proof.Machine

/-! Units by index. -/

/-- A port, a unit by number. -/
def portAt (i : Nat) : PortId := ⟨i % 8, Nat.mod_lt _ (by decide)⟩
def unitAt (i : Nat) : UnitId := ⟨i % 9, Nat.mod_lt _ (by decide)⟩
def State.eng (s : State) (e : UnitId) : Engine := s.engines[e]
def State.modEng (s : State) (e : UnitId) (f : Engine → Engine) : State :=
  { s with engines := s.engines.set e (f (s.eng e)) }
def State.jn (s : State) (u : UnitId) : JnlUnit := s.jnl[u]
def State.modJn (s : State) (u : UnitId) (f : JnlUnit → JnlUnit) : State := { s with jnl := s.jnl.set u (f (s.jn u)) }
def State.port (s : State) (u : PortId) : Port := s.ports[u]
def State.modPort (s : State) (u : PortId) (f : Port → Port) : State := { s with ports := s.ports.set u (f (s.port u)) }

/-- R340, R363: CE_RESV, CE_EPOWN and the MIRROR bit as they apply: a commit's value from the first commit point on. -/
def State.cfgNow (s : State) (off : Nat) : Word := alGet (s.reg off) s.heldCfg off

/-- The partition, 0 to 7, that owns an endpoint for the channel side, or 0x8 to 0xF (R311, R340). -/
def State.epOwnerNow (s : State) (u ep : Nat) : Nat :=
  bits (s.cfgNow (oCE_EPOWN u (ep / 16))) (4 * (ep % 16) + 3) (4 * (ep % 16))

/-! Engine access to storage. -/

/-- Why an engine access fails: STATUS and SUB (R311, R312), and the machine-check or poison record it leaves: CODE and
address. -/
structure EngStop where
  status : Nat
  sub : Nat
  recd : Option (Nat × Nat × Bool)
  deriving DecidableEq, Repr

/-- The regions that a range of bytes touches: one address in each. -/
def regionsOf (ea len : Nat) : List Nat :=
  if len = 0 then []
  else ea :: ((List.range ((ea + len - 1) / 2 ^ 21 - ea / 2 ^ 21)).map fun i => (ea / 2 ^ 21 + 1 + i) * 2 ^ 21)

/-- Orders 3 to 5 of R75 for a range. Assumption 42 (DEDUCED). -/
def State.dmaMap (s : State) (n : PartId) (ea len : Nat) (isStore : Bool) : Except EngStop Unit :=
  match (regionsOf ea len).findSome? (fun a =>
      match s.xlate n (BitVec.ofNat 64 a) isStore with
      | .ok _ _ => none
      | .region c => some (⟨6, c, none⟩ : EngStop)
      | .bad pa => some ⟨4, 0, some (0xF004, pa, false)⟩
      | .absent => some ⟨4, 0, none⟩) with
  | some e => .error e
  | none => .ok ()

/-- R311: an access of a program, checked by its capability and the region table. -/
def State.dmaCheck (s : State) (n : PartId) (cap : Cap) (perm : BitVec 12) (ea len : Nat) (isStore : Bool) :
    Except EngStop Unit :=
  match (if len = 0 then none else cap.check (BitVec.ofNat 64 ea) len perm) with
  | some c => .error ⟨5, c, none⟩
  | none => s.dmaMap n ea len isStore

/-- The physical address behind a mapped effective address. -/
def State.dmaPa (s : State) (n : PartId) (ea : Nat) : Nat :=
  match s.xlate n (BitVec.ofNat 64 ea) false with
  | .ok pa _ => pa
  | _ => 0

/-- R61, R80, R312: the words under a mapped range must be readable. -/
def State.dmaReadable (s : State) (n : PartId) (ea len : Nat) : Except EngStop Unit :=
  if len = 0 then .ok ()
  else
    match (List.range ((ea + len - 1) / 8 - ea / 8 + 1)).findSome? (fun i =>
        let pa := s.dmaPa n (8 * (ea / 8 + i))
        let w := s.mem.word pa
        if tagReserved w.tag then some (⟨4, 0, some (0xF010, pa, true)⟩ : EngStop)
        else if w.poison then some ⟨4, 0, some (0xF010, pa, false)⟩ else none) with
    | some e => .error e
    | none => .ok ()

/-- Bytes of a mapped, readable range. -/
def State.dmaBytes (s : State) (n : PartId) (ea len : Nat) : List Byte :=
  (List.range len).map fun i => s.mem.byte (s.dmaPa n (ea + i))

/-- A checked read of bytes. -/
def State.dmaRead (s : State) (n : PartId) (cap : Cap) (ea len : Nat) : Except EngStop (List Byte) := do
  s.dmaCheck n cap pLOAD ea len false
  s.dmaReadable n ea len
  .ok (s.dmaBytes n ea len)

/-- Tagged words at an 8-byte-aligned mapped address. -/
def State.dmaWords (s : State) (n : PartId) (ea k : Nat) : List TWord :=
  (List.range k).map fun i => s.mem.word (s.dmaPa n (ea + 8 * i))

/-- POLICY of the region of a mapped effective address (R70, R259). -/
def State.dmaPol (s : State) (n : PartId) (ea : Nat) : Nat :=
  match s.xlate n (BitVec.ofNat 64 ea) false with
  | .ok _ d => policyOf d
  | _ => 0

/-- R258, R261: the caches see the read of a mapped range, line by line. -/
def State.dmaTouch (s : State) (n : PartId) (ea len : Nat) : State :=
  if len = 0 then s
  else
    s.forEach (List.range ((ea + len - 1) / 64 - ea / 64 + 1)) fun i s =>
      match s.xlate n (BitVec.ofNat 64 (64 * (ea / 64 + i))) false with
      | .ok pa d => s.sharedRead (some n) (policyOf d) (lineOf pa)
      | _ => s

/-- R59, R259, R261: an engine or host store goes through the L3, under the POLICY of its region. -/
def State.dmaStore (s : State) (part : Option PartId) (o : StoreOut) (pol : Nat := 0) : State :=
  let s := s.cacheStore none part pol (lineOf o.pa)
  { s with mem := s.mem.store o }

/-- The words that a write of bytes touches: address in storage, data, byte mask. -/
def byteWrites (paOf : Nat → Nat) (ea : Nat) (bs : List Byte) : List StoreOut :=
  if bs = [] then []
  else
    (List.range ((ea + bs.length - 1) / 8 - ea / 8 + 1)).map fun i =>
      let w := 8 * (ea / 8 + i)
      let lane := fun j => if ea ≤ w + j ∧ w + j < ea + bs.length then some (bs.getD (w + j - ea) 0) else none
      let v := leNat ((List.range 8).map fun j => (lane j).getD 0)
      let m := (List.range 8).foldl (fun m j => if (lane j).isSome then m + 2 ^ j else m) 0
      ⟨paOf w, BitVec.ofNat 64 v, BitVec.ofNat 8 m, some tagRAW, none, false⟩

/-- R62, R312: an engine writes bytes at a mapped range; every word it touches becomes RAW. -/
def State.dmaWrite (s : State) (n : PartId) (ea : Nat) (bs : List Byte) : State :=
  s.forEach (byteWrites (s.dmaPa n) ea bs).zipIdx fun x s => s.dmaStore (some n) x.1 (s.dmaPol n (8 * (ea / 8 + x.2)))

/-- The record that a failed engine access leaves: R71, R80. -/
def State.engAccessRecord (s : State) (e : UnitId) (n : PartId) (cmd : Word) (x : EngStop) : State :=
  match x.recd with
  | some (code, pa, reserved) =>
    if code = 0xF004 then s.record (mkRec 5 (0x48 + e) code (some n) none (BitVec.ofNat 64 pa))
    else s.record (mkRec 3 (0x48 + e) code (some n) none (BitVec.ofNat 64 pa) cmd
      (BitVec.ofNat 64 (e.val + if reserved then 256 else 0)))
  | none => s

/-- A failed access of a command: its record, and the engine has an error event (R235). -/
def State.engRecord (s : State) (e : UnitId) (n : PartId) (cmd : Word) (x : EngStop) : State :=
  (s.modEng e fun g => { g with seq := { g.seq with errEv := true } }).engAccessRecord e n cmd x

/-! Pending bits of a partition (R44, R333, R334). -/

/-- The CP counts as in service for R334. -/
def State.takesEvents (s : State) (k : CpId) : Bool := (s.cp k).inService && !(s.cp k).checkstop

/-- R334: the CP named, or the lowest-numbered one in service, or the first that enters service. -/
def State.pendTo (s : State) (n : PartId) (k : CpId) (b : Nat) : State :=
  if s.takesEvents k ∧ s.partOf k = some n then s.setPend k b
  else
    match (List.finRange 16).find? (fun j => decide (s.partOf j = some n) && s.takesEvents j) with
    | some j => s.setPend j b
    | none => { s with pendWait := s.pendWait.set n (s.pendWait[n] ||| BitVec.ofNat 7 (2 ^ b)) }

/-- A CP number in a 4-bit field. -/
def cpField (v : Nat) : CpId := ⟨v % 16, Nat.mod_lt _ (by decide)⟩

/-- A partition whose CPs are in service: RUNNING or HALTED (R470). -/
def State.serving (s : State) (n : PartId) : Bool := s.fld (oPRT_STAT n) 2 0 == 2 || s.fld (oPRT_STAT n) 2 0 == 3

/-- R44: the tick interrupt of a partition at the tick that was numbered last. -/
def State.tickInt (s : State) (n : PartId) : State :=
  let d := s.fld (oTCK_PART n) 39 32
  if s.serving n ∧ d ≠ 0 ∧ (s.tickNum + 2 ^ 48 - s.tick.t0[n]) % 2 ^ 48 % d = 0 then
    s.pendTo n (cpField (s.fld (oTCK_PART n) 43 40)) 3
  else s

/-! Completion rings. -/

/-- R330: words 0 to 3 of a record but for PHASE. -/
def mkCRec (sidx : Byte) (pgm : BitVec 16) (db notice ends unv : Bool) (ep unit sub status : Nat) (cmd : Word)
    (frames bytes tick : Nat) (irq : Bool) : CRec :=
  ⟨[ BitVec.ofNat 64 (sidx.toNat * 2 ^ 48 + pgm.toNat * 2 ^ 32 + (if db then 2 ^ 30 else 0)
        + (if notice then 2 ^ 29 else 0) + (if ends then 2 ^ 27 else 0) + (if unv then 2 ^ 26 else 0)
        + ep % 64 * 2 ^ 20 + unit % 16 * 2 ^ 16 + sub % 256 * 2 ^ 8 + status % 256),
     cmd, BitVec.ofNat 64 (frames % 2 ^ 32 * 2 ^ 32 + bytes % 2 ^ 32), BitVec.ofNat 64 (tick % 2 ^ 48) ], irq⟩

/-- PRT_CRING_n.ORDER. -/
def State.ringOrder (s : State) (n : PartId) : Nat := s.fld (oPRT_CRING n) 4 0
/-- R331: HEAD − TAIL. -/
def State.cringUsed (s : State) (n : PartId) : Nat :=
  (s.fld (oPRT_CRIDX n) 31 0 + 2 ^ 32 - s.fld (oPRT_CRIDX n) 63 32) % 2 ^ 32
/-- Where the next record goes. Assumption 42 (DEDUCED). -/
def State.ringSlot (s : State) (n : PartId) : Nat :=
  s.fld (oPRT_CRING n) 63 12 * 4096 + 32 * (s.fld (oPRT_CRIDX n) 31 0 % 2 ^ s.ringOrder n)
/-- R331, R332: a record can be written. -/
def State.ringRoom (s : State) (n : PartId) : Bool :=
  decide (s.cringUsed n < 2 ^ s.ringOrder n)
    && (match s.dmaMap n (s.ringSlot n) 32 true with | .ok _ => true | .error _ => false)

/-- R331, R333: write a record and raise the channel interrupt. -/
def State.ringWrite (s : State) (n : PartId) (r : CRec) : State :=
  let h := s.fld (oPRT_CRIDX n) 31 0
  let phase : Word := if h.testBit (s.ringOrder n) then 0x8000000000000000 else 0
  let at_ := s.ringSlot n
  let ws := (r.words.headD 0 ||| phase) :: r.words.drop 1
  let s := s.forEach (ws.zipIdx) fun (w, i) s =>
    s.dmaStore (some n) (.raw (s.dmaPa n (at_ + 8 * i)) w) (s.dmaPol n (at_ + 8 * i))
  let s := s.setFld (oPRT_CRIDX n) 31 0 ((h + 1) % 2 ^ 32)
  if r.irq then
    let s := s.pendTo n (cpField (s.fld (oPRT_CRING n) 11 8)) 4
    if s.flag (oPRT_CRING n) 5 then s.raiseMsix (vfFn n) 1 else s
  else s

/-- A record that no context keeps: it is written, or waits for space behind those that wait (R332).
Assumption 42 (DEDUCED). -/
def State.ringPost (s : State) (n : PartId) (r : CRec) : State :=
  if s.ringWait[n] = [] ∧ s.ringRoom n then s.ringWrite n r
  else { s with ringWait := s.ringWait.set n (s.ringWait[n] ++ [r]) }

/-- TAIL has moved: records that wait are written in order. -/
def State.ringDrain (s : State) (n : PartId) : Nat → State
  | 0 => s
  | fuel + 1 =>
    match s.ringWait[n] with
    | [] => s
    | r :: t =>
      if s.ringRoom n then (({ s with ringWait := s.ringWait.set n t }).ringWrite n r).ringDrain n fuel else s

/-- R335: a notice. -/
def State.notice (s : State) (n : PartId) (kind unit : Nat) : State :=
  s.ringPost n (mkCRec 0 0 false true false false 0 unit 0 kind 0 0 0 s.tickNum true)

/-- PRT_STAT_n.STATE changes; the VF is told (R554). -/
def State.setPartState (s : State) (n : PartId) (v : Nat) : State :=
  if s.fld (oPRT_STAT n) 2 0 = v then s else (s.setFld (oPRT_STAT n) 2 0 v).raiseMsix (vfFn n) 2

/-- PRT_STAT_n.IN_SERVICE follows the CPs (R470). -/
def State.showService (s : State) (n : PartId) : State :=
  s.setFld (oPRT_STAT n) 31 16 ((List.finRange 16).foldl
    (fun m k => if s.partOf k = some n ∧ s.takesEvents k = true then m + 2 ^ k.val else m) 0)

/-- Bits set in a 7-bit map become pending on a CP. -/
def State.pendAll (s : State) (k : CpId) (m : BitVec 7) : State :=
  s.forEach ((List.range 7).filter fun b => m.getLsbD b) fun b s => s.setPend k b

/-- R334: what waited for the partition's first CP in service becomes pending on CP_k. -/
def State.takeWaiting (s : State) (n : PartId) (k : CpId) : State :=
  let s := s.pendAll k s.pendWait[n]
  ({ s with pendWait := s.pendWait.set n 0 }).showService n

/-- R334: a CP enters service. -/
def State.enterService (s : State) (n : PartId) (k : CpId) : State :=
  (s.modCp k fun c => { c with inService := true, checkstop := false, checkstopCore := false }).takeWaiting n k

/-- R334: a CP that was stopped for restart (R210, R282) is in service again. -/
def State.returnToService (s : State) (k : CpId) : State :=
  match s.partOf k with
  | some n => s.takeWaiting n k
  | none => s

/-! Names of units in records (R528). -/

def srcPort (u : Nat) : Nat := 0x58 + u
abbrev srcJnl : Nat := 0x61
abbrev srcLkp : Nat := 0x65

/-- A record that names a unit and an endpoint (R529). -/
def unitInfo (u ep : Nat) : Word := BitVec.ofNat 64 (u * 256 + ep)

/-- The partition that owns a number in a 4-bit owner field. -/
def ownerPart (v : Nat) : Option PartId := if h : v < 8 then some ⟨v, h⟩ else none

end Sys2Proof.Machine
end

