-- ==== Sys2Proof/Machine/Jnl.lean ====
section
/-!
DEFINITION. The transaction journal (chapter 12): its area, entries in two copies, the pool, sequence numbers,
acknowledgement, hold and retransmission, and the mirror traffic to the twin (R341 to R357).
-/

namespace Sys2Proof.Machine

/-! Entries (R345 to R347). -/

/-- A journal entry (R346). -/
structure JEntry where
  unit : Nat
  ep : Nat
  seq : Nat
  state : Nat
  kind : Nat
  /-- bit 0 EOM, 1 UNV, 2 POISONED, 3 UNMIRRORED, 4 TB -/
  flags : BitVec 8
  tick : Nat
  epoch : Nat
  len : Nat
  doff : Nat
  rtx : Nat
  part : Nat
  pgm : Nat
  crc : BitVec 32
  sent : Word
  cmd : Word
  deriving DecidableEq, Repr

/-- The words of an entry. -/
def JEntry.words (e : JEntry) : List Word :=
  [ BitVec.ofNat 64 (e.unit * 2 ^ 54 + e.ep * 2 ^ 48 + e.seq % 2 ^ 48),
    BitVec.ofNat 64 (e.state * 2 ^ 60 + e.kind * 2 ^ 56 + e.flags.toNat * 2 ^ 48 + e.tick % 2 ^ 48),
    BitVec.ofNat 64 (e.epoch * 2 ^ 48 + e.len * 2 ^ 32 + e.doff),
    BitVec.ofNat 64 (e.rtx * 2 ^ 56 + e.part * 2 ^ 52 + e.pgm * 2 ^ 32 + e.crc.toNat),
    e.sent, e.cmd, 0, 0 ]

/-- The entry that words spell. -/
def JEntry.ofWords (ws : List Word) : JEntry :=
  let w := fun i => ws.getD i 0
  { unit := bits (w 0) 57 54, ep := bits (w 0) 53 48, seq := bits (w 0) 47 0
    state := bits (w 1) 63 60, kind := bits (w 1) 59 56, flags := (w 1).extractLsb' 48 8, tick := bits (w 1) 47 0
    epoch := bits (w 2) 63 48, len := bits (w 2) 45 32, doff := bits (w 2) 29 0
    rtx := bits (w 3) 63 56, part := bits (w 3) 55 52, pgm := bits (w 3) 47 32, crc := (w 3).setWidth 32
    sent := w 4, cmd := w 5 }

abbrev jFREE : Nat := 0
abbrev jWRITTEN : Nat := 1
abbrev jREADY : Nat := 2
abbrev jSENT : Nat := 3
abbrev jRESEND : Nat := 4
abbrev jHELD : Nat := 5

/-- Flag bits of an entry. -/
def JEntry.flag (e : JEntry) (i : Nat) : Bool := e.flags.getLsbD i
def JEntry.setFlag (e : JEntry) (i : Nat) : JEntry := { e with flags := e.flags ||| BitVec.ofNat 8 (2 ^ i) }

/-- R344, R345: the primary copy of entry i of unit u; the second lies 0x200 bytes above. -/
def entryAddr (u i : Nat) : Nat := journalBase + 0x100000 + 0x800000 * u + 1024 * (i / 8) + 64 * (i % 8)

/-- A copy can be read. -/
def State.copyOk (s : State) (a : Nat) : Bool := (List.range 8).all fun i => !s.mem.poison.contains (a + 8 * i)

/-- The entry, from the copy that can be read (R345). -/
def State.entry (s : State) (u : UnitId) (i : Nat) : JEntry :=
  let a := entryAddr u i
  .ofWords (s.mem.raws (if s.copyOk a then a else a + 0x200) 8)

/-- R345: a bad copy is rewritten from the other and counted. -/
def State.repairEntry (s : State) (u : UnitId) (i : Nat) : State :=
  let a := entryAddr u i
  let fix := fun (s : State) (bad good : Nat) =>
    ({ s with mem := s.mem.putRaws bad (s.mem.raws good 8) }).count (cUNIT u 6)
  if !s.copyOk a && s.copyOk (a + 0x200) then fix s a (a + 0x200)
  else if s.copyOk a && !s.copyOk (a + 0x200) then fix s (a + 0x200) a else s

/-- Write both copies. Assumption 44 (DEDUCED). -/
def State.putEntry (s : State) (u : UnitId) (i : Nat) (e : JEntry) : State :=
  let a := entryAddr u i
  { s with mem := (s.mem.putRaws a e.words).putRaws (a + 0x200) e.words }

/-- Read, change and write an entry. -/
def State.modEntry (s : State) (u : UnitId) (i : Nat) (f : JEntry → JEntry) : State :=
  (s.repairEntry u i).putEntry u i (f (s.entry u i))

/-- The entries of unit u, in commit order. -/
def State.entries (s : State) (u : UnitId) : List (Nat × JEntry) := (s.jn u).slots.map fun i => (i, s.entry u i)

/-! Sequence numbers (R341, R342). -/

/-- R342: a is after b, modulo 2^n. -/
def isAfter (n a b : Nat) : Bool :=
  let d := (a + 2 ^ n - b % 2 ^ n) % 2 ^ n
  decide (1 ≤ d ∧ d < 2 ^ (n - 1))
def seqAfter (a b : Nat) : Bool := isAfter 48 a b
def seqNext (a : Nat) : Nat := (a + 1) % 2 ^ 48
def seqPrev (a : Nat) : Nat := (a + 2 ^ 48 - 1) % 2 ^ 48

/-- The next outbound number of an endpoint. -/
def State.oseq (s : State) (u ep : Nat) : Nat := s.fld (oJNL_OSEQ u ep) 47 0

/-! The pool (R348). -/

/-- Granules of a payload. -/
def granules (len : Nat) : Nat := (len + 63) / 64

/-- The pool of unit u: first byte offset within the journal area and size in bytes. -/
def State.poolArea (s : State) (u : UnitId) : Nat × Nat :=
  (0x4900000 + s.fld (oJNL_POOL u) 9 0 * 2 ^ 20, s.fld (oJNL_POOL u) 41 32 * 2 ^ 20)

/-- A run of granules is free. -/
def State.poolFree (s : State) (u : UnitId) (doff len : Nat) : Bool :=
  let (b, n) := s.poolArea u
  decide (b ≤ doff ∧ doff % 64 = 0 ∧ doff + 64 * granules len ≤ b + n)
    && (s.jn u).pool.all fun p =>
        decide (p.1.doff + 64 * granules p.1.len ≤ doff ∨ doff + 64 * granules len ≤ p.1.doff)

/-- Where a payload goes: the place is not stated, so any free run may be taken; none when the pool is full.
Assumption 44 (DEDUCED). -/
def State.poolPlace (s : State) (u : UnitId) (len : Nat) : Option Nat :=
  let (b, n) := s.poolArea u
  let any := b + 64 * (s.freeVal.toNat % (n / 64 + 1))
  if s.poolFree u any len then some any
  else (b :: ((s.jn u).pool.map fun p => p.1.doff + 64 * granules p.1.len)).find? fun d => s.poolFree u d len

/-- JNL_STAT_u.USED and POOL_USED follow the unit. -/
def State.showJnl (s : State) (u : UnitId) : State :=
  let j := s.jn u
  let used := (j.pool.map fun p => 64 * granules p.1.len).sum
  (s.setFld (oJNL_STAT u) 48 32 j.slots.length).setFld (oJNL_STAT u) 21 12 ((used + 2 ^ 20 - 1) / 2 ^ 20)

/-- Write a payload into the pool with one use. -/
def State.poolPut (s : State) (u : UnitId) (bs : List Byte) : Option (State × Payload) :=
  match s.poolPlace u bs.length with
  | none => none
  | some d =>
    let s := s.freeStep
    let p : Payload := ⟨d, bs.length⟩
    let s := { s with mem := s.mem.putRaws (journalBase + d) (bytesWords bs) }
    some ((s.modJn u fun j => { j with pool := (p, 1) :: j.pool }).showJnl u, p)

/-- One more use of a payload, or one fewer; granules without a use are free. -/
def State.poolUse (s : State) (u : UnitId) (p : Payload) : State :=
  s.modJn u fun j => { j with pool := j.pool.map fun x => if x.1 = p then (x.1, x.2 + 1) else x }
def State.poolDrop (s : State) (u : UnitId) (p : Payload) : State :=
  (s.modJn u fun j =>
    { j with pool := (j.pool.map fun x => if x.1 = p then (x.1, x.2 - 1) else x).filter fun x => x.2 ≠ 0 }).showJnl u

/-- The bytes of a payload. -/
def State.payloadBytes (s : State) (p : Payload) : List Byte := s.mem.bytes (journalBase + p.doff) p.len
/-- R355: every word of a payload can be read. -/
def State.payloadOk (s : State) (p : Payload) : Bool :=
  (List.range ((p.len + 7) / 8)).all fun i => !s.mem.poison.contains (journalBase + p.doff + 8 * i)

/-! Mirroring (R356, R357, R452, R453). -/

/-- A Dalnos frame leaves (R452). -/
def State.dalSend (s : State) (ty unitj arg : Nat) (payload : List Byte) : State :=
  let counts := decide (ty ≠ 0 ∧ ty ≠ 0xA)
  let h0 := BitVec.ofNat 64 ((if counts then s.twin.txSeq else 0) % 2 ^ 48 * 2 ^ 16 + unitj * 2 ^ 12 + ty * 16 + 1)
  let h1 := BitVec.ofNat 64 (payload.length * 2 ^ 34 + arg % 2 ^ 32)
  let f : DalFrame := ⟨h0, h1, payload, crc32c (wordBytes [h0, h1] ++ payload)⟩
  let s := s.emit (.dal f)
  if counts then { s with twin := { s.twin with txSeq := (s.twin.txSeq + 1) % 2 ^ 48, replay := f :: s.twin.replay } }
  else s

/-- TWN_STAT.LINK_UP. -/
def State.linkUp (s : State) : Bool := s.flag oTWN_STAT 6
/-- JNL_PORT.MIRROR as it applies (R363). -/
def State.mirrorSet (s : State) (u : UnitId) : Bool := bit (s.cfgNow (oJNL_PORT u)) 0
/-- The unit is mirrored now (R356). -/
def State.mirrors (s : State) (u : UnitId) : Bool := s.mirrorSet u && s.twin.mirrorOn && s.linkUp

/-- R356: a payload goes to the twin as it is sealed. -/
def State.mirrorPayload (s : State) (u : UnitId) (p : Payload) : State :=
  if s.mirrors u then
    let s := (s.dalSend 1 u p.doff (s.payloadBytes p)).modJn u fun j => { j with paySent := p :: j.paySent.filter (· ≠ p) }
    { s with twin := { s.twin with mirPound := s.twin.mirPound + p.len } }
  else s
/-- R25, R451: the mirrored bytes that a pound holds at the net rate of the lanes in use; none while there is no pound.
Assumption 89 (DESIGN CHOICE). -/
def State.mirrorLimit (s : State) : Option Nat :=
  if s.fld oTCK_STAT 2 0 = 0 ∨ s.fld oTCK_PERIOD 26 0 = 0 then none
  else some ((match s.fld oTWN_STAT 34 32 with | 3 => 100 | 2 => 50 | _ => 25) * s.fld oTCK_PERIOD 26 0)

/-- R25: so many more bytes of a mirrored port keep to the limit of all ports together. Assumption 89 (DESIGN CHOICE). -/
def State.mirrorRoom (s : State) (u : UnitId) (n : Nat) : Bool :=
  match s.mirrorLimit with
  | some l => !s.mirrors u || s.twin.mirPound == 0 || decide (s.twin.mirPound + n ≤ l)
  | none => true

/-- R25: the excess is kept as mirror back-pressure. Assumption 89 (DESIGN CHOICE). -/
def State.mirrorBack (s : State) (n : Nat) : State := { s with twin := { s.twin with mirBack := s.twin.mirBack + n } }

/-- A payload that was sealed before mirroring came on goes to the twin before the entry that names it (R356). -/
def State.mirrorLate (s : State) (u : UnitId) (kind : Nat) (p : Payload) : State :=
  if 2 ≤ kind ∨ p.doff = 0 ∨ (s.jn u).paySent.contains p then s else s.mirrorPayload u p

/-- R357: an entry goes unmirrored: it is READY and carries the mark. -/
def State.bypassEntry (s : State) (u : UnitId) (i : Nat) : State :=
  s.modEntry u i fun e => { (e.setFlag 3) with state := if e.state = jWRITTEN then jREADY else e.state }

/-- R363: MIRROR of a unit changes from was. Cleared: WRITTEN entries become READY. Set: older entries are UNMIRRORED. -/
def State.mirrorChanged (s : State) (u : UnitId) (was : Bool) : State :=
  let is_ := s.flag (oJNL_PORT u) 0
  if was && !is_ then
    let s := s.forEach (s.entries u) fun x s =>
      if x.2.state = jWRITTEN then s.modEntry u x.1 fun e => { e with state := jREADY } else s
    s.modJn u fun j => { j with mirEntry := [], mirPayload := [], mirDone := [], paySent := [] }
  else if is_ && !was then s.forEach (s.entries u) fun x s => s.modEntry u x.1 fun e => e.setFlag 3
  else s

/-- R340, R363: the first commit point after a configuration commit: its values apply from here on. -/
def State.commitCfg (s : State) : State :=
  let old := s.heldCfg
  let s := { s with heldCfg := [] }
  s.forEach (List.finRange 9) fun u s =>
    match old.find? (fun x => x.1 = oJNL_PORT u) with
    | some (_, w) => s.mirrorChanged u (bit w 0)
    | none => s

/-! Committing a frame (R343, R345, R353). -/

/-- The first slot at or after i that is FREE. -/
def freeSlot (used : List Nat) : Nat → Nat → Nat
  | 0, i => i
  | fuel + 1, i => if used.contains i then freeSlot used fuel ((i + 1) % 65536) else i

/-- JNL_HOLD: the endpoint is held. -/
def State.epHeld (s : State) (u ep : Nat) : Bool := s.flag (oJNL_HOLD u) ep

/-- Entries that are FREE. -/
def State.freeEntries (s : State) (u : UnitId) : Nat := 65536 - (s.jn u).slots.length

/-- What a frame is to carry. -/
structure NewFrame where
  ep : Nat
  kind : Nat
  eom : Bool
  unv : Bool
  tb : Bool
  poisoned : Bool
  tick : Nat
  payload : Payload
  part : Nat
  pgm : Nat
  cmd : Word
  deriving DecidableEq, Repr

/-- CRC-32C of the payload that a frame is first sent with: FILL and SPOIL keep none (R346, R348). -/
def State.frameBytes (s : State) (u : UnitId) (kind : Nat) (p : Payload) : List Byte :=
  if kind = 2 then
    let w := leBytes 4 (s.fld (oTCK_PORT u) 63 32)
    (List.range p.len).map fun i => w.getD (i % 4) 0
  else if kind = 3 then [] else s.payloadBytes p

/-- A frame takes the next number of its endpoint and a slot; both copies are written. -/
def State.commitFrame (s : State) (u : UnitId) (f : NewFrame) : State × Nat :=
  let q := s.oseq u f.ep
  let j := s.jn u
  let i := freeSlot j.slots (j.slots.length + 1) ((j.lastSlot + 1) % 65536)
  let mir := s.mirrors u
  let bypass := s.mirrorSet u && s.twin.bypass
  let st := if s.epHeld u f.ep then jHELD else if mir then jWRITTEN else jREADY
  let fl := (if f.eom then 1 else 0) + (if f.unv then 2 else 0) + (if f.poisoned then 4 else 0)
    + (if bypass then 8 else 0) + (if f.tb then 16 else 0)
  let e : JEntry :=
    ⟨u, f.ep, q, st, f.kind, BitVec.ofNat 8 fl, f.tick, 0, f.payload.len,
      if f.kind = 2 ∨ f.kind = 3 then 0 else f.payload.doff, 0, f.part, f.pgm, crc32c (s.frameBytes u f.kind f.payload),
      0, f.cmd⟩
  let s := ((s.mirrorLate u f.kind f.payload).putEntry u i e).setFld (oJNL_OSEQ u f.ep) 47 0 (seqNext q)
  let s := s.modJn u fun j =>
    { j with slots := j.slots ++ [i], lastSlot := i,
             mirEntry := if mir then i :: j.mirEntry else j.mirEntry,
             mirPayload := if mir then i :: j.mirPayload else j.mirPayload }
  let s := if mir then s.dalSend 2 u i (wordBytes e.words) else s
  (s.showJnl u, q)

/-! Freeing and holding. -/

/-- The payload that an entry keeps in the pool. -/
def JEntry.payload (e : JEntry) : Payload := ⟨e.doff, e.len⟩
def JEntry.keeps (e : JEntry) : Bool := e.kind ≤ 1 && e.doff ≠ 0

/-- An entry becomes FREE (R350); the twin is told (R356). -/
def State.freeEntry (s : State) (u : UnitId) (i : Nat) : State :=
  let e := s.entry u i
  let s := s.modEntry u i fun e => { e with state := jFREE }
  let s := if e.keeps then s.poolDrop u e.payload else s
  (s.modJn u fun j =>
    { j with slots := j.slots.filter (· ≠ i), mirEntry := j.mirEntry.filter (· ≠ i),
             mirPayload := j.mirPayload.filter (· ≠ i), rdWait := j.rdWait.filter (· ≠ i), cut := j.cut.filter (· ≠ i),
             mirDone := j.mirDone.filter (· ≠ i), paySent := j.paySent.filter (· ≠ e.payload) }).showJnl u

/-- The indices freed by one acknowledgement are passed to the twin (R356). -/
def State.mirrorFrees (s : State) (u : UnitId) (is : List Nat) : State :=
  if s.mirrors u ∧ is ≠ [] then s.dalSend 4 u is.length (is.map fun i => leBytes 2 i).flatten else s

/-- R353: the endpoint is held; PARTNER_LOST is recorded and counts for probation (R521). -/
def State.holdEndpoint (s : State) (u : UnitId) (ep seq : Nat) : State :=
  let s := s.forEach ((s.entries u).filter fun x => x.2.ep = ep ∧ 2 ≤ x.2.state ∧ x.2.state ≤ 4) fun x s =>
    s.modEntry u x.1 fun e => { e with state := jHELD }
  let s := (s.setFlag (oJNL_HOLD u) ep true).setFlag (oJNL_STAT u) 0 true
  let src := if u.val = 8 then 0x60 else srcPort u
  (s.record (mkRec 1 src 0xF00A (ownerPart (s.fld (oCE_EPOWN u (ep / 16)) (4 * (ep % 16) + 3) (4 * (ep % 16)))) none 0
    (unitInfo u ep) (BitVec.ofNat 64 seq))).healthFailure

/-- R353: an endpoint resumes: its HELD entries are sent again with RTX 0. -/
def State.resumeEndpoint (s : State) (u : UnitId) (ep : Nat) : State :=
  let s := s.forEach ((s.entries u).filter fun x => x.2.ep = ep ∧ x.2.state = jHELD) fun x s =>
    s.modEntry u x.1 fun e => { e with state := jRESEND, rtx := 0 }
  let s := s.setFlag (oJNL_HOLD u) ep false
  s.setFlag (oJNL_STAT u) 0 (s.reg (oJNL_HOLD u) != 0)

/-- R349: the ring or the pool runs short. Assumption 44 (DEDUCED). -/
def State.jnlFull (s : State) (u : UnitId) : State :=
  ((s.count (cUNIT u 5)).setFlag (oJNL_STAT u) 3 true).record (mkRec 1 srcJnl 5 none none 0 (unitInfo u 0))

/-! Acknowledgement (R350, R351). -/

/-- The highest number sent on an endpoint; none before a frame is sent. -/
def State.sentHi (s : State) (u : UnitId) (ep : Nat) : Option Nat :=
  ((s.jn u).sentHi.find? (fun x => x.1 = ep)).map (·.2)

/-- ACK_INVALID: counted and recorded. -/
def State.ackInvalid (s : State) (u : UnitId) (ep seq : Nat) (recd : Bool) : State :=
  let s := s.count (cUNIT u 7)
  if recd then s.record (mkRec 1 (if u.val = 8 then 0x60 else srcPort u) 7 none none 0 (unitInfo u ep) (BitVec.ofNat 64 seq)) else s

/-- R350, R363: a cumulative acknowledgement C. An entry still WRITTEN is not acknowledged by it. -/
def State.ackUpTo (s : State) (u : UnitId) (ep c : Nat) : State :=
  let ok := match s.sentHi u ep with | some h => !seqAfter c h | none => false
  let mine := (s.entries u).filter fun x => x.2.ep = ep && !seqAfter x.2.seq c
  if ok then
    let go := mine.filter fun x => x.2.state ≠ jWRITTEN
    let s := if go.length < mine.length then s.ackInvalid u ep c false else s
    (s.forEach go fun x s => s.freeEntry u x.1).mirrorFrees u (go.map (·.1))
  else if mine = [] ∧ seqAfter (s.oseq u ep) c then s
  else s.ackInvalid u ep c true

/-- R351, R363: a negative acknowledgement range. -/
def State.nackRange (s : State) (u : UnitId) (ep first cnt : Nat) : State :=
  let inRange := fun q => decide ((q + 2 ^ 48 - first) % 2 ^ 48 < cnt)
  let beyond := match s.sentHi u ep with
    | some h => (List.range (min cnt 65537)).any fun i => seqAfter ((first + i) % 2 ^ 48) h
    | none => decide (0 < cnt)
  let s := if beyond then s.ackInvalid u ep first false else s
  s.forEach ((s.entries u).filter fun x => x.2.ep = ep ∧ x.2.state = jSENT ∧ inRange x.2.seq) fun x s =>
    (s.modEntry u x.1 fun e => { e with state := jRESEND }).count (cUNIT u 8)

/-! Payloads that cannot be read (R355). -/

/-- The entry is covered by the twin (R355): the twin has acknowledged the entry and its payload. Assumption 44 (DEDUCED). -/
def State.covered (s : State) (u : UnitId) (i : Nat) : Bool :=
  s.mirrorSet u && !(s.entry u i).flag 3 && (s.jn u).mirDone.contains i
    && (s.twin.partner == 3 || s.twin.partner == 5) && s.linkUp

/-- The payload is lost: the transaction is sent poisoned. -/
def State.dataLost (s : State) (u : UnitId) (i : Nat) : State :=
  let e := s.entry u i
  let s := ((s.modEntry u i fun e => e.setFlag 2).count (cUNIT u 10)).setFlag (oJNL_STAT u) 2 true
  let s := s.modJn u fun j => { j with rdWait := j.rdWait.filter (· ≠ i) }
  s.record (mkRec 5 srcJnl 10 (ownerPart e.part) none (BitVec.ofNat 64 (journalBase + e.doff)) (unitInfo u e.ep)
    (BitVec.ofNat 64 e.seq))

/-- R355: the payload of an entry due for sending cannot be read: it is asked of the twin, or lost. -/
def State.payloadBad (s : State) (u : UnitId) (i : Nat) : State :=
  if s.covered u i then
    if (s.jn u).rdWait.contains i then s
    else
      let tag := s.twin.nextTag
      let e := s.entry u i
      let s := s.dalSend 9 0 tag (wordBytes [BitVec.ofNat 64 (u.val * 2 ^ 32 + e.doff)])
      let s := { s with twin := { s.twin with nextTag := (tag + 1) % 2 ^ 32, rdTags := (tag, u.val, i) :: s.twin.rdTags } }
      s.modJn u fun j => { j with rdWait := i :: j.rdWait }
  else s.dataLost u i

end Sys2Proof.Machine
end

