-- ==== Sys2Proof/Machine/Chan.lean ====
section
/-!
DEFINITION. Channel engines and channel programs (chapter 11): starting, fetching and checking commands, staging and
sealing, the commit point, completion and cancellation (R298 to R337).
-/

namespace Sys2Proof.Machine

/-! Engine state (R300). -/

abbrev ceOFF : Nat := 0
abbrev ceSTOPPED : Nat := 1
abbrev ceRUNNING : Nat := 2
abbrev ceDRAINING : Nat := 3
abbrev ceRECOVERING : Nat := 4

def State.ceState (s : State) (e : UnitId) : Nat := s.fld (oCE_STAT e) 2 0
def State.setCe (s : State) (e : UnitId) (v : Nat) : State := s.setFld (oCE_STAT e) 2 0 v
/-- The unit runs ports and engines normally: SOLO or ACTIVE (R445). -/
def State.roleRuns (s : State) : Bool := s.fld oTWN_STAT 3 0 == 0 || s.fld oTWN_STAT 3 0 == 2

/-! The Towpath lands (R227, R447, R577). -/

/-- The unit drives the lands: the bus is there and the unit is ACTIVE, or SOLO, which runs as a lone device (R445). -/
def State.towDrives (s : State) : Bool := s.towPresent && s.roleRuns
/-- What the lands carry; none is high impedance. -/
def State.tpRst (s : State) : Option Bool := if s.towDrives then some (!s.flag oTOW_CTL 2) else none
def State.tpCtlLand (s : State) (i : Nat) : Option Bool :=
  if s.towDrives && s.flag oTOW_CTL 0 then some (s.engines[8].seq.tpCtl.getLsbD i) else none
def State.tpAdLand (s : State) : Option (BitVec 32) :=
  if s.towDrives && s.flag oTOW_CTL 0 then s.engines[8].seq.tpAd else none
/-- The changes of the lands from a state to the next, newest first. -/
def landEvents (s t : State) : List OutEvent :=
  (((List.range 8).filter fun i => s.tpCtlLand i != t.tpCtlLand i).map fun i => .land ("TP_CTL_" ++ toString i) (t.tpCtlLand i))
    ++ (if s.tpAdLand = t.tpAdLand then [] else [.towAd t.tpAdLand])
    ++ (if s.tpRst = t.tpRst then [] else [.land "TP_RST_L" t.tpRst])
/-- t, with the changes of the lands from s put out. Assumption 83 (DEDUCED). -/
def State.landsFrom (t s : State) : State := { t with out := landEvents s t ++ t.out }
/-- The engine works on its programs. -/
def State.ceWorks (s : State) (e : UnitId) : Bool := (s.ceState e == ceRUNNING || s.ceState e == ceDRAINING) && !s.esf.boundary

/-- Its sequencer is not held by a customer routine (R226). -/
def State.ceFree (s : State) (e : UnitId) : Bool := s.ceWorks e && !(s.engines[e]).seq.running

/-- CE_STAT.QUEUED and ACTIVE follow the engine. -/
def State.showEng (s : State) (e : UnitId) : State :=
  (s.setFld (oCE_STAT e) 23 16 (s.eng e).queue.length).setFld (oCE_STAT e) 15 8
    ((s.eng e).ctx.toList.countP fun c => c.isSome)

/-- A context of an engine. -/
def State.ctx (s : State) (e : UnitId) (x : CtxId) : Option Ctx := (s.eng e).ctx[x]
def State.setCtx (s : State) (e : UnitId) (x : CtxId) (c : Option Ctx) : State :=
  s.modEng e fun g => { g with ctx := g.ctx.set x c }
/-- Change an active context. -/
def State.modCtx (s : State) (e : UnitId) (x : CtxId) (f : Ctx → Ctx) : State :=
  match s.ctx e x with
  | some c => s.setCtx e x (some (f c))
  | none => s
/-! Key slots (R395). -/

/-- A key slot. -/
def State.keySlot (s : State) (i : Nat) : KeySlot := alGet KeySlot.reset s.xf.slots i
/-- Replace a slot; CIP_KLOAD shows whether it holds a key. -/
def State.setKeySlot (s : State) (i : Nat) (k : KeySlot) : State :=
  ({ s with xf := { s.xf with slots := alIns s.xf.slots i k } }).setFlag (oCIP_KLOAD (i / 64)) (i % 64) k.key.isSome
/-- The owner of a slot. -/
def State.slotOwner (s : State) (i : Nat) : Nat := s.fld (oCIP_KOWN (i / 16)) (4 * (i % 16) + 3) (4 * (i % 16))
/-- A cipher stage of a running job uses the slot. -/
def State.slotBusy (s : State) (i : Nat) : Bool :=
  s.engines.toList.any fun g => g.ctx.toList.any fun c =>
    match c with
    | some c => c.phase == .job && c.stages.any fun g =>
        let w := g.desc.getD 0 0
        (bits w 3 0 == 1 || bits w 3 0 == 2) && bits w 15 8 == i
    | none => false
/-- Empty a slot. -/
def State.emptySlot (s : State) (i : Nat) : State :=
  let k := s.keySlot i
  if k.key.isSome then s.setKeySlot i { KeySlot.reset with gen := k.gen + 1 } else s
/-- Empty a slot now, or when the job that uses it ends. -/
def State.clearSlot (s : State) (i : Nat) : State :=
  if s.slotBusy i then s.setKeySlot i { s.keySlot i with clearDue := true } else s.emptySlot i
/-- Slots whose emptying waited are emptied once no job uses them. -/
def State.releaseKeys (s : State) : State :=
  s.forEach ((s.xf.slots.filter fun x => x.2.clearDue).map (·.1)) fun i s => if s.slotBusy i then s else s.emptySlot i

/-! The words and fields of a command (R307 to R309). -/

/-- Word i of the command. -/
def Ctx.w (c : Ctx) (i : Nat) : Word := c.cmd.getD i 0
/-- The opcode as it stands in the command. -/
def Ctx.rawOp (c : Ctx) : Nat := bits (c.w 0) 7 0
/-- What the command does: on CE_T opcodes 0x40 and 0x41 act as SEND and RECV (R316). -/
def Ctx.op (c : Ctx) : Nat := if c.tow && c.rawOp == 0x40 then 1 else if c.tow && c.rawOp == 0x41 then 2 else c.rawOp
def Ctx.ep (c : Ctx) : Nat := bits (c.w 0) 13 8
def Ctx.count (c : Ctx) : Nat := bits (c.w 0) 63 32
def Ctx.fsize (c : Ctx) : Nat := bits (c.w 2) 63 48
def Ctx.fChain (c : Ctx) : Bool := bit (c.w 0) 16
def Ctx.fTb (c : Ctx) : Bool := bit (c.w 0) 17
def Ctx.fRel (c : Ctx) : Bool := bit (c.w 0) 18
def Ctx.fIrq (c : Ctx) : Bool := bit (c.w 0) 19
def Ctx.fRec (c : Ctx) : Bool := bit (c.w 0) 20
def Ctx.fXf (c : Ctx) : Bool := bit (c.w 0) 21
def Ctx.fCut (c : Ctx) : Bool := bit (c.w 0) 22
def Ctx.fAckw (c : Ctx) : Bool := bit (c.w 0) 23
def Ctx.fSli (c : Ctx) : Bool := bit (c.w 0) 24

/-- R314, R374: frames that a RECV took under XF are acknowledged, and their blocks are free, when the command is over. -/
def State.showHeld (s : State) (e : UnitId) (x : CtxId) : State :=
  match s.ctx e x with
  | some c =>
    if h : e.val < 8 then
      let mine := fun (a : Nat × Nat × Nat) => a.1 == c.ep && c.seqs.contains a.2.1
      if (s.port ⟨e, h⟩).heldAck.any mine then
        s.modPort ⟨e, h⟩ fun p =>
          { p with heldAck := p.heldAck.filter fun a => !mine a
                   rxFreed := p.rxFreed + ((p.heldAck.filter mine).map (·.2.2)).sum }
      else s
    else s
  | none => s

/-- A command ends with a status; its record is due. -/
def State.finishCmd (s : State) (e : UnitId) (x : CtxId) (status sub : Nat) : State :=
  ((s.showHeld e x).modCtx e x fun c => { c with phase := .done status sub }).releaseKeys
/-- A command ends at an engine access that failed. -/
def State.failCmd (s : State) (e : UnitId) (x : CtxId) (c : Ctx) (f : EngStop) : State :=
  (s.engRecord e c.prog.part c.prog.addr f).finishCmd e x f.status f.sub

/-- R300: draining ends when no program is left. -/
def State.drained (s : State) (e : UnitId) : State :=
  if s.ceState e = ceDRAINING ∧ (s.eng e).queue = [] ∧ (s.eng e).ctx.toList.all (fun c => c.isNone) = true then
    (s.setCe e ceSTOPPED).setFlag (oCE_CTL e) 1 false
  else s

/-! Starting (R301 to R306). -/

/-- R302: why a start by partition n is refused: 3, 2 or 1. -/
def State.startRefusal (s : State) (e : UnitId) (n : PartId) : Option Nat :=
  if !((List.range 64).any fun ep => s.epOwnerNow e ep == n.val) then some 3
  else if s.ceState e ≠ ceRUNNING ∨ s.roleRuns = false then some 2
  else if 8 ≤ (s.eng e).queue.countP fun p => p.part = n then some 1 else none

/-- R303: an accepted program takes the next number and a place in the start queue. -/
def State.queueProgram (s : State) (e : UnitId) (p : Prog) : State × BitVec 16 :=
  let k := (s.eng e).nextPgm
  ((s.modEng e fun g => { g with queue := g.queue ++ [{ p with pgm := k }], nextPgm := k + 1 }).showEng e, k)

/-- A start-table entry (R305) as an engine reads and checks it: the engine index named when word 3 could be read, the
program's capability, address and engine when every check passes, and what an access that failed leaves (R80, R306). -/
def State.startEntry (s : State) (n : PartId) (ea : Nat) : Option Nat × Option (Cap × Word × UnitId) × Option EngStop :=
  match s.dmaMap n ea 32 false with
  | .error x => (none, none, some x)
  | .ok _ =>
    let ws := s.dmaWords n ea 4
    let w := fun i => ws.getD i TWord.raw0
    let idx := bits (w 3).data 3 0
    let bad := fun (t : TWord) => t.poison || tagReserved t.tag
    let lost : Option EngStop := match s.dmaReadable n ea 32 with | .error x => some x | .ok _ => none
    let num := fun (t : TWord) => t.tag == tagRAW || t.tag == tagFIX
    let unit := if !bad (w 3) && decide (idx ≤ 8) then some idx else none
    if ws.any bad then (unit, none, lost)
    else
      match Cap.ofPair (w 0) (w 1) with
      | none => (unit, none, none)
      | some cap =>
        if h : num (w 2) ∧ num (w 3) ∧ (w 3).data.toNat < 16 ∧ idx < 9 then
          if (w 2).data.toNat % 32 = 0 ∧ (cap.check (w 2).data 32 (pPORT ||| pLOAD)).isNone = true then
            (unit, some (cap, (w 2).data, ⟨idx, h.2.2.2⟩), none)
          else (unit, none, none)
        else (unit, none, none)

/-- R306: a refused doorbell. Assumption 42 (DEDUCED). -/
def State.refuseStart (s : State) (n : PartId) (index : Byte) (unit : Option Nat) (sub : Nat) : State :=
  s.ringPost n (mkCRec index 0 true false true false 0 (unit.getD 0xF) sub 0x10 0 0 0 s.tickNum true)

/-- DOORBELL (R80, R306). A record of an entry whose engine cannot be read names CE_A. Assumption 42 (DEDUCED). -/
def State.doorbell (s : State) (n : PartId) (index : Byte) : State :=
  let cnt := min 256 (s.fld (oPRT_CSTART n) 8 0)
  if cnt ≤ index.toNat then s.refuseStart n index none 5
  else
    let at_ := s.fld (oPRT_CSTART n) 63 13 * 8192 + 32 * index.toNat
    let entry := s.startEntry n at_
    let s := s.dmaTouch n at_ 32
    match entry with
    | (unit, none, x) =>
      let s := match x with
        | some x => s.engAccessRecord (unitAt (unit.getD 0)) n 0 x
        | none => s
      s.refuseStart n index unit 4
    | (unit, some (cap, a, e), _) =>
      match s.startRefusal e n with
      | some r => s.refuseStart n index unit r
      | none => (s.queueProgram e ⟨n, 0, cap, a, true, index, false⟩).1

/-- PROGRAM_DISPATCH (R303): the oldest program that may take a context takes the lowest free one; in pound-sliced mode a
partition has two. -/
def State.dispatch (s : State) (e : UnitId) : State :=
  let g := s.eng e
  let held := fun (n : PartId) => g.ctx.toList.countP fun c => match c with | some c => decide (c.prog.part = n) | none => false
  let may := fun (p : Prog) => !s.flag (oCE_CTL e) 8 || decide (held p.part < 2)
  if !s.ceFree e then s
  else
    match g.queue.find? may, (List.finRange 16).find? (fun x => g.ctx[x].isNone) with
    | some p, some x =>
      (s.modEng e fun g =>
        { g with queue := g.queue.erase p,
                 ctx := g.ctx.set x (some ⟨p, .fetch, [], 0, 0, 0, [], [], [], 0, 0, 0, [], [], 0, 0, [], 0, decide (e.val = 8)⟩) }).showEng e
    | _, _ => s

/-! Command words (R307 to R310). -/

/-- R309: the flags allowed for an opcode, as a mask over FLAGS bits 24:16, and those that must be set. -/
def flagsOf : Nat → Option (Nat × Nat)
  | 0x01 => some (0x1FF, 0)
  | 0x02 => some (0x179, 0)
  | 0x03 => some (0x079, 0x020)
  | 0x08 => some (0x018, 0)
  | 0x09 => some (0x01F, 0x002)
  | 0x0A => some (0x019, 0)
  | 0x0B => some (0x019, 0)
  | _ => none

/-- A customer opcode. -/
def isCustomer (op : Nat) : Bool := 0x40 ≤ op && op ≤ 0x4F

/-- R310: fields that must be zero are not. -/
def Ctx.reservedBad (c : Ctx) : Bool :=
  let op := c.rawOp
  let z := fun (b : Bool) (v : Nat) => b && v != 0
  bits (c.w 0) 15 14 != 0 || bits (c.w 0) 31 25 != 0
    || z (op == 1) (if c.fTb then 0 else bits (c.w 2) 47 0)
    || z (op == 1 || op == 2) (if c.fXf then 0 else (c.w 3).toNat)
    || z (op == 2) (c.w 2).toNat
    || z (op == 3 || op == 8 || op == 9 || op == 10 || op == 11) c.ep
    || z (op == 8 || op == 9 || op == 10 || op == 11) c.count
    || z (op == 8) ((c.w 2).toNat + (c.w 3).toNat)
    || z (op == 9) ((c.w 1).toNat + bits (c.w 2) 63 48 + (c.w 3).toNat)
    || z (op == 10 || op == 11) ((c.w 1).toNat + (c.w 2).toNat + (c.w 3).toNat)

/-- R310: a flag is not allowed, lacks one it depends on, or one that must be set is missing. -/
def Ctx.flagBad (c : Ctx) : Bool :=
  match flagsOf c.rawOp with
  | some (ok, need) =>
    let fl := bits (c.w 0) 24 16
    (fl &&& ok != fl) || (fl &&& need != need) || (c.fRel && !c.fTb) || (c.fCut && !c.fXf)
  | none => false

/-- R316: the dispatch entry that an opcode calls. -/
def Ctx.slot (c : Ctx) (e : UnitId) : Option Nat :=
  if isCustomer c.rawOp then some (c.rawOp - 0x40)
  else if e.val = 8 ∧ c.op = 1 then some 0 else if e.val = 8 ∧ c.op = 2 then some 1 else none

/-- R310: the subcode of CMD_INVALID, if any. A command that acts as SEND has the FSIZE of one. Assumption 35 (DEDUCED). -/
def State.cmdInvalid (s : State) (e : UnitId) (c : Ctx) (ws : List TWord) : Option Nat :=
  if ws.any (fun t => !(t.tag == tagRAW || t.tag == tagFIX)) then some 7
  else if (flagsOf c.rawOp).isNone && !isCustomer c.rawOp then some 1
  else if c.reservedBad then some 3
  else if c.flagBad then some 4
  else if c.op = 1 ∧ (c.fsize = 0 ∨ 8192 < c.fsize) then some 5
  else if c.op = 8 ∧ (c.w 1).toNat % 32 ≠ 0 then some 8
  else
    match c.slot e with
    | some k => if s.flag (oCE_CDISP e k) 63 then none else some 6
    | none => none

/-! Ticks (R317, R318, R323). -/

/-- The target raised by the schedule offset since the fetch. -/
def State.effTarget (s : State) (e : UnitId) (target offAt : Nat) : Nat :=
  (target + ((s.eng e).offset - offAt)) % 2 ^ 48
/-- The commit point of tick T has passed. -/
def State.commitPassed (s : State) (t : Nat) : Bool :=
  !seqAfter t s.tickNum || (s.tick.commitDone && t == seqNext s.tickNum)
/-- The lookahead of a unit (R50). -/
def State.lookahead (s : State) (e : UnitId) : Nat := s.fld (oTCK_PORT e) 1 0 + 1

/-- R319: bytes that a partition has for a target. -/
def State.resvBytes (s : State) (e : UnitId) (n : PartId) (t : Nat) : Nat :=
  (((s.eng e).resv.filter fun r => r.counts && r.prog.part == n && s.effTarget e r.target r.offAt == t).map (·.count)).sum

/-! CMD_FETCH (R307 to R311, R318, R319). -/

/-- R311: TICK and ENGINE are checked when a command that needs them is fetched. -/
def Ctx.capMissing (c : Ctx) : Bool :=
  (c.fTb && !c.prog.cap.grants pTICK) || (c.fXf && !c.prog.cap.grants pENGINE)

/-- The endpoint is not the partition's (R311). -/
def State.epForeign (s : State) (e : UnitId) (c : Ctx) : Bool :=
  (c.op == 1 || c.op == 2 || isCustomer c.op) && s.epOwnerNow e c.ep != c.prog.part.val

/-- R389: the job chain's words: one descriptor, or two. -/
def State.readChain (s : State) (c : Ctx) : Except EngStop (Except Nat (List (List Word))) := do
  let ea := (c.w 3).toNat
  if ea % 64 ≠ 0 then .ok (.error 1)
  else
    let n := c.prog.part
    let rd := fun (a : Nat) => do
      s.dmaCheck n c.prog.cap pLOAD a 64 false
      s.dmaReadable n a 64
      let ws := s.dmaWords n a 8
      .ok (ws.map (·.data), ws.all fun t => t.tag == tagRAW || t.tag == tagFIX)
    let (d0, ok0) ← rd ea
    if !ok0 then .ok (.error 1)
    else if bit (d0.getD 0 0) 20 = false then .ok (.ok [d0])
    else
      let (d1, ok1) ← rd (ea + 64)
      if !ok1 || bit (d1.getD 0 0) 20 then .ok (.error 1) else .ok (.ok [d0, d1])

/-- A stage before it runs. -/
def Stage.fresh (d : List Word) : Stage := ⟨d, d, [], [], 0, [], [], false, 0, 0, 0⟩

/-- The command is accepted: its target, its reservation, its chain. Assumption 41 (DEDUCED). -/
def State.acceptCmd (s : State) (e : UnitId) (x : CtxId) (c : Ctx) : State :=
  let t0 := bits (c.w 2) 47 0
  let t := if c.fRel then (t0 + s.tickNum) % 2 ^ 48 else t0
  let c := { c with target := t, offAt := (s.eng e).offset }
  let send := c.op = 1 && c.fTb
  if send && s.commitPassed t then (s.setCtx e x (some c)).finishCmd e x 3 0
  else
    let tooMuch := send && decide (bits (s.cfgNow (oCE_RESV e c.prog.part)) 31 8 * 1024 < s.resvBytes e c.prog.part t + c.count)
    let s := if send then s.modEng e fun g =>
        { g with resv := g.resv ++ [⟨c.fetchNo, c.prog, c.ep, t, c.offAt, c.count, c.fsize, !tooMuch⟩] } else s
    if tooMuch then (s.setCtx e x (some c)).finishCmd e x 8 0
    else if c.fXf && !isCustomer c.op then
      match s.readChain c with
      | .error f => (s.setCtx e x (some c)).failCmd e x c f
      | .ok (.error sub) => (s.setCtx e x (some c)).finishCmd e x 9 sub
      | .ok (.ok ds) => (s.dmaTouch c.prog.part (c.w 3).toNat (64 * ds.length)).setCtx e x (some { c with stages := ds.map Stage.fresh, phase := .fetched })
    else s.setCtx e x (some { c with phase := .fetched })

/-- R326: whose work an engine does now: in pound-sliced mode the partition of the slice, and in the time that remains the
partition whose turn it is, with work that is not tick-bound. Assumption 43 (DESIGN CHOICE). -/
def State.mayWork (s : State) (e : UnitId) (n : PartId) (tb : Bool) : Bool :=
  let k := (s.eng e).slice
  !s.flag (oCE_CTL e) 8 || s.fld oTCK_STAT 2 0 == 0 || k == 16 || k == n.val || (k == 8 + n.val && !tb)

/-- Sixteen registers whose contents the spec does not state. -/
def State.freeRegs (s : State) : State × Vector TWord 16 :=
  ({ s with freeCtr := s.freeCtr + 16 }, Vector.ofFn fun i : Fin 16 => TWord.ofRaw (Config.freeWord (s.freeCtr + i.val)))

/-- R326: what the end of a slice discards: temporaries, prefetched commands and the working store. -/
def State.sliceClean (s : State) (e : UnitId) : State :=
  let r := s.freeRegs
  let gone := (r.1.eng e).ctx.toList.filterMap fun c =>
    match c with
    | some c => if c.phase = .fetched then some c.fetchNo else none
    | none => none
  r.1.modEng e fun g =>
    { g with seq := { g.seq with t := r.2, sram := [] }
             resv := g.resv.filter fun q => !gone.contains q.no
             ctx := g.ctx.map fun c =>
               match c with
               | some c => some (if c.phase = .fetched then { c with phase := .fetch, cmd := [], regs := [], stages := [] } else c)
               | none => none }

/-- R326: the first partition from n on with a reservation on the engine has the next slice; after the last the time that
remains begins. -/
def State.sliceFrom (s : State) (e : UnitId) (n : Nat) : Nat :=
  ((List.range 8).find? fun k => decide (n ≤ k) && s.reg (oCE_RESV e k) != 0).getD (8 + (s.eng e).turn)

/-- R326: the slice, or the turn, of partition n ends. -/
def State.engSliceEnd (s : State) (e : UnitId) (n : PartId) : State :=
  let k := (s.eng e).slice
  if s.flag (oCE_CTL e) 8 = false ∨ (k ≠ n ∧ k ≠ 8 + n.val) then s
  else if k = n then
    let s := s.sliceClean e
    s.modEng e fun g => { g with slice := s.sliceFrom e (n + 1) }
  else (s.sliceClean e).modEng e fun g => { g with turn := (n + 1) % 8, slice := 8 + (n + 1) % 8 }

/-- R326: a tick begins the slices of its pound. -/
def State.slicePound (s : State) (e : UnitId) : State :=
  let s := if s.flag (oCE_CTL e) 8 = true ∧ (s.eng e).slice ≠ 16 then s.sliceClean e else s
  s.modEng e fun g => { g with slice := if s.flag (oCE_CTL e) 8 then s.sliceFrom e 0 else 16 }

/-- CMD_FETCH. Assumption 41 (DEDUCED). -/
def State.cmdFetch (s : State) (e : UnitId) (x : CtxId) : State :=
  match s.ctx e x with
  | some c =>
    if c.phase = .fetch ∧ s.ceFree e = true ∧ s.mayWork e c.prog.part false = true then
      let p := c.prog
      let no := (s.eng e).nextFetch
      let s := s.modEng e fun g => { g with nextFetch := no + 1 }
      let c := { c with cmd := [], stages := [], staged := [], seqs := [], frames := 0, bytes := 0,
                        tick := s.tickNum, got := [], subBits := 0, rxStatus := 0, target := 0, offAt := (s.eng e).offset,
                        regs := [], fetchNo := no }
      match (do s.dmaCheck p.part p.cap pLOAD p.addr.toNat 32 false; s.dmaReadable p.part p.addr.toNat 32 : Except EngStop Unit) with
      | .error f => (s.setCtx e x (some c)).failCmd e x c f
      | .ok _ =>
        let ws := s.dmaWords p.part p.addr.toNat 4
        let c := { c with cmd := ws.map (·.data), regs := ws.map (·.data) }
        let s := (s.dmaTouch p.part p.addr.toNat 32).setCtx e x (some c)
        match s.cmdInvalid e c ws with
        | some sub => s.finishCmd e x 7 sub
        | none =>
          if c.capMissing then s.finishCmd e x 5 4
          else if s.epForeign e c then s.finishCmd e x 10 0
          else s.acceptCmd e x c
    else s
  | none => s

/-! Completion (R313, R328 to R333). -/

/-- The record of a program's current command. -/
def Ctx.record (c : Ctx) (e : UnitId) (ends : Bool) (status sub : Nat) (tick : Nat) : CRec :=
  mkCRec c.prog.sidx c.prog.pgm c.prog.db false ends c.prog.unv c.ep e sub status c.prog.addr c.frames c.bytes tick
    (c.fIrq || ends || status != 0)

/-- The sequencer of an engine is back in the dispatch loop. -/
def Seq.idle (q : Seq) : Seq :=
  { q with running := false, waiting := false, inEvent := false, ctxNo := none, ustack := [], txSlots := [] }

/-- The program leaves its context; a routine of its own goes no further. -/
def State.endProgram (s : State) (e : UnitId) (x : CtxId) : State :=
  (((s.modEng e fun g =>
      { g with ctx := g.ctx.set x none, posted := g.posted.filter (· ≠ x.val)
               seq := if g.seq.ctxNo = some x then g.seq.idle else g.seq }).showEng e).drained e).releaseKeys

/-- After the record: the next command, or the end. -/
def State.nextCmd (s : State) (e : UnitId) (x : CtxId) (goes : Bool) : State :=
  if goes then
    s.modCtx e x fun c =>
      let jump := c.op = 8
      { c with phase := .fetch, jumps := if jump then c.jumps + 1 else 0,
               cmd := [], regs := [], stages := [], staged := [], seqs := [], frames := 0, bytes := 0, got := [],
               prog := { c.prog with addr := if jump then c.w 1 else c.prog.addr + 32 } }
  else s.endProgram e x

/-- A command is complete: its record is posted where one is due (R329), or stalls the program (R332). -/
def State.closeCmd (s : State) (e : UnitId) (x : CtxId) (c : Ctx) (status sub : Nat) : State :=
  let last63 := c.op = 8 && 64 ≤ c.jumps + 1
  let (status, sub) := if status = 0 && last63 then (7, 2) else (status, sub)
  let good := status = 0 || (status = 1 && c.fSli)
  let goes := good && (c.op = 8 || c.fChain)
  let tick := if c.op = 1 ∧ c.seqs ≠ [] then c.tick else s.tickNum
  let s := s.modEng e fun g => { g with posted := g.posted.filter (· ≠ x.val) }
  if c.fIrq || c.fRec || !goes || status != 0 then
    let r := c.record e (!goes) status sub tick
    if s.ringWait[c.prog.part] = [] ∧ s.ringRoom c.prog.part = true then (s.ringWrite c.prog.part r).nextCmd e x goes
    else (s.count (cUNIT e 4)).modCtx e x fun c => { c with phase := .stalled r goes }
  else s.nextCmd e x goes

/-- R328: the command has completed. -/
def State.isComplete (s : State) (e : UnitId) (c : Ctx) : Bool :=
  let u : UnitId := e
  match c.phase with
  | .sending =>
    let live := (s.entries u).filter fun p => p.2.ep = c.ep ∧ p.2.seq ∈ c.seqs
    if c.fAckw then live.isEmpty
    else live.all fun p => match s.sentHi u c.ep with | some h => !seqAfter p.2.seq h | none => false
  | .waiting =>
    if c.op = 9 then !seqAfter (s.effTarget e c.target c.offAt) s.tickNum
    else !((s.entries u).any fun p => c.history.contains (p.2.ep, p.2.seq))
  | _ => false

/-- COMMAND_COMPLETE. Assumption 43 (DESIGN CHOICE). -/
def State.commandComplete (s : State) (e : UnitId) (x : CtxId) : State :=
  match s.ctx e x with
  | some c =>
    if s.ceState e = ceRECOVERING ∨ s.ceState e = ceOFF then s
    else
      match c.phase with
      | .done status sub => s.closeCmd e x c status sub
      | _ => if s.isComplete e c then s.closeCmd e x c 0 0 else s
  | none => s

/-- STALLED_RECORD_POST (R332). -/
def State.stalledPost (s : State) (e : UnitId) (x : CtxId) : State :=
  match s.ctx e x with
  | some c =>
    match c.phase with
    | .stalled r goes =>
      if s.ringWait[c.prog.part] = [] ∧ s.ringRoom c.prog.part = true then (s.ringWrite c.prog.part r).nextCmd e x goes else s
    | _ => s
  | none => s

/-! Beginning commands. -/

/-- A tick-bound SEND whose staging is due in a context: its window of R317 is open and its commit point has not passed. -/
def State.stagingOf (s : State) (e : UnitId) (x : CtxId) : Option Ctx :=
  match s.ctx e x with
  | some c =>
    let t := s.effTarget e c.target c.offAt
    if c.phase = .staging ∧ c.fTb = true ∧ s.mayWork e c.prog.part true = true ∧ s.commitPassed t = false
        ∧ seqAfter ((t + 2 ^ 48 - s.lookahead e) % 2 ^ 48) s.tickNum = false then some c else none
  | none => none

/-- Some tick-bound staging is due (R327, order 2). -/
def State.anyStaging (s : State) (e : UnitId) : Bool := (List.finRange 16).any fun y => (s.stagingOf e y).isSome

/-- R327, order 2: another staging goes first: an earlier target, or the same target and an earlier fetch. -/
def State.stagedBefore (s : State) (e : UnitId) (c : Ctx) : Bool :=
  let t := s.effTarget e c.target c.offAt
  (List.finRange 16).any fun y =>
    match s.stagingOf e y with
    | some d =>
      let td := s.effTarget e d.target d.offAt
      seqAfter t td || (t == td && decide (d.fetchNo < c.fetchNo))
    | none => false

/-- A fetched command other than a tick-bound SEND waits in a context (R327, order 4). -/
def State.otherReady (s : State) (e : UnitId) (y : CtxId) : Bool :=
  match s.ctx e y with
  | some d => d.phase == .fetched && !(d.op == 1 && d.fTb) && s.mayWork e d.prog.part (d.op == 9)
  | none => false

/-- R327, order 4: one command of each active program in turn, when no staging is due. Assumption 43 (DESIGN CHOICE). -/
def State.otherTurn (s : State) (e : UnitId) (x : CtxId) : Bool :=
  !s.anyStaging e
    && (!(s.eng e).served.contains x.val
        || (List.finRange 16).all fun y => y == x || !s.otherReady e y || (s.eng e).served.contains y.val)

/-- The context has had its turn; a context that starts a new round starts it alone. -/
def State.noteTurn (s : State) (e : UnitId) (x : CtxId) : State :=
  s.modEng e fun g => { g with served := if g.served.contains x.val then [x.val] else x.val :: g.served }

/-- A fetched command with the given opcode in a context of a working engine, when the order of R326 and R327 reaches it. -/
def State.fetchedCtx (s : State) (e : UnitId) (x : CtxId) (op : Nat) : Option Ctx :=
  match s.ctx e x with
  | some c =>
    if c.phase = .fetched ∧ c.op = op ∧ s.ceFree e = true
        ∧ (if op = 1 ∧ c.fTb = true then s.mayWork e c.prog.part true
           else s.mayWork e c.prog.part (op == 9) && s.otherTurn e x) = true then some c else none
  | none => none

/-- CMD_JUMP and CMD_NOP complete on execution (R328). -/
def State.cmdAtOnce (s : State) (e : UnitId) (x : CtxId) (op : Nat) : State :=
  match s.fetchedCtx e x op with
  | some _ => (s.noteTurn e x).finishCmd e x 0 0
  | none => s

/-- CMD_WAITT and CMD_SYNC wait (R328). Assumption 43 (DESIGN CHOICE). -/
def State.cmdWait (s : State) (e : UnitId) (x : CtxId) (op : Nat) : State :=
  match s.fetchedCtx e x op with
  | some _ => (s.noteTurn e x).modCtx e x fun c => { c with phase := .waiting }
  | none => s

/-! Staging (R317, R322, R348, R349, R405, R484). -/

/-- Bytes of a unit's pool that the tick-bound reservations keep (R348, R484). -/
def State.poolKept (s : State) (u : UnitId) : Nat :=
  (s.lookahead u + 3) * ((List.range 8).map fun n => bits (s.cfgNow (oCE_RESV u n)) 31 8 * 1024).sum
/-- Entries that they keep. Assumption 44 (DEDUCED). -/
def State.entriesKept (s : State) (u : UnitId) : Nat :=
  (s.lookahead u + 3) * ((List.range 8).map fun n => bits (s.cfgNow (oCE_RESV u n)) 63 44).sum
/-- Pool bytes and entries of work that is not tick-bound. -/
def State.nonTbUse (s : State) (u : UnitId) : Nat × Nat :=
  let es := (s.entries u).filter fun p => !p.2.flag 4
  (((es.filter fun p => p.2.keeps).map fun p => 64 * granules p.2.len).sum, es.length)
/-- R484: a frame that is not tick-bound may take room. -/
def State.nonTbRoom (s : State) (u : UnitId) (len : Nat) : Bool :=
  let (b, n) := s.nonTbUse u
  decide (b + 64 * granules len + s.poolKept u ≤ (s.poolArea u).2) && decide (n + 1 + s.entriesKept u ≤ 65536)

/-- R317: frames of FSIZE bytes with a shorter last one; no data makes one empty frame. -/
def cutFrames (fsize : Nat) (bs : List Byte) : List (List Byte) :=
  if bs = [] then [[]]
  else (List.range ((bs.length + fsize - 1) / fsize)).map fun i => (bs.drop (fsize * i)).take fsize

/-- Staging areas of a command that will not be sealed are given back. -/
def State.dropStaged (s : State) (u : UnitId) (ps : List Payload) : State := s.forEach ps fun p s => s.poolDrop u p

/-- Write frames of a tick-bound command; none when the pool is full. -/
def State.stageAll (s : State) (u : UnitId) : List (List Byte) → Option (State × List Payload)
  | [] => some (s, [])
  | f :: t =>
    match s.poolPut u f with
    | none => none
    | some (s, p) =>
      match (s.mirrorPayload u p).stageAll u t with
      | none => none
      | some (s, ps) => some (s, p :: ps)

/-- A tick-bound SEND: staged whole and sealed, or not (R54, R317). -/
def State.stageTb (s : State) (e : UnitId) (x : CtxId) (c : Ctx) (data : List Byte) : State :=
  let t := s.effTarget e c.target c.offAt
  if s.commitPassed t then s.finishCmd e x 3 0
  else
    match s.stageAll e (cutFrames c.fsize data) with
    | none => s.jnlFull e
    | some (s, ps) =>
      (s.modEng e fun g => { g with sealedCmds := g.sealedCmds ++ [⟨x, c.prog, c.ep, c.target, c.offAt, ps, c.fetchNo⟩] }).modCtx e x
        fun c => { c with phase := .sealedCmd, staged := ps, bytes := c.count, frames := ps.length }

/-- One frame of a SEND that is not tick-bound takes its number (R322). -/
def State.sealOne (s : State) (e : UnitId) (x : CtxId) (c : Ctx) (cut last poisoned : Bool) (bs : List Byte) :
    Option State :=
  if !s.nonTbRoom e bs.length ∨ s.freeEntries e = 0 then none
  else
    match (if poisoned then some (s, ⟨0, 0⟩) else s.poolPut e bs) with
    | none => none
    | some (s, p) =>
      let s := if poisoned then s else s.mirrorPayload e p
      let i := freeSlot (s.jn e).slots ((s.jn e).slots.length + 1) (((s.jn e).lastSlot + 1) % 65536)
      let (s, q) := s.commitFrame e ⟨c.ep, 0, last, c.prog.unv, false, poisoned, s.tickNum, p, c.prog.part, c.prog.pgm.toNat, c.prog.addr⟩
      let s := if cut then s.modJn e fun j => { j with cut := i :: j.cut } else s
      some (s.modCtx e x fun c =>
        { c with seqs := c.seqs ++ [q], frames := c.frames + 1, tick := s.tickNum,
                 bytes := if last then c.count else min c.count (c.bytes + bs.length),
                 history := (c.ep, q) :: c.history })

/-- The frames that still lack a number, one after another, until room runs out. -/
def State.sealFrom (s : State) (e : UnitId) (x : CtxId) (cut endsHere : Bool) : List (List Byte) → State × Bool
  | [] => (s, true)
  | f :: t =>
    match s.ctx e x with
    | none => (s, false)
    | some c =>
      match s.sealOne e x c cut (endsHere && t.isEmpty) false f with
      | none => (s.jnlFull e, false)
      | some s => s.sealFrom e x cut endsHere t

/-- The output and verdict of a SEND's data: what its chain made, or the source bytes. -/
def Ctx.sendData (c : Ctx) : List Byte :=
  match c.stages.getLast? with
  | some g => g.out
  | none => c.got

/-- The chain holds a GCM decryption: segmented or not. -/
def Ctx.gcmDecrypt (c : Ctx) : Option Bool :=
  c.stages.findSome? fun g =>
    let w := g.desc.getD 0 0
    if bits w 3 0 = 2 ∧ bits w 7 4 = 5 then some false else if bits w 3 0 = 2 ∧ bits w 7 4 = 6 then some true else none

/-- The frames of the message carry CUT (R405). -/
def Ctx.carriesCut (c : Ctx) : Bool :=
  match c.gcmDecrypt with
  | some segmented =>
    c.fCut || (segmented && decide (bits ((c.stages.getD 0 (Stage.fresh [])).desc.getD 0 0) 47 32 + 1 + 16
      < (c.stages.getD 0 (Stage.fresh [])).inp.length))
  | none => false

/-- R407: a message whose tag failed after frames were released ends poisoned, with an ABORT to follow. -/
def State.poisonEnd (s : State) (e : UnitId) (x : CtxId) : State :=
  match s.ctx e x with
  | none => s
  | some c =>
    match s.sealOne e x c c.carriesCut true true [] with
    | none => s.jnlFull e
    | some s =>
      match s.ctx e x with
      | some c' => s.modJn e fun j => { j with aborts := (c'.ep, c'.seqs.headD 0, c'.seqs.getLastD 0) :: j.aborts }
      | none => s

/-- A job of a SEND has failed: what may already go out, goes (R405, R407). -/
def State.stageFailed (s : State) (e : UnitId) (x : CtxId) (c : Ctx) (status : Nat) : State :=
  let fs := (cutFrames c.fsize c.sendData).dropLast.drop c.frames
  if status = 9 ∧ c.fTb = false ∧ c.carriesCut = true ∧ (fs ≠ [] ∨ c.frames ≠ 0) then
    let r := s.sealFrom e x true false fs
    if r.2 then (r.1.poisonEnd e x).finishCmd e x 9 status else r.1
  else s.finishCmd e x 9 status

/-- A SEND that is not tick-bound: its frames take numbers one at a time (R322). -/
def State.stageNow (s : State) (e : UnitId) (x : CtxId) (c : Ctx) (data : List Byte) : State :=
  let r := s.sealFrom e x c.carriesCut true ((cutFrames c.fsize data).drop c.frames)
  if r.2 then r.1.modCtx e x fun c => { c with phase := .sending } else r.1

/-- SEND_STAGING: the window of R317 is open; the source is read, XF applied, the frames written. A mirrored port over the
Dalnos rate waits (R25). -/
def State.sendStaging (s : State) (e : UnitId) (x : CtxId) : State :=
  match s.ctx e x with
  | some c =>
    if c.phase = .staging ∧ s.ceFree e = true ∧ s.mayWork e c.prog.part c.fTb = true
        ∧ (if c.fTb then !s.stagedBefore e c else !s.anyStaging e) = true then
      let t := s.effTarget e c.target c.offAt
      if c.fTb && s.commitPassed t then s.finishCmd e x 3 0
      else if c.fTb && seqAfter ((t + 2 ^ 48 - s.lookahead e) % 2 ^ 48) s.tickNum then s
      else if !s.mirrorRoom e c.count then s.mirrorBack c.count
      else if c.stages ≠ [] ∧ c.stages.all (fun g => g.ran) = true then
        match c.stages.find? (fun g => g.status ≠ 0) with
        | some g => s.stageFailed e x c g.status
        | none => if c.fTb then s.stageTb e x c c.sendData else s.stageNow e x c c.sendData
      else
        match s.dmaRead c.prog.part c.prog.cap (c.w 1).toNat c.count with
        | .error f => s.failCmd e x c f
        | .ok bs =>
          let s := s.dmaTouch c.prog.part (c.w 1).toNat c.count
          if c.stages = [] then
            let c := { c with got := bs }
            if c.fTb then s.stageTb e x c bs else s.stageNow e x c bs
          else
            s.modCtx e x fun c =>
              { c with got := bs, phase := .job,
                       stages := match c.stages with | g :: t => { g with inp := bs } :: t | [] => [] }
    else s
  | none => s

/-! The commit point (R45, R46, R52 to R54, R318, R320, R349). -/

/-- A record whose TICK is the tick it is about. Assumption 45 (DEDUCED). -/
def State.recordAt (s : State) (t : Nat) (r : RecordIn) : State :=
  ((s.setFld oTCK_NUM 47 0 t).record r).setFld oTCK_NUM 47 0 s.tickNum

/-- The tick-bound SENDs for T that have been fetched and are not sealed, in fetch order (R320); one that has ended early
counts. -/
def State.unsealedFor (s : State) (u : UnitId) (t : Nat) : List TbFetch :=
  (s.eng u).resv.filter fun r =>
    s.effTarget u r.target r.offAt == t && !(s.eng u).sealedCmds.any fun k => k.no == r.no

/-- Commands sealed for T, in seal order. Assumption 44 (DEDUCED). -/
def State.sealedFor (s : State) (u : UnitId) (t : Nat) : List SealedCmd :=
  (s.eng u).sealedCmds.filter fun k => s.effTarget u k.target k.offAt = t

/-- R320: the endpoint expects data at every tick. -/
def State.paced (s : State) (u ep : Nat) : Bool := s.flag (oCE_PACE u ep) 63

/-- Every frame of a sealed command takes its number and entry (R318). -/
def State.commitSealed (s : State) (u : UnitId) (t : Nat) (k : SealedCmd) : State :=
  let n := k.payloads.length
  let (s, qs) := (k.payloads.zipIdx).foldl (fun (a : State × List Nat) p =>
    let r := a.1.commitFrame u ⟨k.ep, 0, p.2 + 1 = n, k.prog.unv, true, false, t, p.1, k.prog.part, k.prog.pgm.toNat, k.prog.addr⟩
    (r.1, a.2 ++ [r.2])) (s, [])
  let s := s.modEng u fun g => { g with sealedCmds := g.sealedCmds.erase k }
  if h : k.ctx < 16 then
    match s.ctx u ⟨k.ctx, h⟩ with
    | some c =>
      if c.prog = k.prog ∧ c.phase = .sealedCmd then
        s.setCtx u ⟨k.ctx, h⟩ (some { c with phase := .sending, seqs := qs, tick := t, staged := [],
                                             history := qs.map (fun q => (k.ep, q)) ++ c.history })
      else s
    | none => s
  else s

/-- R348: the payloads of the endpoint's latest staged tick are kept, each with its mark of end of message (R52). -/
def State.retain (s : State) (u : UnitId) (ep : Nat) (ps : List (Payload × Bool)) : State :=
  let old := match (s.jn u).retained.find? (fun r => r.1 = ep) with | some r => r.2 | none => []
  let s := s.forEach ps fun p s => s.poolUse u p.1
  let s := s.modJn u fun j => { j with retained := (ep, ps) :: j.retained.filter fun r => r.1 ≠ ep }
  s.dropStaged u (old.map (·.1))

/-- R52: what an endpoint repeats is counted from the port's enabling on: nothing is kept from before. -/
def State.dropRetained (s : State) (u : UnitId) : State :=
  let old := ((s.jn u).retained.map (·.2)).flatten.map (·.1)
  (s.modJn u fun j => { j with retained := [] }).dropStaged u old

/-- A sealed command that is not committed: TICK_MISSED, SUB 1 (R349). -/
def State.missSealed (s : State) (u : UnitId) (k : SealedCmd) : State :=
  let s := (s.modEng u fun g => { g with sealedCmds := g.sealedCmds.erase k }).dropStaged u k.payloads
  if h : k.ctx < 16 then
    match s.ctx u ⟨k.ctx, h⟩ with
    | some c => if c.prog = k.prog ∧ c.phase = .sealedCmd then (s.modCtx u ⟨k.ctx, h⟩ fun c =>
        { c with staged := [], frames := 0, bytes := 0 }).finishCmd u ⟨k.ctx, h⟩ 3 1 else s
    | none => s
  else s

/-- R521: an overrun counts for probation. -/
def State.overrunSeen (s : State) : State :=
  let s := { s with overruns := s.overruns + 1 }
  if s.ovrLimit < s.overruns then s.healthFailure else s

/-- R52, R53: the overrun action of an endpoint for tick T. -/
def State.overrun (s : State) (u : UnitId) (t ep len reason : Nat) (who : Option TbFetch) : State :=
  let act := s.fld (oTCK_PORT u) 3 2
  let kept := match (s.jn u).retained.find? (fun r => r.1 = ep) with | some r => r.2 | none => []
  let kind := if act = 0 ∧ kept ≠ [] then 1 else if act ≤ 1 then 2 else 3
  let owner := ownerPart (s.fld (oCE_EPOWN u (ep / 16)) (4 * (ep % 16) + 3) (4 * (ep % 16)))
  let ps : List (Payload × Bool) := if kind = 1 then kept else [(⟨0, if kind = 2 then len else 0⟩, true)]
  let s := ps.foldl (fun s p =>
    if s.freeEntries u = 0 then s.jnlFull u
    else
      let s := if kind = 1 then s.poolUse u p.1 else s
      (s.commitFrame u ⟨ep, kind, p.2, false, true, false, t, p.1,
        match owner with | some o => o.val | none => 0xF, 0, 0⟩).1) s
  let info1 := match who with
    | some c => BitVec.ofNat 64 (c.prog.part.val * 2 ^ 16 + c.prog.pgm.toNat)
    | none => 0xFFFFF
  let a : Word := match who with | some c => c.prog.addr | none => 0
  ((s.count (cUNIT u (kind - 1))).recordAt t
    (mkRec 1 (if u.val = 8 then 0x60 else srcPort u) (kind - 1) owner none a (BitVec.ofNat 64 (reason * 256 + ep)) info1)).overrunSeen

/-- The payload length of an endpoint's overrun frame (R320). Assumption 45 (DEDUCED). -/
def State.overrunLen (s : State) (u : UnitId) (ep : Nat) (uns : Option TbFetch) (sl : Option SealedCmd) : Nat :=
  if s.paced u ep then s.fld (oCE_PACE u ep) 13 0
  else
    match uns, sl with
    | some c, _ => min c.count c.fsize
    | none, some k => (k.payloads.headD ⟨0, 0⟩).len
    | none, none => 0

/-- COMMIT_POINT of tick T for one unit; in LOST nothing is committed (R39). -/
def State.commitUnit (s : State) (t : Nat) (lost : Bool) (u : UnitId) : State :=
  let uns := s.unsealedFor u t
  let sl := s.sealedFor u t
  let sched := (List.range 64).filter fun ep =>
    s.paced u ep || uns.any (fun c => c.ep = ep) || sl.any (fun k => k.ep = ep)
  let need := (sl.map fun k => k.payloads.length).sum + sched.length
  let short := !lost && decide (s.freeEntries u < need ∧ sl ≠ [])
  let s' :=
    if lost then s
    else if short then s.forEach sl (fun k s => s.missSealed u k) |>.jnlFull u
    else
      let s := s.forEach sl fun k s => s.commitSealed u t k
      s.forEach (List.range 64) fun ep s =>
        let ps := ((sl.filter fun k => k.ep = ep).map fun k =>
          k.payloads.zipIdx.map fun p => (p.1, decide (p.2 + 1 = k.payloads.length))).flatten
        if ps = [] then s else s.retain u ep ps
  let late := sched.filter fun ep =>
    lost || short || !(sl.any fun k => k.ep = ep) || uns.any (fun c => c.ep = ep)
  let s' := s'.forEach late fun ep s =>
    let who := uns.find? fun c => c.ep = ep
    let reason := if lost then 4 else if short then 3 else if who.isSome then 1 else 2
    s.overrun u t ep (s.overrunLen u ep who (sl.find? fun k => k.ep = ep)) reason who
  if lost then s' else s'.modEng u fun g => { g with resv := g.resv.filter fun r => s.effTarget u r.target r.offAt != t }

/-- The commit point of tick T on every unit. A configuration commit's CE_RESV, CE_EPOWN and MIRROR apply from here on
(R340, R363). -/
def State.commitAll (s : State) (t : Nat) (lost : Bool) : State :=
  let s := s.commitCfg
  let s := if s.twin.mirrorNext then { s with twin := { s.twin with mirrorOn := true, mirrorNext := false, bypass := false } } else s
  if s.roleRuns then s.forEach (List.finRange 9) fun u s => s.commitUnit t lost u else s

/-- Where a job writes: the destination of a RECV or an XFORM, and the capacity of the primary destination (R391). -/
def Ctx.dest (c : Ctx) : Nat := (c.w (if c.op = 3 then 2 else 1)).toNat
def Ctx.dlen (c : Ctx) : Nat := bits ((c.stages.getLastD (Stage.fresh [])).desc.getD 5 0) 39 0

/-- Zeros over a range, as far as it may be written. -/
def State.zeroRange (s : State) (n : PartId) (cap : Cap) (ea len : Nat) : State :=
  s.forEach (regionsOf ea len) fun a s =>
    let m := min (ea + len) ((a / 2 ^ 21 + 1) * 2 ^ 21) - a
    match s.dmaCheck n cap pSTORE a m true with
    | .ok _ => s.dmaWrite n a (List.replicate m 0)
    | .error _ => s

/-- R406: a GCM decryption with a memory destination ends early: its primary destination becomes zeros. -/
def State.zeroEarly (s : State) (c : Ctx) : State :=
  if c.gcmDecrypt.isSome ∧ (c.op = 3 ∨ c.op = 2) then s.zeroRange c.prog.part c.prog.cap c.dest c.dlen else s

/-! Cancellation and stopping (R300, R337). -/

/-- A cancelled active program: unsealed staged data is discarded, one record is posted. -/
def State.cancelActive (s : State) (e : UnitId) (x : CtxId) (c : Ctx) (sub : Nat) : State :=
  match c.phase with
  | .stalled r false =>
    -- the program has ended; its END record appears when the ring has room (R340)
    s.modCtx e x fun c => { c with phase := .stalled r false }
  | _ =>
    let s := if c.phase = .sealedCmd then s else s.dropStaged e c.staged
    let s := if c.phase = .job ∨ (c.phase = .posted ∧ c.got ≠ []) then s.zeroEarly c else s
    let s := match c.phase with
      | .stalled r _ => s.ringPost c.prog.part r
      | _ => s
    let msg := c.carriesCut && c.seqs != [] && c.op == 1 && !c.fTb
      && decide (c.phase = .staging ∨ c.phase = .job)
    let s := if msg then s.poisonEnd e x else s
    let c := (s.ctx e x).getD c
    let s := s.showHeld e x
    (s.ringPost c.prog.part (c.record e true 0x0B sub (if c.op = 1 ∧ c.seqs ≠ [] then c.tick else s.tickNum))).endProgram e x

/-- A cancelled queued program. -/
def State.cancelQueued (s : State) (e : UnitId) (p : Prog) (sub : Nat) : State :=
  let s := (s.modEng e fun g => { g with queue := g.queue.erase p }).showEng e
  s.ringPost p.part (mkCRec p.sidx p.pgm p.db false true p.unv 0 e sub 0x0B p.addr 0 0 s.tickNum true)

/-- Cancel every program of an engine that passes a test. -/
def State.cancelWhere (s : State) (e : UnitId) (sub : Nat) (f : Prog → Bool) : State :=
  let s := s.forEach ((s.eng e).queue.filter f) fun p s => s.cancelQueued e p sub
  let s := s.forEach (List.finRange 16) fun x s =>
    match s.ctx e x with
    | some c => if f c.prog then s.cancelActive e x c sub else s
    | none => s
  s.drained e

/-- Some program of an engine passes a test. -/
def State.hasProg (s : State) (e : UnitId) (f : Prog → Bool) : Bool :=
  (s.eng e).queue.any f || (s.eng e).ctx.toList.any fun c => match c with | some c => f c.prog | none => false

/-- CE_CANCEL was written (R337). -/
def State.cancelWrite (s : State) (i : Initiator) (e : UnitId) (v : Word) (recOff : Nat) : State :=
  let n := match i with
    | .vf n => n.val
    | .cp k => (match s.partOf k with | some n => n.val | none => 0xF)
    | _ => bits v 23 20
  if bit v 16 then s.cancelWhere e 0 fun p => p.part.val = n
  else
    let f := fun (p : Prog) => p.part.val = n && p.pgm.toNat = bits v 15 0
    if s.hasProg e f then s.cancelWhere e 0 f else s.accessRecord i recOff true

/-- RUN is cleared, or the engine enters OFF: every program is cancelled. -/
def State.stopEngine (s : State) (e : UnitId) (st : Nat) : State :=
  (((s.cancelWhere e 0 fun _ => true).setCe e st).setFlag (oCE_CTL e) 1 false).modEng e fun g => { g with stopDue := false }

/-- A domain's power state: PWR_DOM, and CS_PWR of a core site. -/
def State.setDomain (s : State) (d v : Nat) : State :=
  let s := s.setFld (oPWR_DOM d) 1 0 v
  if d < 20 then s.setFld (oCS_PWR d) 1 0 v else s

/-- A power domain is not gated (R581): core sites 0 to 19, units 20 to 28, Dalnos 29. -/
def State.domainOn (s : State) (d : Nat) : Bool := s.fld (oPWR_DOM d) 1 0 != 2

/-- The engine's port is configured and its domain powered (R300, R437). -/
def State.cePowered (s : State) (e : UnitId) : Bool :=
  let conf := if e.val = 8 then s.flag oTOW_CTL 0 && s.towPresent else s.flag (oPORT_CTL e) 0
  conf && s.domainOn (20 + e)

/-- The engine leaves or enters OFF when its port or domain changes (R300). -/
def State.ceRefresh (s : State) (e : UnitId) : State :=
  let run := s.flag (oCE_CTL e) 0 && !(s.eng e).retired && s.roleRuns
  if s.cePowered e then
    if s.ceState e = ceOFF then s.setCe e (if run then ceRUNNING else ceSTOPPED) else s
  else if s.ceWorks e = true ∨ s.ceState e = ceRECOVERING then s.stopEngine e ceOFF
  else s.setCe e ceOFF

/-- CE_CTL was written: old value, bits written (R300, R339, R340). Only a write that reaches RUN starts the engine. A 1
written to DRAIN sets it in every state (R8, R10); draining begins only in RUNNING. Assumption 41 (DEDUCED). -/
def State.ceCtlEffect (s : State) (i : Initiator) (e : UnitId) (old v : Word) (recOff : Nat) : State :=
  let off := oCE_CTL e
  let s :=
    if (s.eng e).retired ∧ s.flag off 0 = true then (s.setFlag off 0 false).accessRecord i recOff true
    else if bit v 0 then (if s.ceState e = ceSTOPPED ∧ s.roleRuns = true then s.setCe e ceRUNNING else s)
    else if bit old 0 = true ∧ s.flag off 0 = false then
      if s.ceWorks e then s.stopEngine e ceSTOPPED
      else if s.ceState e = ceRECOVERING then s.modEng e fun g => { g with stopDue := true } else s
    else s
  if bit v 1 then
    if s.ceState e = ceRUNNING then (s.setCe e ceDRAINING).drained e else s.setFlag off 1 true
  else s

end Sys2Proof.Machine
end

