-- ==== Sys2Proof/Machine/Chain.lean ====
section
/-!
DEFINITION. The checks of a job chain before any data moves: descriptors, chains, key slots, shares (R389 to R393, R397,
R403, R405, R416, R417).
-/

namespace Sys2Proof.Machine

/-! Descriptor fields (R390). -/
def dKind (d : List Word) : Nat := bits (d.getD 0 0) 3 0
def dMode (d : List Word) : Nat := bits (d.getD 0 0) 7 4
def dSlot (d : List Word) : Nat := bits (d.getD 0 0) 15 8
def dLevel (d : List Word) : Nat := bits (d.getD 0 0) 19 16
def dNext (d : List Word) : Bool := bit (d.getD 0 0) 20
def dFinal (d : List Word) : Bool := bit (d.getD 0 0) 21
def dResume (d : List Word) : Bool := bit (d.getD 0 0) 22
def dDict (d : List Word) : Bool := bit (d.getD 0 0) 23
def dCtrw (d : List Word) : Nat := bits (d.getD 0 0) 25 24
def dChk (d : List Word) : Nat := bits (d.getD 0 0) 27 26
def dStrat (d : List Word) : Nat := bits (d.getD 0 0) 29 28
def dSegm1 (d : List Word) : Nat := bits (d.getD 0 0) 47 32
def dAadLen (d : List Word) : Nat := bits (d.getD 0 0) 63 48
def dWord (d : List Word) (i : Nat) : Nat := (d.getD i 0).toNat

abbrev kENCRYPT : Nat := 1
abbrev kDECRYPT : Nat := 2
abbrev kCOMPRESS : Nat := 3
abbrev kDECOMPRESS : Nat := 4
abbrev kKEYLOAD : Nat := 8
abbrev kKEYCLR : Nat := 9

def isCipher (d : List Word) : Bool := dKind d == 1 || dKind d == 2
def isComp (d : List Word) : Bool := dKind d == 3 || dKind d == 4
def isKeyJob (d : List Word) : Bool := dKind d == 8 || dKind d == 9

/-- R390, R391, R393, R403: the descriptor breaks a rule of its kind; where it stands in the chain, and whether the command
is a SEND. -/
def descBad (d : List Word) (first last send : Bool) : Bool :=
  let k := dKind d
  let m := dMode d
  let gcm := isCipher d && (m == 5 || m == 6)
  let z := fun (used : Bool) (v : Nat) => !used && v != 0
  let b := fun (x : Bool) => x.toNat
  !(isCipher d || isComp d || isKeyJob d)
    || (isCipher d && decide (6 < m)) || (isComp d && decide (2 < m)) || z (isCipher d || isComp d) m
    || z gcm (dAadLen d) || z (isCipher d && m == 6) (dSegm1 d) || bits (d.getD 0 0) 31 30 != 0
    || z (k == 3) (dStrat d) || dStrat d == 3 || z (isComp d && m == 0) (dChk d) || dChk d == 3
    || z (isCipher d && m == 2) (dCtrw d) || dCtrw d == 3 || z (k == 4 && m != 2) (b (dDict d))
    || z (isCipher d || isComp d) (b (dResume d)) || z (isCipher d || isComp d) (b (dFinal d))
    || z (k == 3) (dLevel d) || (k == 3 && !(decide (1 ≤ dLevel d ∧ dLevel d ≤ 9)))
    || z (isCipher d || isKeyJob d) (dSlot d)
    || (isCipher d && (if m == 0 then decide (2 ^ 25 ≤ dWord d 3) else z gcm (dWord d 3)))
    || (gcm && dWord d 2 / 2 ^ 32 != 0)
    || (k == 3 && dWord d 1 + dWord d 2 + dWord d 3 != 0)
    || (k == 4 && (dWord d 3 != 0
          || (if dDict d then !(decide (1 ≤ dWord d 2 ∧ dWord d 2 ≤ 32768)) else dWord d 1 + dWord d 2 != 0)))
    || (k == 8 && dWord d 3 + dWord d 4 + dWord d 5 + dWord d 6 != 0)
    || (k == 9 && dWord d 1 + dWord d 2 + dWord d 3 + dWord d 4 + dWord d 5 + dWord d 6 != 0)
    || z (last && !send) (dWord d 4 + dWord d 5) || dWord d 4 % 32 != 0 || decide (2 ^ 40 ≤ dWord d 5)
    || z first (dWord d 6) || dWord d 6 % 64 != 0 || dWord d 7 % 8 != 0

/-- R392: the chains allowed. -/
def chainOk (ds : List (List Word)) (xform : Bool) (count : Nat) : Bool :=
  match ds.map dKind with
  | [1] => true
  | [2] => true
  | [3] => true
  | [4] => true
  | [3, 1] => true
  | [2, 4] => true
  | [2, 1] => true
  | [8] => xform && count == 0
  | [9] => xform && count == 0
  | _ => false

/-- R397: the slot's usage allows the mode and direction. Assumption 51 (DEDUCED). -/
def usageOk (u : Byte) (d : List Word) : Bool :=
  let bitOf := if dMode d ≤ 4 then dMode d else 5
  u.getLsbD bitOf && u.getLsbD (if dKind d = 1 then 6 else 7)

/-- R393: the key slot of a descriptor. Assumption 41 (DEDUCED). -/
def State.keyFault (s : State) (n : PartId) (d : List Word) : Nat :=
  if !(isCipher d || isKeyJob d) then 0
  else if s.slotOwner (dSlot d) ≠ n.val then 4
  else if isKeyJob d then 0
  else
    let k := s.keySlot (dSlot d)
    if k.key.isNone then 3 else if !usageOk k.usage d then 5 else 0

/-- The units of a kind that partition n dedicates and that are not retired, and its slice (R416, R420). -/
def State.shareOf (s : State) (n : PartId) (d : List Word) : Nat × Nat :=
  let live := fun (m r : Nat) => (List.range 8).foldl (fun a i => if m.testBit i && !r.testBit i then a + 2 ^ i else a) 0
  if dKind d = 3 then (live (s.fld (oCMZ_PART n) 7 0) (s.fld oCMZ_STAT 7 0), s.fld (oCMZ_PART n) 47 32)
  else if dKind d = 4 then (live (s.fld (oCMZ_PART n) 15 8) (s.fld oCMZ_STAT 15 8), s.fld (oCMZ_PART n) 47 32)
  else (live (s.fld (oCIP_PART n) 7 0) (s.fld oCIP_STAT 7 0), s.fld (oCIP_PART n) 47 32)

/-- The first non-zero code. -/
def firstCode (l : List Nat) : Nat := (l.find? (· ≠ 0)).getD 0

/-- R393: the job status that a chain earns before the first byte is read; 0 for none. Assumption 41 (DEDUCED). -/
def State.chainCheck (s : State) (c : Ctx) : Nat :=
  let ds := c.stages.map (·.desc)
  let m := ds.length
  let n := c.prog.part
  let area := dWord (ds.getD 0 []) 6 != 0
  let data := fun (d : List Word) => isCipher d || isComp d
  if (ds.zipIdx).any fun p => descBad p.1 (p.2 == 0) (p.2 + 1 == m) (c.op == 1) then 1
  else if !chainOk ds (c.op == 3) c.count then 2
  else
    firstCode
      [ firstCode (ds.map (s.keyFault n)),
        if ds.any fun d => dKind d == 2 && dMode d == 5 && !dFinal d then 7 else 0,
        if c.op = 1 ∧ c.fTb = false ∧ c.fCut = false ∧ c.gcmDecrypt = some false ∧ 65536 + 16 < c.count then 8 else 0,
        if ds.any fun d => (s.shareOf n d).1 == 0 && (s.shareOf n d).2 == 0 then 14 else 0,
        if !area && ds.any (fun d => data d && (!dFinal d || (s.shareOf n d).1 == 0)) then 13 else 0 ]

/-- A fetched data command begins: a chain that cannot run ends it (R393). -/
def State.beginXf (s : State) (e : UnitId) (x : CtxId) (c : Ctx) (go : State → State) : State :=
  if c.fXf && s.chainCheck c != 0 then s.finishCmd e x 9 (s.chainCheck c) else go s

end Sys2Proof.Machine
end

