-- ==== Sys2Proof/Machine/Port.lean ====
section
/-!
DEFINITION. The channel ports (chapter 13) and what passes over them: training, frames, credits, epochs, inbound frames and
their delivery (R314, R353, R360, R366 to R381, R592), and the Towpath interrupt lines (R386, R388).
-/

namespace Sys2Proof.Machine

/-! Port state. -/

def State.lstate (s : State) (u : PortId) : Nat := s.fld (oPORT_STAT u) 2 0
abbrev lsDOWN : Nat := 0
abbrev lsSIGNAL : Nat := 1
abbrev lsPARAM : Nat := 4
abbrev lsUP : Nat := 5
def State.portEpoch (s : State) (u : PortId) : Nat := s.fld (oPORT_STAT u) 47 32
/-- The unit index of a port. -/
def pu (u : PortId) : UnitId := ⟨u, by omega⟩
/-- The port sends DATA, ACK and EPOCH frames. -/
def State.portLive (s : State) (u : PortId) : Bool := s.lstate u == lsUP && s.roleRuns

/-- R374: blocks of a DATA frame. -/
def blocks (len : Nat) : Nat := (len + 20 + 255) / 256

/-- PORT_CREDIT.TX_AVAIL. -/
def State.showCredit (s : State) (u : PortId) : State :=
  let p := s.port u
  s.setFld (oPORT_CREDIT u) 47 24 (min (2 ^ 24 - 1) (p.txAdv + p.txCount - p.txUsed))

/-! Frames (R370 to R373). -/

/-- A frame with its header. -/
def mkFrame (ty ep seq epoch flags : Nat) (cut : Bool) (tickl : Nat) (payload : List Byte) : Frame :=
  let h0 := BitVec.ofNat 64 (seq % 2 ^ 48 * 2 ^ 16 + ep * 2 ^ 10 + ty * 16 + 1)
  let h1 := BitVec.ofNat 64 (epoch % 65536 * 2 ^ 48 + payload.length * 2 ^ 34 + flags * 2 ^ 24
    + (if cut then 65536 else 0) + tickl % 65536)
  ⟨h0, h1, payload, crc32c (wordBytes [h0, h1] ++ payload)⟩

end Sys2Proof.Machine

namespace Sys2Proof

open Machine (bits bit crc32c wordBytes)

def Frame.ty (f : Frame) : Nat := bits f.h0 7 4
def Frame.ep (f : Frame) : Nat := bits f.h0 15 10
def Frame.seq (f : Frame) : Nat := bits f.h0 63 16
def Frame.epoch (f : Frame) : Nat := bits f.h1 63 48
def Frame.len (f : Frame) : Nat := bits f.h1 47 34
def Frame.flags (f : Frame) : Nat := bits f.h1 31 24
def Frame.cut (f : Frame) : Bool := bit f.h1 16
def Frame.eom (f : Frame) : Bool := bit f.h1 24
def Frame.poison (f : Frame) : Bool := bit f.h1 28

/-- R373: the frame is well formed. -/
def Frame.good (f : Frame) : Bool :=
  f.crc == crc32c (wordBytes [f.h0, f.h1] ++ f.payload) && decide (f.ty ≤ 7) && bits f.h0 3 0 == 1
    && decide (f.len ≤ 8192) && f.len == f.payload.length && bits f.h0 9 8 == 0 && bits f.h1 33 32 == 0
    && bits f.h1 23 17 == 0

end Sys2Proof

namespace Sys2Proof.Machine

/-- R379: HOLD is set in every frame of a port whose gap mode is HOLD. -/
def State.holdFlag (s : State) (u : PortId) : Nat := if s.flag oTWN_CTL (32 + u) then 4 else 0

/-- A port sends a frame. -/
def State.sendFrame (s : State) (u : PortId) (ty ep seq epoch flags : Nat) (cut : Bool) (tickl : Nat)
    (payload : List Byte) : State :=
  s.emit (.frame u (mkFrame ty ep seq epoch (flags ||| s.holdFlag u) cut tickl payload))

/-- Frames that take no number. -/
def State.sendCtl (s : State) (u : PortId) (ty ep seq epoch : Nat) (payload : List Byte) : State :=
  s.sendFrame u ty ep seq epoch 0 false s.tickNum payload

/-- R377: the EPOCH frame of an endpoint. -/
def State.sendEpoch (s : State) (u : PortId) (ep : Nat) : State :=
  (s.sendCtl u 5 ep (s.oseq u ep) (s.portEpoch u) []).modPort u fun p =>
    { p with epochDue := p.epochDue.filter (· ≠ ep), epochOpen := ep :: p.epochOpen.filter (· ≠ ep) }

/-- Endpoints of a unit that have an owner. -/
def State.ownedEps (s : State) (u : Nat) : List Nat :=
  (List.range 64).filter fun ep => s.fld (oCE_EPOWN u (ep / 16)) (4 * (ep % 16) + 3) (4 * (ep % 16)) < 8

/-- The EPOCH frames that are due go out. -/
def State.sendEpochs (s : State) (u : PortId) : State :=
  if s.portLive u then s.forEach ((s.ownedEps u).filter fun ep => (s.port u).epochDue.contains ep) fun ep s => s.sendEpoch u ep
  else s

/-- A new epoch of a port begins (R359, R377, R450): every endpoint is to be announced, and partners must announce
themselves again (R592). -/
def State.newEpoch (s : State) (u : PortId) (epoch : Nat) : State :=
  let s := s.setFld (oPORT_STAT u) 47 32 (epoch % 65536)
  let s := s.modPort u fun p => { p with epochDue := List.range 64, epochOpen := [], partner := [], fenced := false }
  s.sendEpochs u

/-! Training (R366 to R369). -/

/-- R366: the settings of PORT_CTL can train. -/
def portCfgOk (w : Word) : Bool :=
  decide (bits w 5 3 ≤ 3) && bits w 2 1 != 3 && bits w 7 6 != 3
    && (if bits w 5 3 = 0 then bits w 7 6 == 2 else bits w 7 6 != 2)

/-- Lanes of WIDTH. -/
def State.widthLanes (s : State) (u : PortId) : BitVec 4 :=
  match s.fld (oPORT_CTL u) 2 1 with
  | 0 => 0x1
  | 1 => 0x3
  | _ => 0xF

/-- R368: the widest usable set of working lanes within WIDTH. -/
def widest (width bad : BitVec 4) : BitVec 4 :=
  let ok := fun (m : BitVec 4) => m &&& bad == 0
  if width = 0xF ∧ ok 0xF = true then 0xF
  else if width ≠ 0x1 ∧ ok 0x3 = true then 0x3
  else if width = 0xF ∧ ok 0xC = true then 0xC
  else
    match (if width = 0xF then [0x1, 0x2, 0x4, 0x8] else if width = 0x3 then [0x1, 0x2] else [0x1] : List (BitVec 4)).find? ok with
    | some m => m
    | none => 0

/-- The port is down: its transmitters idle. Assumption 46 (DEDUCED). -/
def State.portDown (s : State) (u : PortId) : State := (s.setFld (oPORT_STAT u) 2 0 lsDOWN).setFld (oPORT_STAT u) 23 20 0

/-- Training begins at SIGNAL on a set of lanes. -/
def State.startTrain (s : State) (u : PortId) (lanes : BitVec 4) : State :=
  let s := ((s.setFld (oPORT_STAT u) 2 0 lsSIGNAL).setFld (oPORT_STAT u) 23 20 0).setFlag (oPORT_CTL u) 8 false
  s.modPort u fun p => { p with lanes := lanes, partnerLanes := none, trainSent := false }

/-- Training on every lane of WIDTH, when the port is enabled and its settings allow it. -/
def State.trainAfresh (s : State) (u : PortId) : State :=
  if s.flag (oPORT_CTL u) 0 ∧ portCfgOk (s.reg (oPORT_CTL u)) = true ∧ s.domainOn (20 + u) = true then
    (s.modPort u fun p => { p with failed := 0 }).startTrain u (s.widthLanes u)
  else s

/-- R373: a TRAIN frame. -/
def State.sendTrain (s : State) (u : PortId) : State :=
  let c := s.reg (oPORT_CTL u)
  let w0 := BitVec.ofNat 64 ((s.port u).lanes.toNat + bits c 5 3 * 16 + bits c 7 6 * 128 + 3072 * 65536)
  (s.sendCtl u 7 0 0 (s.portEpoch u) (wordBytes [w0, 8192])).modPort u fun p => { p with trainSent := true }

/-- Training is complete on the lanes that both sides name, narrow or not (R353, R367, R368, R374, R377). With no such lane
the port goes down. Assumption 46 (DEDUCED). -/
def State.trained (s : State) (u : PortId) (partner : BitVec 4) : State :=
  let lanes := (s.port u).lanes &&& partner
  let s := if lanes = s.widthLanes u then s else s.setFlag (oPORT_STAT u) 3 true
  if lanes = 0 then s.portDown u
  else
  let s := (s.setFld (oPORT_STAT u) 2 0 lsUP).setFld (oPORT_STAT u) 23 20 lanes.toNat
  let s := s.setFld (oPORT_STAT u) 19 12 (min 255 (s.fld (oPORT_STAT u) 19 12 + 1))
  let s := s.modPort u fun p => { p with txCount := 0, txUsed := 0, rxUsed := 0, rxFreed := 0, rxTold := 0 }
  let s := s.forEach ((List.range 64).filter fun ep => s.epHeld u ep) fun ep s => s.resumeEndpoint (pu u) ep
  (s.showCredit u).sendEpochs u

/-- TRAIN_PHASE_COMPLETE (R367). -/
def State.trainPhase (s : State) (u : PortId) : State :=
  let l := s.lstate u
  if l = 1 ∨ l = 2 then s.setFld (oPORT_STAT u) 2 0 (l + 1)
  else if l = 3 then (s.setFld (oPORT_STAT u) 2 0 lsPARAM).sendTrain u
  else if l = lsPARAM then
    match (s.port u).partnerLanes with
    | some m => s.trained u m
    | none => s
  else s

/-- R368: lanes fail a phase; the port goes on with fewer, or goes down. -/
def State.trainFail (s : State) (u : PortId) (bad : BitVec 4) : State :=
  if s.lstate u < 1 ∨ 3 < s.lstate u then s
  else
    let bad := ((s.port u).failed ||| bad) &&& s.widthLanes u
    let s := s.modPort u fun p => { p with failed := bad }
    let m := widest (s.widthLanes u) bad
    let s := ((s.setFlag (oPORT_STAT u) 3 true).count (cUNIT u 15)).record (mkRec 1 (srcPort u) 15)
    if m = 0 then s.portDown u else s.startTrain u m

/-- R369: a trained port retrains; a cause that the host did not request counts for probation (R521). -/
def State.retrain (s : State) (u : PortId) (health : Bool) : State :=
  if s.lstate u = lsUP then
    let s := s.trainAfresh u
    if health then s.healthFailure else s
  else s

/-- PORT_CTL was written or changed by a generation (R300, R366, R369). -/
def State.portCtlEffect (s : State) (u : PortId) (old v : Word) : State :=
  let w := s.reg (oPORT_CTL u)
  let s := if bit old 0 = bit w 0 then s else s.ceRefresh (pu u)
  if !bit w 0 then s.portDown u
  else if !bit old 0 then
    let s := s.dropRetained (pu u)
    if portCfgOk w then s.trainAfresh u else (s.portDown u).recordOpen (mkRec 1 (srcPort u) 0)
  else if bits old 7 1 ≠ bits w 7 1 then
    if portCfgOk w then s.trainAfresh u else (s.portDown u).recordOpen (mkRec 1 (srcPort u) 0)
  else if bit v 8 then s.trainAfresh u
  else s

/-! Outbound (R321, R353, R354, R370 to R375). -/

/-- The payload of an entry as it is sent: none when poisoned. -/
def State.wireBytes (s : State) (u : UnitId) (e : JEntry) : List Byte :=
  if e.flag 2 then [] else s.frameBytes u e.kind ⟨e.doff, e.len⟩
/-- FLAGS of R372. -/
def wireFlags (e : JEntry) (rtx : Bool) : Nat :=
  (if e.flag 0 then 1 else 0) + (if rtx then 2 else 0) + (if e.flag 1 then 8 else 0) + (if e.flag 2 then 16 else 0)
    + e.kind % 4 * 32 + (if e.flag 4 then 128 else 0)

/-- The payload can be read, or is not needed. -/
def State.entryReadable (s : State) (e : JEntry) : Bool := e.flag 2 || !e.keeps || s.payloadOk e.payload

/-- R380: an ABORT frame follows the poisoned EOM of a message. -/
def State.abortAfter (s : State) (u : PortId) (e : JEntry) : State :=
  match (s.jn (pu u)).aborts.find? (fun a => a.1 = e.ep ∧ a.2.2 = e.seq) with
  | some a => s.sendCtl u 6 e.ep a.2.1 (s.portEpoch u) (leBytes 8 a.2.2)
  | none => s

/-- The entry's frame goes out. -/
def State.sendEntry (s : State) (u : PortId) (i : Nat) (rtx : Bool) : State :=
  let e := s.entry (pu u) i
  let bs := s.wireBytes (pu u) e
  let s := s.sendFrame u 1 e.ep e.seq (s.portEpoch u) (wireFlags e rtx) ((s.jn (pu u)).cut.contains i) e.tick bs
  let s := s.modEntry (pu u) i fun e =>
    { e with state := jSENT, epoch := s.portEpoch u, sent := s.now, rtx := if rtx then min 255 (e.rtx + 1) else e.rtx }
  let s := s.modPort u fun p => { p with txUsed := p.txUsed + blocks bs.length }
  let s := s.modJn (pu u) fun j =>
    match j.sentHi.find? (fun h => h.1 = e.ep) with
    | some h => if seqAfter e.seq h.2 then { j with sentHi := (e.ep, e.seq) :: j.sentHi.filter fun h => h.1 ≠ e.ep } else j
    | none => { j with sentHi := (e.ep, e.seq) :: j.sentHi }
  (s.abortAfter u e).showCredit u

/-- R374: credit for an entry. Assumption 46 (DEDUCED). -/
def State.hasCredit (s : State) (u : PortId) (e : JEntry) : Bool :=
  let p := s.port u
  decide (p.txUsed + blocks (s.wireBytes (pu u) e).length ≤ p.txAdv + p.txCount)

/-- An entry may go out now: not for an endpoint still to be announced (R377). -/
def State.announced (s : State) (u : PortId) (ep : Nat) : Bool := !(s.port u).epochDue.contains ep

/-- The tick-bound frames that are due, in commit order (R321). -/
def State.dueTb (s : State) (u : PortId) : List (Nat × JEntry) :=
  (s.entries (pu u)).filter fun x => x.2.state = jREADY && x.2.flag 4 && !seqAfter x.2.tick s.tickNum && s.announced u x.2.ep
/-- The entries due for retransmission, by endpoint and number (R353); one that awaits the twin's acknowledgement waits
(R356). -/
def State.dueResend (s : State) (u : UnitId) : Option (Nat × JEntry) :=
  let l := (s.entries u).filter fun x => x.2.state = jRESEND && !(s.jn u).rdWait.contains x.1 && !(s.jn u).mirEntry.contains x.1
  l.foldl (fun b x =>
    match b with
    | none => some x
    | some y => if x.2.ep < y.2.ep ∨ (x.2.ep = y.2.ep ∧ seqAfter y.2.seq x.2.seq = true) then some x else some y) none

/-- DATA_FRAME_SEND (R321). -/
def State.dataFrame (s : State) (u : PortId) : State :=
  if !s.portLive u || (s.port u).fenced then s
  else
    let s := s.sendEpochs u
    let pick := match (s.dueTb u).head? with
      | some x => some x
      | none =>
        if (s.dueResend (pu u)).isSome then none
        else (s.entries (pu u)).find? fun x => x.2.state = jREADY && !x.2.flag 4 && s.announced u x.2.ep
    match pick with
    | some (i, e) =>
      if !s.entryReadable e then s.payloadBad (pu u) i
      else if s.hasCredit u e then s.sendEntry u i false else s
    | none => s

/-- RTX_MAX, 0 acting as 1. -/
def State.rtxMax (s : State) (u : UnitId) : Nat := max 1 (s.fld (oJNL_PORT u) 47 40)
/-- RTO in ns. -/
def State.rto (s : State) (u : UnitId) : Nat := max 10 (s.fld (oJNL_PORT u) 31 16) * 1000

/-- RETRANSMIT on a port (R353, R355); the Towpath's frames go through the routine of R316. -/
def State.retransmit (s : State) (u : UnitId) (payloadOk : Bool) : State :=
  match s.dueResend u with
  | none => s
  | some (i, e) =>
    if s.rtxMax u ≤ e.rtx then s.holdEndpoint u e.ep e.seq
    else if h : u.val < 8 then
      let p : PortId := ⟨u, h⟩
      if !s.portLive p || (s.port p).fenced || (s.dueTb p) != [] then s
      else if e.keeps && !e.flag 2 && !(payloadOk && s.payloadOk e.payload) then s.payloadBad u i
      else if s.hasCredit p e then s.sendEntry p i true else s
    else s

/-- RTO_TIMEOUT (R352). -/
def State.rtoTimeout (s : State) (u : UnitId) (i : Nat) : State :=
  if (s.jn u).slots.contains i ∧ (s.entry u i).state = jSENT ∧ (s.entry u i).sent.toNat + s.rto u ≤ s.now.toNat then
    (s.modEntry u i fun e => { e with state := jRESEND }).count (cUNIT u 9)
  else s

/-- R321, R381: at edge T + 1 the frames of tick T still unsent are counted in TX_LATE. -/
def State.countLate (s : State) (u : UnitId) (t : Nat) : State :=
  let n := (s.entries u).countP fun x => x.2.flag 4 && decide (x.2.tick = t) && (x.2.state == jREADY || x.2.state == jWRITTEN)
  if n = 0 then s else s.count (cUNIT u 3) n

/-! Inbound. -/

/-- The expected number of an endpoint. -/
def State.iseq (s : State) (u ep : Nat) : Nat := s.fld (oJNL_ISEQ u ep) 47 0
/-- The partner epoch held (R592). -/
def State.partnerEpoch (s : State) (u : PortId) (ep : Nat) : Option (BitVec 16) :=
  ((s.port u).partner.find? fun p => p.1 = ep).map (·.2)

/-- Blocks leave the receive pool or are counted as freed at once (R374). -/
def State.freeBlocks (s : State) (u : PortId) (n : Nat) : State := s.modPort u fun p => { p with rxFreed := p.rxFreed + n }

/-- The highest inbound number whose frame, like every frame before it, may be acknowledged: its data is visible (R314). -/
def State.visibleNo (s : State) (u : PortId) (ep : Nat) : Nat :=
  match (s.port u).heldAck.find? (fun a => a.1 = ep) with
  | some a => seqPrev a.2.1
  | none => seqPrev (s.iseq u ep)

/-- R358: the highest inbound number acknowledged; before the first acknowledgement, the number before the first accepted. -/
def State.ackedNo (s : State) (u : PortId) (ep : Nat) : Nat :=
  match (s.port u).acked.find? (fun a => a.1 = ep) with
  | some a => a.2
  | none =>
    let n := match (s.port u).ackDue.find? (fun a => a.1 = ep) with | some a => a.2 | none => 0
    (seqPrev (s.iseq u ep) + 2 ^ 48 - n) % 2 ^ 48

/-- A cumulative acknowledgement with negative ranges; it echoes the partner epoch accepted last (R371). -/
def State.sendAck (s : State) (u : PortId) (ep : Nat) (ranges : List (Nat × Nat)) : State :=
  let pe := match (s.port u).accepted.find? (fun a => a.1 = ep) with | some a => a.2.toNat | none => 0
  let q := s.visibleNo u ep
  (s.sendCtl u 3 ep q pe
    ((ranges.map fun r => leBytes 8 (r.1 % 2 ^ 48 + min r.2 65535 * 2 ^ 48)).flatten)).modPort u fun p =>
    { p with ackDue := p.ackDue.filter (fun a => a.1 ≠ ep), acked := alIns p.acked ep q }

/-- The number of a delivered frame is consumed; an acknowledgement is due (R360). -/
def State.consume (s : State) (u : PortId) (ep seq : Nat) : State :=
  let s := s.setFld (oJNL_ISEQ u ep) 47 0 (seqNext seq)
  s.modPort u fun p =>
    let n := match p.ackDue.find? (fun a => a.1 = ep) with | some a => a.2 | none => 0
    { p with ackDue := (ep, n + 1) :: p.ackDue.filter fun a => a.1 ≠ ep }

/-- The posted RECV that an endpoint's frames fill (R314). -/
def State.recvFor (s : State) (e : UnitId) (ep : Nat) : Option (CtxId × Ctx) :=
  (s.eng e).posted.findSome? fun i =>
    if h : i < 16 then
      match s.ctx e ⟨i, h⟩ with
      | some c => if c.phase = .posted ∧ c.ep = ep then some (⟨i, h⟩, c) else none
      | none => none
    else none

/-- A RECV is complete: it leaves the posted list, is remembered for R592, and ends or passes to its job chain. -/
def State.recvDone (s : State) (e : UnitId) (x : CtxId) (status : Nat) : State :=
  match s.ctx e x with
  | none => s
  | some c =>
    let s := s.modEng e fun g =>
      { g with posted := g.posted.filter (· ≠ x.val),
               delivered := if status = 0x0C ∨ c.seqs = [] then g.delivered
                 else ⟨c.ep, c.seqs, c.prog.pgm, c.prog.addr, c.prog.part, false⟩ :: g.delivered }
    if c.stages ≠ [] ∧ (status = 0 ∨ status = 1) then
      s.modCtx e x fun c =>
        { c with phase := .job, rxStatus := status,
                 stages := match c.stages with | g :: t => { g with inp := c.got } :: t | [] => [] }
    else s.finishCmd e x status c.subBits

/-- R314: one frame goes to a posted RECV. Whether it left the pool. Under XF its data is visible, and it is acknowledged, only
when the command is over. Assumption 46 (DEDUCED). -/
def State.deliverTo (s : State) (u : PortId) (x : CtxId) (c : Ctx) (f : Frame) : State × Bool :=
  let e := pu u
  let room := c.count - c.got.length
  let n := min f.len room
  let xf := c.stages != []
  let at_ := (c.w 1).toNat + c.got.length
  match (if xf then .ok () else s.dmaCheck c.prog.part c.prog.cap pSTORE at_ n true : Except EngStop Unit) with
  | .error q =>
    ((s.failCmd e x c q).modEng e fun g => { g with posted := g.posted.filter (· ≠ x.val) }, false)
  | .ok _ =>
    let s := if xf then s else s.dmaWrite c.prog.part at_ (f.payload.take n)
    let ovr := bits f.h1 30 29 != 0
    let sb := c.subBits ||| ((if bit f.h1 27 then 1 else 0) + (if ovr then 2 else 0) + (if f.cut then 4 else 0))
    let s := s.modCtx e x fun c =>
      { c with got := c.got ++ f.payload.take n, seqs := c.seqs ++ [f.seq], frames := c.frames + 1,
               bytes := c.bytes + n, subBits := sb }
    let s := s.consume u f.ep f.seq
    let s := if xf then s.modPort u fun p => { p with heldAck := p.heldAck ++ [(f.ep, f.seq, blocks f.len)] }
      else s.freeBlocks u (blocks f.len)
    let total := c.got.length + n
    let s :=
      if room < f.len then s.recvDone e x 2
      else if f.eom then s.recvDone e x (if total < c.count ∧ c.fSli = false then 1 else 0)
      else if total = c.count then s.recvDone e x 0
      else s
    (s, true)

/-- A poisoned frame ends the RECV that takes it (R592). -/
def State.poisonTo (s : State) (u : PortId) (x : CtxId) : State := s.recvDone (pu u) x 0x0C

/-- The waiting frames of an endpoint go to the RECVs posted for it, in order. -/
def State.drainPool (s : State) (u : PortId) (ep : Nat) : Nat → State
  | 0 => s
  | fuel + 1 =>
    match (s.port u).pool.find? (fun p => p.1 = ep), s.recvFor (pu u) ep with
    | some (k, f), some (x, c) =>
      let out := fun (s : State) => s.modPort u fun p => { p with pool := p.pool.erase (k, f) }
      if f.poison then (out (s.poisonTo u x)).drainPool u ep fuel
      else
        let r := s.deliverTo u x c f
        (if r.2 then out r.1 else r.1).drainPool u ep fuel
    | _, _ => s

/-- Blocks that the receive pool holds, of the endpoints of a partition when the engine is shared (R484). -/
def State.poolRoom (s : State) (u : PortId) (f : Frame) : Bool :=
  let held := fun (q : Nat → Bool) => (((s.port u).pool.filter fun p => q p.1 && !p.2.poison).map fun p => blocks p.2.len).sum
  let owner := fun ep => s.fld (oCE_EPOWN u (ep / 16)) (4 * (ep % 16) + 3) (4 * (ep % 16))
  if s.flag (oCE_CTL u) 8 then
    let parts := (List.range 8).countP fun n => (s.ownedEps u).any fun ep => owner ep == n
    decide (held (fun ep => owner ep == owner f.ep) + blocks f.len ≤ 3072 / max 1 parts)
      && decide (held (fun _ => true) + blocks f.len ≤ 3072)
  else decide (held (fun _ => true) + blocks f.len ≤ 3072)

/-- R360: the expected frame of an endpoint. -/
def State.rxExpected (s : State) (u : PortId) (f : Frame) : State :=
  if (s.port u).pool.any fun p => p.1 == f.ep && p.2.seq == f.seq then s.freeBlocks u (blocks f.len)
  else if f.poison then
    let s := (s.consume u f.ep f.seq).freeBlocks u (blocks f.len)
    match s.recvFor (pu u) f.ep with
    | some (x, _) => s.poisonTo u x
    | none => s.modPort u fun p => { p with pool := p.pool ++ [(f.ep, f)] }
  else
    match s.recvFor (pu u) f.ep with
    | some (x, c) =>
      let r := s.deliverTo u x c f
      if r.2 then r.1
      else (r.1.modPort u fun p => { p with pool := p.pool ++ [(f.ep, f)] }).drainPool u f.ep 16
    | none =>
      if s.poolRoom u f then s.modPort u fun p => { p with pool := p.pool ++ [(f.ep, f)] }
      else (s.freeBlocks u (blocks f.len)).count (cUNIT u 14)

/-- RX_DATA (R360, R374, R375, R592). Assumption 46 (DEDUCED). -/
def State.rxDataFrame (s : State) (u : PortId) (f : Frame) : State :=
  let n := blocks f.len
  let p := s.port u
  let beyond := decide (3072 + p.rxTold < p.rxUsed + n)
  let s := s.modPort u fun p => { p with rxUsed := p.rxUsed + n }
  if beyond then (s.freeBlocks u n).count (cUNIT u 17)
  else
    match s.partnerEpoch u f.ep with
    | none => s.freeBlocks u n
    | some pe =>
      if pe.toNat ≠ f.epoch then s.freeBlocks u n
      else
        let exp := s.iseq u f.ep
        if f.seq = exp then s.rxExpected u f
        else if seqAfter f.seq exp then
          ((s.freeBlocks u n).count (cUNIT u 13)).sendAck u f.ep [(exp, (f.seq + 2 ^ 48 - exp) % 2 ^ 48)]
        else ((s.freeBlocks u n).count (cUNIT u 12)).sendAck u f.ep []

/-- What every received frame meets first: training, form, role (R373, R446). -/
def State.rxGate (s : State) (u : PortId) (f : Frame) (ty : Nat) (act : State → State) : State :=
  if s.lstate u ≠ lsUP ∧ ty ≠ 7 ∨ s.lstate u = lsDOWN then s
  else if !f.good then s.count (cUNIT u 16)
  else if f.ty ≠ ty then s
  else if s.roleRuns = false ∧ ty ≠ 7 ∧ ty ≠ 4 ∧ ty ≠ 0 then s.count (cUNIT u 19)
  else act s

/-- RX_EPOCH (R592). -/
def State.rxEpochFrame (s : State) (u : PortId) (f : Frame) : State :=
  if !(s.ownedEps u).contains f.ep then s
  else
    let take := match s.partnerEpoch u f.ep with
      | none => true
      | some pe => isAfter 16 f.epoch pe.toNat
    let same := s.partnerEpoch u f.ep == some (BitVec.ofNat 16 f.epoch)
    if take || same then
      let s := s.modPort u fun p =>
        { p with partner := (f.ep, BitVec.ofNat 16 f.epoch) :: p.partner.filter (fun q => q.1 ≠ f.ep)
                 accepted := (f.ep, BitVec.ofNat 16 f.epoch) :: p.accepted.filter fun q => q.1 ≠ f.ep }
      let s := if seqAfter f.seq (seqPrev (s.iseq u f.ep)) then s.setFld (oJNL_ISEQ u f.ep) 47 0 f.seq else s
      s.sendAck u f.ep []
    else s

/-- The role changes; PF0 is told (R554) and the Towpath lands follow (R447). Assumption 62 (DEDUCED). -/
def State.setRole (s : State) (r : Nat) : State :=
  if s.fld oTWN_STAT 3 0 = r then s else ((s.setFld oTWN_STAT 3 0 r).raiseMsix 0 2).landsFrom s

/-- R461: an ACTIVE unit is fenced. Assumption 46 (DEDUCED). -/
def State.fenceUnit (s : State) : State :=
  if s.fld oTWN_STAT 3 0 ≠ 2 then s
  else
    let s := (s.setRole 6).setFlag oTWN_STAT 12 true
    let s := s.forEach (List.finRange 9) fun e s => if s.ceWorks e then s.stopEngine e ceSTOPPED else s
    s.record (mkRec 4 0x67 0xF00B none none 0 2 6)

/-- RX_ACK (R350, R351, R377, R378). -/
def State.rxAckFrame (s : State) (u : PortId) (f : Frame) : State :=
  if f.len % 8 ≠ 0 ∨ 32 < f.len then s.count (cUNIT u 16)
  else if isAfter 16 f.epoch (s.portEpoch u) then
    let s := (s.count (cUNIT u 18)).record (mkRec 1 (srcPort u) 18)
    (s.modPort u fun p => { p with fenced := true }).fenceUnit
  else if f.epoch ≠ s.portEpoch u then s
  else
    let s := s.modPort u fun p => { p with epochOpen := p.epochOpen.filter (· ≠ f.ep) }
    let s := s.ackUpTo (pu u) f.ep f.seq
    s.forEach (bytesWords f.payload) fun w s => s.nackRange (pu u) f.ep (bits w 47 0) (bits w 63 48)

/-- RX_CREDIT (R374): the latest count. -/
def State.rxCreditFrame (s : State) (u : PortId) (f : Frame) : State :=
  (s.modPort u fun p => if seqAfter f.seq p.txCount then { p with txCount := f.seq } else p).showCredit u

/-- RX_ABORT (R592). -/
def State.rxAbortFrame (s : State) (u : PortId) (f : Frame) : State :=
  let last := bits ((bytesWords f.payload).headD 0) 47 0
  let cnt := (last + 2 ^ 48 - f.seq) % 2 ^ 48 + 1
  let named := fun q => decide ((q + 2 ^ 48 - f.seq) % 2 ^ 48 < cnt)
  let e := pu u
  let hits := (s.eng e).delivered.filter fun d => d.ep == f.ep && d.seqs.any named
  if hits = [] ∨ hits.any (fun d => d.reported) = true then s
  else
    let first := match hits.find? (fun d => d.seqs.contains f.seq) with
      | some d => d
      | none => hits.getLastD ⟨0, [], 0, 0, 0, false⟩
    let s := s.modEng e fun g =>
      { g with delivered := g.delivered.map fun d => if d.ep == f.ep && d.seqs.any named then { d with reported := true } else d }
    match ownerPart (s.fld (oCE_EPOWN u (f.ep / 16)) (4 * (f.ep % 16) + 3) (4 * (f.ep % 16))) with
    | some n => s.ringPost n (mkCRec 0 first.pgm false false false false f.ep e 0 0x0D first.cmd cnt 0 s.tickNum true)
    | none => s

/-- RX_TRAIN (R367, R369, R373): in UP it begins a retraining; in PARAM it is the partner's part of the exchange. -/
def State.rxTrainFrame (s : State) (u : PortId) (f : Frame) : State :=
  let w := (bytesWords f.payload).headD 0
  if s.lstate u = lsUP then s.retrain u true
  else if s.lstate u = lsPARAM then
    (s.modPort u fun p => { p with partnerLanes := some (w.setWidth 4), txAdv := bits w 39 16 }).showCredit u
  else s

/-! Commands of channel programs that touch the port. -/

/-- CMD_SEND: the command begins; its staging is due (R317, R322). -/
def State.cmdSend (s : State) (e : UnitId) (x : CtxId) : State :=
  match s.fetchedCtx e x 1 with
  | some c => (if c.fTb then s else s.noteTurn e x).beginXf e x c fun s => s.modCtx e x fun c => { c with phase := .staging }
  | none => s

/-- R314: a RECV of the endpoint that was fetched earlier is still to be posted. -/
def State.recvBefore (s : State) (e : UnitId) (c : Ctx) : Bool :=
  (s.eng e).ctx.toList.any fun d =>
    match d with
    | some d => d.phase == .fetched && d.op == 2 && d.ep == c.ep && decide (d.fetchNo < c.fetchNo)
    | none => false

/-- CMD_RECV: the buffer is posted, in fetch order; on the Towpath the routine of entry 1 is called (R314, R316). -/
def State.cmdRecv (s : State) (e : UnitId) (x : CtxId) : State :=
  match s.fetchedCtx e x 2 with
  | some c =>
    if s.recvBefore e c then s
    else
    (s.noteTurn e x).beginXf e x c fun s =>
      if h : e.val < 8 then
        let s := (s.modCtx e x fun c => { c with phase := .posted }).modEng e fun g => { g with posted := g.posted ++ [x.val] }
        s.drainPool ⟨e, h⟩ c.ep ((s.port ⟨e, h⟩).pool.length + 1)
      else s.modCtx e x fun c => { c with phase := .routine }
  | none => s

/-! Towpath interrupt lines (R386, R388). -/

/-- An accepted or refused event of an active line. Assumption 47 (DEDUCED). -/
def State.tpEvent (s : State) (k : Fin 4) : State :=
  let tmin := max 1 (s.fld (oTOW_INT k) 31 16) * 10
  let nmax := max 1 (s.fld (oTOW_INT k) 39 32)
  if s.flag oTOW_INTSTAT (20 + k) then s
  else
    match s.tick.tpLast[k] with
    | some t0 =>
      if s.now.toNat < t0.toNat + tmin then s.count (cUNIT 8 20) else accept s nmax
    | none => accept s nmax
where
  accept (s : State) (nmax : Nat) : State :=
    if nmax ≤ s.tick.tpCount[k] then
      (((s.setFlag oTOW_INTSTAT (20 + k) true).setFlag oTOW_INTSTAT (24 + k) true).count (cUNIT 8 21)).record
        (mkRec 1 0x60 21)
    else
      let s := s.setFlag oTOW_INTSTAT (16 + k) true
      { s with tick := { s.tick with tpCount := s.tick.tpCount.set k (s.tick.tpCount[k] + 1),
                                     tpLast := s.tick.tpLast.set k (some s.now) } }

/-- TP_INT_EVENT: a line changes level; a change to active is an event. -/
def State.tpLevel (s : State) (k : Fin 4) (active : Bool) : State :=
  if !s.flag (oTOW_INT k) 0 then s
  else
    let was := s.tick.tpActive.getLsbD k
    let m := BitVec.ofNat 4 (2 ^ k.val)
    let s := { s with tick := { s.tick with
        tpActive := if active then s.tick.tpActive ||| m else s.tick.tpActive &&& ~~~m,
        tpSince := if active then s.tick.tpSince else s.tick.tpSince &&& ~~~m } }
    if active && !was then s.tpEvent k else s

/-- R388: at a tick the event counts start again, and a line active since the last tick is masked. -/
def State.tpTick (s : State) : State :=
  let s := s.forEach (List.finRange 4) fun k s =>
    if s.flag (oTOW_INT k) 0 && s.tick.tpActive.getLsbD k && s.tick.tpSince.getLsbD k && !s.flag oTOW_INTSTAT (20 + k) then
      (((s.setFlag oTOW_INTSTAT (20 + k) true).setFlag oTOW_INTSTAT (28 + k) true).count (cUNIT 8 21)).record
        (mkRec 1 0x60 21)
    else s
  { s with tick := { s.tick with tpCount := Vector.replicate 4 0, tpSince := s.tick.tpActive } }

end Sys2Proof.Machine
end

