-- ==== Sys2Proof/Machine/Channel.lean ====
section
/-!
DEFINITION. The commands of the channel engines, the journal unit and the ports that no register write stands behind
(chapters 11 to 13).
-/

namespace Sys2Proof.Machine

/-! Programs and their commands. -/

/-- PROGRAM_DISPATCH (R303). -/
def execProgramDispatch (e : UnitId) (s : State) : Host.Outcome State Fault Refusal := .next (s.dispatch e)

/-- CMD_FETCH (R307 to R311, R318, R319). -/
def execCmdFetch (e : UnitId) (x : CtxId) (s : State) : Host.Outcome State Fault Refusal := .next (s.cmdFetch e x)

/-- CMD_SEND (R309, R317, R322): on the Towpath the frames go out through the routine of R316. -/
def execCmdSend (e : UnitId) (x : CtxId) (s : State) : Host.Outcome State Fault Refusal := .next (s.cmdSend e x)

/-- CMD_RECV (R314, R316). -/
def execCmdRecv (e : UnitId) (x : CtxId) (s : State) : Host.Outcome State Fault Refusal := .next (s.cmdRecv e x)

/-- CMD_JUMP (R313, R328). -/
def execCmdJump (e : UnitId) (x : CtxId) (s : State) : Host.Outcome State Fault Refusal := .next (s.cmdAtOnce e x 0x08)

/-- CMD_WAITT (R328). -/
def execCmdWaitt (e : UnitId) (x : CtxId) (s : State) : Host.Outcome State Fault Refusal := .next (s.cmdWait e x 0x09)

/-- CMD_SYNC (R328). -/
def execCmdSync (e : UnitId) (x : CtxId) (s : State) : Host.Outcome State Fault Refusal := .next (s.cmdWait e x 0x0A)

/-- CMD_NOP (R328). -/
def execCmdNop (e : UnitId) (x : CtxId) (s : State) : Host.Outcome State Fault Refusal := .next (s.cmdAtOnce e x 0x0B)

/-- SEND_STAGING (R317, R322). -/
def execSendStaging (e : UnitId) (x : CtxId) (s : State) : Host.Outcome State Fault Refusal := .next (s.sendStaging e x)

/-- COMMAND_COMPLETE (R328, R329). -/
def execCommandComplete (e : UnitId) (x : CtxId) (s : State) : Host.Outcome State Fault Refusal :=
  .next (s.commandComplete e x)

/-- STALLED_RECORD_POST (R332). -/
def execStalledRecordPost (e : UnitId) (x : CtxId) (s : State) : Host.Outcome State Fault Refusal :=
  .next (s.stalledPost e x)

/-! Engine faults (R338 to R340). -/

/-- INFO0 bits 3:0 of an engine-fault record (R529). -/
def causeCode : EngineFaultCause → Nat
  | .ctlStore => 1
  | .watchdog => 2
  | .microstack => 3
  | .context => 4
  | .workStore => 5

/-- MC_STAT of an engine. -/
abbrev oCE_MC (e : Nat) : Nat := oCE e 0x100

/-- The MC_STAT bit that a cause sets (R221, R230). Assumption 48 (DEDUCED). -/
def State.causeMark (s : State) (e : UnitId) : EngineFaultCause → State
  | .ctlStore => s.setFlag (oCE_MC e) 7 true
  | .watchdog => s.setFlag (oCE_MC e) 4 true
  | .microstack => s.setFlag (oCE_MC e) 5 true
  | .context => s
  | .workStore => s

/-- The partitions that have an active program on an engine. -/
def State.activeParts (s : State) (e : UnitId) : List Nat :=
  (List.range 8).filter fun n => (s.eng e).ctx.toList.any fun c => match c with | some c => c.prog.part.val == n | none => false

/-- The sequencer of an engine after its working store was cleared. -/
def Seq.cleared (q : Seq) : Seq := { Seq.reset with store := q.store, entries := q.entries }

/-- R339: the engine is retired. Assumption 48 (DEDUCED). -/
def State.retireEngine (s : State) (e : UnitId) : State :=
  let s := s.cancelWhere e 1 fun _ => true
  let s := s.modEng e fun g => { g with retired := true, stopDue := false }
  let s := (s.setFlag (oCE_CTL e) 0 false).setFlag (oCE_CTL e) 1 false
  if s.ceState e = ceOFF then s else s.setCe e ceSTOPPED

/-- R338, R339: an engine fault. Assumption 48 (DEDUCED). -/
def State.engineFault (s : State) (e : UnitId) (cause : EngineFaultCause) (uaddr : Nat) (x : Option CtxId) : State :=
  let s := s.causeMark e cause
  let runs := s.ceWorks e
  let dead := (s.eng e).retired
  let times := (s.eng e).faultTimes.filter fun t => s.now.toNat ≤ t.toNat + 1000000000
  let times := if dead then times else times ++ [s.now]
  let retire := !dead && decide (3 ≤ times.length)
  let s := s.setFld (oCE_STAT e) 39 32 (min 255 (s.fld (oCE_STAT e) 39 32 + 1))
  let addr := match cause with | .watchdog => uaddr | .microstack => uaddr | _ => 0
  let info0 := BitVec.ofNat 64 (causeCode cause + addr % 2 ^ 14 * 2 ^ 16 + if retire then 2 ^ 63 else 0)
  let n := if dead then times.length + 1 else times.length
  let s := s.record (mkRec (if retire then 5 else 4) (0x48 + e) 0xF008 none none 0 info0 (BitVec.ofNat 64 n))
  let had := s.activeParts e
  let s := s.modEng e fun g => { g with faultTimes := times, seq := g.seq.cleared }
  if retire then s.retireEngine e
  else if runs then
    let st := s.ceState e
    let s := (s.modEng e fun g => { g with after := st, hadActive := had, stopDue := false }).setCe e ceRECOVERING
    match cause, x with
    | .context, some x =>
      match s.ctx e x with
      | some c => s.cancelActive e x c 0
      | none => s
    | _, _ => s
  else s

/-- ENGINE_FAULT (R338, R339). -/
def execEngineFault (e : UnitId) (cause : EngineFaultCause) (uaddr : BitVec 14) (x : Option CtxId) (t : Word) (s : State) :
    Host.Outcome State Fault Refusal := .next ((s.advanceTo t).engineFault e cause uaddr.toNat x)

/-- R338: where a program resumes. A command whose frames all have numbers, a posted RECV, a wait and a job go on; a SEND
that is not tick-bound goes on from its first frame without a number; any other command starts again, after R406 for a GCM
decryption. Assumption 48 (DEDUCED). -/
def State.resumeCtx (s : State) (e : UnitId) (x : CtxId) : State :=
  match s.ctx e x with
  | some c =>
    match c.phase with
    | .staging =>
      if c.fTb then
        (s.dropStaged e c.staged).setCtx e x
          (some { c with staged := [], stages := c.stages.map fun g => Stage.fresh g.desc, got := [] })
      else s
    | .job =>
      if c.op = 2 ∨ (c.op = 1 ∧ c.fTb = false) then s
      else
        (s.zeroEarly c).setCtx e x
          (some { c with phase := .fetched, stages := c.stages.map fun g => Stage.fresh g.desc, got := [] })
    | .routine => s.setCtx e x (some { c with phase := .fetched, regs := c.cmd })
    | _ => s
  | none => s

/-- ENGINE_RESTART_DONE (R335, R338, R340). -/
def State.engineRestart (s : State) (e : UnitId) : State :=
  if s.ceState e ≠ ceRECOVERING then s
  else
    let g := s.eng e
    let s := s.setCe e g.after
    let s := s.forEach (List.finRange 16) fun x s => s.resumeCtx e x
    let s := s.forEach ((List.finRange 8).filter fun n => g.hadActive.contains n.val) fun n s => s.notice n 0x04 e
    let s := s.modEng e fun g => { g with hadActive := [], stopDue := false }
    if g.stopDue then s.stopEngine e ceSTOPPED else s.drained e

/-- ENGINE_RESTART_DONE. -/
def execEngineRestartDone (e : UnitId) (s : State) : Host.Outcome State Fault Refusal := .next (s.engineRestart e)

/-- ENGINE_SLICE_END (R326): the slice, or the turn, of partition n ends and the next begins. -/
def execEngineSliceEnd (e : UnitId) (n : PartId) (s : State) : Host.Outcome State Fault Refusal := .next (s.engSliceEnd e n)

/-! The journal. -/

/-- RTO_TIMEOUT (R352). -/
def execRtoTimeout (u : UnitId) (slot : BitVec 16) (t : Word) (s : State) : Host.Outcome State Fault Refusal :=
  .next ((s.advanceTo t).rtoTimeout u slot.toNat)

/-- INBOUND_ACK_SEND (R360): the cumulative acknowledgement of the frames accepted since the last one. -/
def execInboundAckSend (u : PortId) (ep : EpId) (s : State) : Host.Outcome State Fault Refusal :=
  .next (if s.portLive u && (s.port u).ackDue.any (fun a => a.1 == ep.val) then s.sendAck u ep [] else s)

/-! Port transmission. -/

/-- DATA_FRAME_SEND (R321, R374, R375). -/
def execDataFrameSend (u : PortId) (s : State) : Host.Outcome State Fault Refusal := .next (s.dataFrame u)

/-- IDLE_FRAME_SEND (R373, R379, R446). -/
def execIdleFrameSend (u : PortId) (s : State) : Host.Outcome State Fault Refusal :=
  .next (if s.lstate u = lsUP then s.sendCtl u 0 0 0 (s.portEpoch u) [] else s)

/-- CREDIT_FRAME_SEND (R374): the count of blocks freed since training, when it has changed. -/
def execCreditFrameSend (u : PortId) (s : State) : Host.Outcome State Fault Refusal :=
  .next (if s.lstate u = lsUP ∧ (s.port u).rxFreed ≠ (s.port u).rxTold then
    (s.sendCtl u 4 0 (s.port u).rxFreed (s.portEpoch u) []).modPort u fun p => { p with rxTold := p.rxFreed }
  else s)

/-- EPOCH_FRAME_RESEND (R377). -/
def execEpochFrameResend (u : PortId) (ep : EpId) (s : State) : Host.Outcome State Fault Refusal :=
  .next (if s.portLive u && ((s.port u).epochOpen.contains ep.val || (s.port u).epochDue.contains ep.val)
      && (s.ownedEps u).contains ep.val then s.sendEpoch u ep else s)

/-! Port reception (R360, R373, R592). -/

/-- RX_DATA. -/
def execRxData (u : PortId) (fr : Frame) (s : State) : Host.Outcome State Fault Refusal :=
  .next (s.rxGate u fr 1 fun s => s.rxDataFrame u fr)

/-- RX_EPOCH. -/
def execRxEpoch (u : PortId) (fr : Frame) (s : State) : Host.Outcome State Fault Refusal :=
  .next (s.rxGate u fr 5 fun s => s.rxEpochFrame u fr)

/-- RX_ACK (R350, R351, R378, R461). -/
def execRxAck (u : PortId) (fr : Frame) (s : State) : Host.Outcome State Fault Refusal :=
  .next (s.rxGate u fr 3 fun s => s.rxAckFrame u fr)

/-- RX_CREDIT (R374). -/
def execRxCredit (u : PortId) (fr : Frame) (s : State) : Host.Outcome State Fault Refusal :=
  .next (s.rxGate u fr 4 fun s => s.rxCreditFrame u fr)

/-- RX_ABORT. -/
def execRxAbort (u : PortId) (fr : Frame) (s : State) : Host.Outcome State Fault Refusal :=
  .next (s.rxGate u fr 6 fun s => s.rxAbortFrame u fr)

/-- RX_MARKER: the link is alive. -/
def execRxMarker (u : PortId) (fr : Frame) (s : State) : Host.Outcome State Fault Refusal := .next (s.rxGate u fr 2 id)

/-- RX_IDLE: the link is alive. -/
def execRxIdle (u : PortId) (fr : Frame) (s : State) : Host.Outcome State Fault Refusal := .next (s.rxGate u fr 0 id)

/-- RX_TRAIN (R367, R369). -/
def execRxTrain (u : PortId) (fr : Frame) (s : State) : Host.Outcome State Fault Refusal :=
  .next (s.rxGate u fr 7 fun s => s.rxTrainFrame u fr)

/-! Training. -/

/-- TRAIN_PHASE_COMPLETE (R367). -/
def execTrainPhaseComplete (u : PortId) (s : State) : Host.Outcome State Fault Refusal := .next (s.trainPhase u)

/-- TRAIN_PHASE_TIMEOUT (R368). -/
def execTrainPhaseTimeout (u : PortId) (failed : BitVec 4) (s : State) : Host.Outcome State Fault Refusal :=
  .next (s.trainFail u failed)

/-- PARAM_TIMEOUT (R368). -/
def execParamTimeout (u : PortId) (s : State) : Host.Outcome State Fault Refusal :=
  .next (if s.lstate u = lsPARAM ∧ (s.port u).partnerLanes = none then s.startTrain u (s.port u).lanes else s)

/-- PORT_DOWN_RETRY (R368). -/
def execPortDownRetry (u : PortId) (s : State) : Host.Outcome State Fault Refusal :=
  .next (if s.lstate u = lsDOWN then s.trainAfresh u else s)

/-- LANE_LOCK_LOSS (R369, R521). -/
def execLaneLockLoss (u : PortId) (lane : Fin 4) (s : State) : Host.Outcome State Fault Refusal :=
  .next (if s.flag (oPORT_STAT u) (20 + lane) then s.retrain u true else s)

/-- UNCORR_LIMIT_EXCEEDED (R369, R521); a limit of 0 disables the rule. -/
def execUncorrLimitExceeded (u : PortId) (s : State) : Host.Outcome State Fault Refusal :=
  .next (if s.fld (oPORT_CTL u) 31 16 = 0 then s else s.retrain u true)

/-- TP_INT_EVENT (R386, R388). -/
def execTpIntEvent (k : Fin 4) (active : Bool) (t : Word) (s : State) : Host.Outcome State Fault Refusal :=
  .next ((s.advanceTo t).tpLevel k active)

end Sys2Proof.Machine
end

