-- ==== Sys2Proof/WellFormed.lean ====
section
/-!
DEFINITION. Which commands are well formed. A Rilel instruction is well formed when its encoding is legal (R89, R95): no
reserved field is set, no reserved register is named. Of the network's commands, an answered packet is a request, and a
channel engine's packet carries no tag bytes (R426). Every other command is well formed. A customer instruction is also
illegal while its decode slot is not loaded, which only the state knows.
-/

namespace Sys2Proof

/-- R89: a field that names a c register has bit 4 clear. -/
def cField (x : BitVec 5) : Bool := !x.getLsbD 4

/-- R89: a field that names a p register has bits 4:3 clear. -/
def pField (x : BitVec 5) : Bool := x.extractLsb' 3 2 == 0

/-- R110: the k register of MFK and MTK, bits 16:11 of the word. -/
def kNum (f : RForm) : Nat := 2 * f.a.toNat + (f.b.getLsbD 4).toNat

/-- R95, R110, R217: bits 10:7 are clear and the k register is not reserved. -/
def kField (f : RForm) : Bool :=
  f.b.extractLsb' 0 4 == 0 && (decide (kNum f ≤ 5) || decide (16 ≤ kNum f ∧ kNum f ≤ 19) || decide (48 ≤ kNum f))

/-- R426: a packet that is answered is a request. -/
def PktHead.isRequest (p : PktHead) : Bool :=
  p.cls == .read || p.cls == .write || p.cls == .snoop || p.cls == .regAccess || p.cls == .errorRecord || p.cls == .maintenance

/-- R426: the tag bytes of a head flit: none from a channel engine. -/
def HeadFlit.tagsLegal (h : HeadFlit) : Bool := !decide (56 ≤ h.pkt.src.val ∧ h.pkt.src.val ≤ 64) || h.tags == 0

/-- The encoding of a command is legal. -/
def Instr.legal : Instr → Bool
  | .mov _ f | .tagget _ f | .class _ f | .fabs _ _ f | .fneg _ _ f | .fclass _ _ f | .fsqinit _ _ f
  | .fsqstep _ _ f | .fsqfin _ _ f | .dval _ f | .gneg _ f | .car _ f | .cdr _ f | .colget _ f | .fcvtFixD _ f
  | .fcvtDFix _ f | .fcvtSD _ f | .fcvtDS _ f | .fcvtFixS _ f | .fcvtSFix _ f | .clz _ f | .ctz _ f | .popc _ f
  | .brev _ f | .bswap _ f =>
    f.b == 0
  | .cmpEq _ f | .cmpNe _ f | .cmpLt _ f | .cmpLe _ f | .cmpLtu _ f | .cmpLeu _ f | .cmpEqw _ f | .tagchk _ f
  | .fcmpeq _ _ f | .fcmplt _ _ f | .fcmple _ _ f | .fcmpun _ _ f | .gcmplt _ f | .gcmpeq _ f =>
    pField f.d
  | .pand _ f | .por _ f | .pxor _ f | .pandn _ f =>
    pField f.d && pField f.a && pField f.b
  | .pnot _ f =>
    pField f.d && pField f.a && f.b == 0
  | .pset _ f | .pclr _ f =>
    pField f.d && f.a == 0 && f.b == 0
  | .prdg _ f | .rsdepth _ f | .rdtick _ f | .rdtime _ f | .rdcyc _ f | .rdps _ f =>
    f.a == 0 && f.b == 0
  | .pwrg _ f | .jr _ f | .callr _ f | .cclr _ f | .pref _ f | .prefw _ f | .lzero _ f | .ccln _ f | .cfls _ f
  | .wrps _ f | .gret _ f | .wrpsk _ f =>
    f.d == 0 && f.b == 0
  | .drem _ f | .fdinit _ _ f | .fdstep _ _ f | .ldpc _ f =>
    f.a == 0
  | .ret _ f | .tret _ f | .fence _ f | .fenceA _ f | .fenceI _ f | .emset _ f | .emclr _ f | .wait _ f =>
    f.d == 0 && f.a == 0 && f.b == 0
  | .rplaca _ f | .rplacd _ f | .colset _ f | .trap _ f | .rdset _ f | .tdisp _ f =>
    f.d == 0
  | .mark _ f =>
    pField f.d && f.b == 0
  | .cmov _ f =>
    cField f.d && f.d != 15 && cField f.a && f.b == 0
  | .cbnd _ f =>
    cField f.d && f.d != 15 && cField f.a && f.b % 2 == 0
  | .cperm _ f =>
    cField f.d && f.d != 15 && cField f.a
  | .cseal _ f | .cunseal _ f =>
    cField f.d && f.d != 15 && cField f.a && cField f.b
  | .cgetb _ f | .cgetl _ f | .cgetp _ f =>
    cField f.a && f.b == 0
  | .ctest _ f =>
    pField f.d && cField f.a
  | .bcopy _ f =>
    cField f.d && cField f.a && f.b == 0
  | .bfill _ f =>
    cField f.d && f.a == 0 && f.b == 0
  | .saveRs _ f | .loadRs _ f | .cinvR _ f | .cclnR _ f | .cflsR _ f | .stc _ f =>
    cField f.d
  | .start _ f =>
    cField f.a
  | .gate _ f | .gateF _ f =>
    f.d == 0 && cField f.a && cField f.b && f.b != 13 && f.b != 15
  | .retfEvent _ f =>
    f.d == 0 && f.a == 0
  | .retfGate _ f =>
    f.d == 0 && f.a == 1
  | .mfk _ f | .mtk _ f =>
    kField f
  | .ldc _ f =>
    cField f.d && f.d != 15
  | .customerInsn _ minor _ =>
    !minor.getLsbD 6
  | .shi _ f =>
    f.imm.extractLsb' 8 4 == 0
  | .tagseti _ f =>
    f.imm.extractLsb' 6 6 == 0
  | .niResponse _ _ p _ | .rerouteReturn _ _ p _ _ | .domainAbsentAnswer _ _ p _ _ =>
    p.isRequest
  | .probeMatch _ _ h _ =>
    h.tagsLegal
  | _ => true

end Sys2Proof
end

