-- ==== Sys2Proof/Decode.lean ====
section
/-!
DEFINITION. The words of Rilel instructions (R88, R97, R98): the encoder, which trap frames and escape descriptors need
(R134, R203), and the decoder. The opcode table gives no row any bits, so no table word spells a command.
-/

namespace Sys2Proof

/-- Bits 31:22 of every format (R88). -/
def wordHead (major : Nat) (p : Pred) : BitVec 10 := BitVec.ofBool p.n ++ p.p ++ BitVec.ofNat 6 major

/-- Format R. -/
def wordR (major : Nat) (minor : BitVec 7) (f : RForm) : BitVec 32 := wordHead major f.pr ++ f.d ++ f.a ++ f.b ++ minor
/-- Format R with a capability index in bits 3:0 and an operation in bits 6:4. -/
def wordX (major : Nat) (op : BitVec 3) (f : XForm) : BitVec 32 :=
  wordHead major f.pr ++ f.d ++ f.a ++ f.b ++ op ++ f.ci
/-- Format I. -/
def wordI (major : Nat) (f : IForm) : BitVec 32 := wordHead major f.pr ++ f.d ++ f.a ++ f.imm
/-- Format M. -/
def wordM (major : Nat) (f : MForm) : BitVec 32 := wordHead major f.pr ++ f.d ++ f.a ++ f.ci ++ f.disp
/-- Format B. -/
def wordB (major : Nat) (f : BForm) : BitVec 32 := wordHead major f.pr ++ f.disp
/-- A load or store: its M form, or its MEMX form, major 0x1D. -/
def wordMem (major : Nat) (op : BitVec 3) : MemForm → BitVec 32
  | .m f => wordM major f
  | .x f => wordX 0x1D op f

/-- The word of a Rilel instruction; zero for a command that is no instruction. -/
def insnWord : Instr → BitVec 32
  | .add _ f => wordR 0x01 0x00 f
  | .sub _ f => wordR 0x01 0x01 f
  | .and _ f => wordR 0x01 0x02 f
  | .or _ f => wordR 0x01 0x03 f
  | .xor _ f => wordR 0x01 0x04 f
  | .andn _ f => wordR 0x01 0x05 f
  | .sll _ f => wordR 0x01 0x06 f
  | .srl _ f => wordR 0x01 0x07 f
  | .sra _ f => wordR 0x01 0x08 f
  | .rol _ f => wordR 0x01 0x09 f
  | .min _ f => wordR 0x01 0x0A f
  | .max _ f => wordR 0x01 0x0B f
  | .minu _ f => wordR 0x01 0x0C f
  | .maxu _ f => wordR 0x01 0x0D f
  | .mov _ f => wordR 0x01 0x0E f
  | .cmpEq _ f => wordR 0x07 0x00 f
  | .cmpNe _ f => wordR 0x07 0x01 f
  | .cmpLt _ f => wordR 0x07 0x02 f
  | .cmpLe _ f => wordR 0x07 0x03 f
  | .cmpLtu _ f => wordR 0x07 0x04 f
  | .cmpLeu _ f => wordR 0x07 0x05 f
  | .cmpEqw _ f => wordR 0x07 0x06 f
  | .pand _ f => wordR 0x09 0x00 f
  | .por _ f => wordR 0x09 0x01 f
  | .pxor _ f => wordR 0x09 0x02 f
  | .pandn _ f => wordR 0x09 0x03 f
  | .pnot _ f => wordR 0x09 0x04 f
  | .pset _ f => wordR 0x09 0x05 f
  | .pclr _ f => wordR 0x09 0x06 f
  | .prdg _ f => wordR 0x09 0x08 f
  | .pwrg _ f => wordR 0x09 0x09 f
  | .tagget _ f => wordR 0x0A 0x00 f
  | .tagset _ f => wordR 0x0A 0x01 f
  | .tagchk _ f => wordR 0x0A 0x02 f
  | .class _ f => wordR 0x0A 0x03 f
  | .mul _ f => wordR 0x0C 0x00 f
  | .mulh _ f => wordR 0x0C 0x01 f
  | .mulhu _ f => wordR 0x0C 0x02 f
  | .mulhsu _ f => wordR 0x0C 0x03 f
  | .dprep _ f => wordR 0x0D 0x00 f
  | .dprepu _ f => wordR 0x0D 0x01 f
  | .dstep _ f => wordR 0x0D 0x02 f
  | .dquot _ f => wordR 0x0D 0x03 f
  | .drem _ f => wordR 0x0D 0x04 f
  | .fadd _ single f => wordR (if single then 0x0F else 0x0E) 0x00 f
  | .fsub _ single f => wordR (if single then 0x0F else 0x0E) 0x01 f
  | .fmul _ single f => wordR (if single then 0x0F else 0x0E) 0x02 f
  | .fmadd _ single f => wordR (if single then 0x0F else 0x0E) 0x03 f
  | .fmsub _ single f => wordR (if single then 0x0F else 0x0E) 0x04 f
  | .fnmadd _ single f => wordR (if single then 0x0F else 0x0E) 0x05 f
  | .fmin _ single f => wordR (if single then 0x0F else 0x0E) 0x06 f
  | .fmax _ single f => wordR (if single then 0x0F else 0x0E) 0x07 f
  | .fabs _ single f => wordR (if single then 0x0F else 0x0E) 0x08 f
  | .fneg _ single f => wordR (if single then 0x0F else 0x0E) 0x09 f
  | .fclass _ single f => wordR (if single then 0x0F else 0x0E) 0x0A f
  | .fcmpeq _ single f => wordR (if single then 0x0F else 0x0E) 0x10 f
  | .fcmplt _ single f => wordR (if single then 0x0F else 0x0E) 0x11 f
  | .fcmple _ single f => wordR (if single then 0x0F else 0x0E) 0x12 f
  | .fcmpun _ single f => wordR (if single then 0x0F else 0x0E) 0x13 f
  | .fdinit _ single f => wordR 0x10 (if single then 0x10 else 0x00) f
  | .fdstep _ single f => wordR 0x10 (if single then 0x11 else 0x01) f
  | .fdfin _ single f => wordR 0x10 (if single then 0x12 else 0x02) f
  | .fsqinit _ single f => wordR 0x10 (if single then 0x14 else 0x04) f
  | .fsqstep _ single f => wordR 0x10 (if single then 0x15 else 0x05) f
  | .fsqfin _ single f => wordR 0x10 (if single then 0x16 else 0x06) f
  | .dadd _ f => wordR 0x11 0x00 f
  | .dsub _ f => wordR 0x11 0x01 f
  | .dcmp _ f => wordR 0x11 0x02 f
  | .dval _ f => wordR 0x11 0x03 f
  | .jr _ f => wordR 0x20 0x00 f
  | .callr _ f => wordR 0x20 0x01 f
  | .ret _ f => wordR 0x20 0x02 f
  | .gadd _ f => wordR 0x21 0x00 f
  | .gsub _ f => wordR 0x21 0x01 f
  | .gmul _ f => wordR 0x21 0x02 f
  | .gneg _ f => wordR 0x21 0x03 f
  | .gcmplt _ f => wordR 0x21 0x04 f
  | .gcmpeq _ f => wordR 0x21 0x05 f
  | .car _ f => wordR 0x22 0x00 f
  | .cdr _ f => wordR 0x22 0x01 f
  | .rplaca _ f => wordR 0x22 0x02 f
  | .rplacd _ f => wordR 0x22 0x03 f
  | .cons _ f => wordR 0x22 0x04 f
  | .assq _ f => wordR 0x22 0x05 f
  | .memq _ f => wordR 0x22 0x06 f
  | .alloc _ f => wordR 0x24 0x00 f
  | .allocv _ f => wordR 0x24 0x01 f
  | .mark _ f => wordR 0x25 0x00 f
  | .scanw _ f => wordR 0x25 0x01 f
  | .colget _ f => wordR 0x25 0x02 f
  | .colset _ f => wordR 0x25 0x03 f
  | .fwdset _ f => wordR 0x25 0x04 f
  | .cmov _ f => wordR 0x26 0x00 f
  | .cbnd _ f => wordR 0x26 0x01 f
  | .cperm _ f => wordR 0x26 0x02 f
  | .cseal _ f => wordR 0x26 0x03 f
  | .cunseal _ f => wordR 0x26 0x04 f
  | .cgetb _ f => wordR 0x26 0x05 f
  | .cgetl _ f => wordR 0x26 0x06 f
  | .cgetp _ f => wordR 0x26 0x07 f
  | .ctest _ f => wordR 0x26 0x08 f
  | .cclr _ f => wordR 0x26 0x09 f
  | .bcopy _ f => wordR 0x27 0x00 f
  | .bfill _ f => wordR 0x27 0x01 f
  | .saveRs _ f => wordR 0x28 0x00 f
  | .loadRs _ f => wordR 0x28 0x01 f
  | .rsdepth _ f => wordR 0x28 0x02 f
  | .start _ f => wordR 0x29 0x00 f
  | .casw _ f => wordX 0x2A 0 f
  | .swpw _ f => wordX 0x2A 1 f
  | .faddw _ f => wordX 0x2A 2 f
  | .pref _ f => wordX 0x2B 0 f
  | .prefw _ f => wordX 0x2B 1 f
  | .lzero _ f => wordX 0x2B 2 f
  | .ccln _ f => wordX 0x2B 3 f
  | .cfls _ f => wordX 0x2B 4 f
  | .fcvtFixD _ f => wordR 0x2C 0x00 f
  | .fcvtDFix _ f => wordR 0x2C 0x01 f
  | .fcvtSD _ f => wordR 0x2C 0x02 f
  | .fcvtDS _ f => wordR 0x2C 0x03 f
  | .fcvtFixS _ f => wordR 0x2C 0x04 f
  | .fcvtSFix _ f => wordR 0x2C 0x05 f
  | .clz _ f => wordR 0x2D 0x00 f
  | .ctz _ f => wordR 0x2D 0x01 f
  | .popc _ f => wordR 0x2D 0x02 f
  | .brev _ f => wordR 0x2D 0x03 f
  | .bswap _ f => wordR 0x2D 0x04 f
  | .rdtick _ f => wordR 0x2E 0x00 f
  | .rdtime _ f => wordR 0x2E 0x01 f
  | .rdcyc _ f => wordR 0x2E 0x02 f
  | .rdps _ f => wordR 0x2F 0x00 f
  | .wrps _ f => wordR 0x2F 0x01 f
  | .gate _ f => wordR 0x3E 0x00 f
  | .gateF _ f => wordR 0x3E 0x01 f
  | .gret _ f => wordR 0x3E 0x02 f
  | .retfEvent _ f => wordR 0x3E 0x03 f
  | .retfGate _ f => wordR 0x3E 0x03 f
  | .trap _ f => wordR 0x3E 0x04 f
  | .tret _ f => wordR 0x3E 0x05 f
  | .fence _ f => wordR 0x3E 0x08 f
  | .fenceA _ f => wordR 0x3E 0x09 f
  | .fenceI _ f => wordR 0x3E 0x0A f
  | .cinvR _ f => wordR 0x3E 0x10 f
  | .cclnR _ f => wordR 0x3E 0x11 f
  | .cflsR _ f => wordR 0x3E 0x12 f
  | .rdset _ f => wordR 0x3E 0x18 f
  | .mfk _ f => wordR 0x3E 0x20 f
  | .mtk _ f => wordR 0x3E 0x21 f
  | .emset _ f => wordR 0x3E 0x22 f
  | .emclr _ f => wordR 0x3E 0x23 f
  | .wrpsk _ f => wordR 0x3E 0x24 f
  | .wait _ f => wordR 0x3E 0x28 f
  | .ldw _ _ f => wordMem 0x12 0 f
  | .stw _ f => wordMem 0x13 1 f
  | .ldb _ f => wordMem 0x14 2 f
  | .ldbs _ f => wordMem 0x15 3 f
  | .ldh _ f => wordMem 0x16 4 f
  | .ldhs _ f => wordMem 0x17 5 f
  | .stb _ f => wordMem 0x18 6 f
  | .sth _ f => wordMem 0x19 7 f
  | .ldc _ f => wordM 0x1A f
  | .stc _ f => wordM 0x1B f
  | .br _ f => wordB 0x1E f
  | .call _ f => wordB 0x1F f
  | .customerInsn _ minor f => wordR 0x3C minor f
  | .addi _ f => wordI 0x02 f
  | .andi _ f => wordI 0x03 f
  | .ori _ f => wordI 0x04 f
  | .xori _ f => wordI 0x05 f
  | .shi _ f => wordI 0x06 f
  | .cmpi _ f => wordI 0x08 f
  | .tagseti _ f => wordI 0x0B f
  | .ldpc _ f => wordI 0x1C f
  | .tdisp _ f => wordI 0x23 f
  | _ => 0

/-- The predicate of a word. -/
def predOf (w : BitVec 32) : Pred := ⟨w.getLsbD 31, w.extractLsb' 28 3⟩
def rOf (w : BitVec 32) : RForm := ⟨predOf w, w.extractLsb' 17 5, w.extractLsb' 12 5, w.extractLsb' 7 5⟩
def xOf (w : BitVec 32) : XForm :=
  ⟨predOf w, w.extractLsb' 17 5, w.extractLsb' 12 5, w.extractLsb' 7 5, w.extractLsb' 0 4⟩
def iOf (w : BitVec 32) : IForm := ⟨predOf w, w.extractLsb' 17 5, w.extractLsb' 12 5, w.extractLsb' 0 12⟩
def mOf (w : BitVec 32) : MForm :=
  ⟨predOf w, w.extractLsb' 17 5, w.extractLsb' 12 5, w.extractLsb' 8 4, w.extractLsb' 0 8⟩
def bOf (w : BitVec 32) : BForm := ⟨predOf w, w.extractLsb' 0 22⟩

/-- The INT class (R98). -/
def decInt (k : CpId) (w : BitVec 32) : Option Instr :=
  match (w.extractLsb' 0 7).toNat with
  | 0x00 => some (.add k (rOf w))
  | 0x01 => some (.sub k (rOf w))
  | 0x02 => some (.and k (rOf w))
  | 0x03 => some (.or k (rOf w))
  | 0x04 => some (.xor k (rOf w))
  | 0x05 => some (.andn k (rOf w))
  | 0x06 => some (.sll k (rOf w))
  | 0x07 => some (.srl k (rOf w))
  | 0x08 => some (.sra k (rOf w))
  | 0x09 => some (.rol k (rOf w))
  | 0x0A => some (.min k (rOf w))
  | 0x0B => some (.max k (rOf w))
  | 0x0C => some (.minu k (rOf w))
  | 0x0D => some (.maxu k (rOf w))
  | 0x0E => some (.mov k (rOf w))
  | _ => none

/-- The CMP class (R98). -/
def decCmp (k : CpId) (w : BitVec 32) : Option Instr :=
  match (w.extractLsb' 0 7).toNat with
  | 0x00 => some (.cmpEq k (rOf w))
  | 0x01 => some (.cmpNe k (rOf w))
  | 0x02 => some (.cmpLt k (rOf w))
  | 0x03 => some (.cmpLe k (rOf w))
  | 0x04 => some (.cmpLtu k (rOf w))
  | 0x05 => some (.cmpLeu k (rOf w))
  | 0x06 => some (.cmpEqw k (rOf w))
  | _ => none

/-- The PRED class (R98). -/
def decPred (k : CpId) (w : BitVec 32) : Option Instr :=
  match (w.extractLsb' 0 7).toNat with
  | 0x00 => some (.pand k (rOf w))
  | 0x01 => some (.por k (rOf w))
  | 0x02 => some (.pxor k (rOf w))
  | 0x03 => some (.pandn k (rOf w))
  | 0x04 => some (.pnot k (rOf w))
  | 0x05 => some (.pset k (rOf w))
  | 0x06 => some (.pclr k (rOf w))
  | 0x08 => some (.prdg k (rOf w))
  | 0x09 => some (.pwrg k (rOf w))
  | _ => none

/-- The TAG class (R98). -/
def decTag (k : CpId) (w : BitVec 32) : Option Instr :=
  match (w.extractLsb' 0 7).toNat with
  | 0x00 => some (.tagget k (rOf w))
  | 0x01 => some (.tagset k (rOf w))
  | 0x02 => some (.tagchk k (rOf w))
  | 0x03 => some (.class k (rOf w))
  | _ => none

/-- The MUL class (R98). -/
def decMul (k : CpId) (w : BitVec 32) : Option Instr :=
  match (w.extractLsb' 0 7).toNat with
  | 0x00 => some (.mul k (rOf w))
  | 0x01 => some (.mulh k (rOf w))
  | 0x02 => some (.mulhu k (rOf w))
  | 0x03 => some (.mulhsu k (rOf w))
  | _ => none

/-- The IDIV class (R98). -/
def decIdiv (k : CpId) (w : BitVec 32) : Option Instr :=
  match (w.extractLsb' 0 7).toNat with
  | 0x00 => some (.dprep k (rOf w))
  | 0x01 => some (.dprepu k (rOf w))
  | 0x02 => some (.dstep k (rOf w))
  | 0x03 => some (.dquot k (rOf w))
  | 0x04 => some (.drem k (rOf w))
  | _ => none

/-- The FP64 class (R98). -/
def decFp64 (k : CpId) (w : BitVec 32) : Option Instr :=
  match (w.extractLsb' 0 7).toNat with
  | 0x00 => some (.fadd k false (rOf w))
  | 0x01 => some (.fsub k false (rOf w))
  | 0x02 => some (.fmul k false (rOf w))
  | 0x03 => some (.fmadd k false (rOf w))
  | 0x04 => some (.fmsub k false (rOf w))
  | 0x05 => some (.fnmadd k false (rOf w))
  | 0x06 => some (.fmin k false (rOf w))
  | 0x07 => some (.fmax k false (rOf w))
  | 0x08 => some (.fabs k false (rOf w))
  | 0x09 => some (.fneg k false (rOf w))
  | 0x0A => some (.fclass k false (rOf w))
  | 0x10 => some (.fcmpeq k false (rOf w))
  | 0x11 => some (.fcmplt k false (rOf w))
  | 0x12 => some (.fcmple k false (rOf w))
  | 0x13 => some (.fcmpun k false (rOf w))
  | _ => none

/-- The FP32 class (R98). -/
def decFp32 (k : CpId) (w : BitVec 32) : Option Instr :=
  match (w.extractLsb' 0 7).toNat with
  | 0x00 => some (.fadd k true (rOf w))
  | 0x01 => some (.fsub k true (rOf w))
  | 0x02 => some (.fmul k true (rOf w))
  | 0x03 => some (.fmadd k true (rOf w))
  | 0x04 => some (.fmsub k true (rOf w))
  | 0x05 => some (.fnmadd k true (rOf w))
  | 0x06 => some (.fmin k true (rOf w))
  | 0x07 => some (.fmax k true (rOf w))
  | 0x08 => some (.fabs k true (rOf w))
  | 0x09 => some (.fneg k true (rOf w))
  | 0x0A => some (.fclass k true (rOf w))
  | 0x10 => some (.fcmpeq k true (rOf w))
  | 0x11 => some (.fcmplt k true (rOf w))
  | 0x12 => some (.fcmple k true (rOf w))
  | 0x13 => some (.fcmpun k true (rOf w))
  | _ => none

/-- The FPSTEP class (R98). -/
def decFpstep (k : CpId) (w : BitVec 32) : Option Instr :=
  match (w.extractLsb' 0 7).toNat with
  | 0x00 => some (.fdinit k false (rOf w))
  | 0x10 => some (.fdinit k true (rOf w))
  | 0x01 => some (.fdstep k false (rOf w))
  | 0x11 => some (.fdstep k true (rOf w))
  | 0x02 => some (.fdfin k false (rOf w))
  | 0x12 => some (.fdfin k true (rOf w))
  | 0x04 => some (.fsqinit k false (rOf w))
  | 0x14 => some (.fsqinit k true (rOf w))
  | 0x05 => some (.fsqstep k false (rOf w))
  | 0x15 => some (.fsqstep k true (rOf w))
  | 0x06 => some (.fsqfin k false (rOf w))
  | 0x16 => some (.fsqfin k true (rOf w))
  | _ => none

/-- The DEC class (R98). -/
def decDec (k : CpId) (w : BitVec 32) : Option Instr :=
  match (w.extractLsb' 0 7).toNat with
  | 0x00 => some (.dadd k (rOf w))
  | 0x01 => some (.dsub k (rOf w))
  | 0x02 => some (.dcmp k (rOf w))
  | 0x03 => some (.dval k (rOf w))
  | _ => none

/-- The MEMX class (R98). -/
def decMemx (k : CpId) (w : BitVec 32) : Option Instr :=
  match (w.extractLsb' 4 3).toNat with
  | 0 => some (.ldw k false (.x (xOf w)))
  | 1 => some (.stw k (.x (xOf w)))
  | 2 => some (.ldb k (.x (xOf w)))
  | 3 => some (.ldbs k (.x (xOf w)))
  | 4 => some (.ldh k (.x (xOf w)))
  | 5 => some (.ldhs k (.x (xOf w)))
  | 6 => some (.stb k (.x (xOf w)))
  | 7 => some (.sth k (.x (xOf w)))
  | _ => none

/-- The JMP class (R98). -/
def decJmp (k : CpId) (w : BitVec 32) : Option Instr :=
  match (w.extractLsb' 0 7).toNat with
  | 0x00 => some (.jr k (rOf w))
  | 0x01 => some (.callr k (rOf w))
  | 0x02 => some (.ret k (rOf w))
  | _ => none

/-- The GEN class (R98). -/
def decGen (k : CpId) (w : BitVec 32) : Option Instr :=
  match (w.extractLsb' 0 7).toNat with
  | 0x00 => some (.gadd k (rOf w))
  | 0x01 => some (.gsub k (rOf w))
  | 0x02 => some (.gmul k (rOf w))
  | 0x03 => some (.gneg k (rOf w))
  | 0x04 => some (.gcmplt k (rOf w))
  | 0x05 => some (.gcmpeq k (rOf w))
  | _ => none

/-- The LIST class (R98). -/
def decList (k : CpId) (w : BitVec 32) : Option Instr :=
  match (w.extractLsb' 0 7).toNat with
  | 0x00 => some (.car k (rOf w))
  | 0x01 => some (.cdr k (rOf w))
  | 0x02 => some (.rplaca k (rOf w))
  | 0x03 => some (.rplacd k (rOf w))
  | 0x04 => some (.cons k (rOf w))
  | 0x05 => some (.assq k (rOf w))
  | 0x06 => some (.memq k (rOf w))
  | _ => none

/-- The ALLOC class (R98). -/
def decAlloc (k : CpId) (w : BitVec 32) : Option Instr :=
  match (w.extractLsb' 0 7).toNat with
  | 0x00 => some (.alloc k (rOf w))
  | 0x01 => some (.allocv k (rOf w))
  | _ => none

/-- The COL class (R98). -/
def decCol (k : CpId) (w : BitVec 32) : Option Instr :=
  match (w.extractLsb' 0 7).toNat with
  | 0x00 => some (.mark k (rOf w))
  | 0x01 => some (.scanw k (rOf w))
  | 0x02 => some (.colget k (rOf w))
  | 0x03 => some (.colset k (rOf w))
  | 0x04 => some (.fwdset k (rOf w))
  | _ => none

/-- The CAP class (R98). -/
def decCap (k : CpId) (w : BitVec 32) : Option Instr :=
  match (w.extractLsb' 0 7).toNat with
  | 0x00 => some (.cmov k (rOf w))
  | 0x01 => some (.cbnd k (rOf w))
  | 0x02 => some (.cperm k (rOf w))
  | 0x03 => some (.cseal k (rOf w))
  | 0x04 => some (.cunseal k (rOf w))
  | 0x05 => some (.cgetb k (rOf w))
  | 0x06 => some (.cgetl k (rOf w))
  | 0x07 => some (.cgetp k (rOf w))
  | 0x08 => some (.ctest k (rOf w))
  | 0x09 => some (.cclr k (rOf w))
  | _ => none

/-- The BLK class (R98). -/
def decBlk (k : CpId) (w : BitVec 32) : Option Instr :=
  match (w.extractLsb' 0 7).toNat with
  | 0x00 => some (.bcopy k (rOf w))
  | 0x01 => some (.bfill k (rOf w))
  | _ => none

/-- The RSTK class (R98). -/
def decRstk (k : CpId) (w : BitVec 32) : Option Instr :=
  match (w.extractLsb' 0 7).toNat with
  | 0x00 => some (.saveRs k (rOf w))
  | 0x01 => some (.loadRs k (rOf w))
  | 0x02 => some (.rsdepth k (rOf w))
  | _ => none

/-- The CHAN class (R98). -/
def decChan (k : CpId) (w : BitVec 32) : Option Instr :=
  match (w.extractLsb' 0 7).toNat with
  | 0x00 => some (.start k (rOf w))
  | _ => none

/-- The ATOM class (R98). -/
def decAtom (k : CpId) (w : BitVec 32) : Option Instr :=
  match (w.extractLsb' 4 3).toNat with
  | 0 => some (.casw k (xOf w))
  | 1 => some (.swpw k (xOf w))
  | 2 => some (.faddw k (xOf w))
  | _ => none

/-- The LINE class (R98). -/
def decLine (k : CpId) (w : BitVec 32) : Option Instr :=
  match (w.extractLsb' 4 3).toNat with
  | 0 => some (.pref k (xOf w))
  | 1 => some (.prefw k (xOf w))
  | 2 => some (.lzero k (xOf w))
  | 3 => some (.ccln k (xOf w))
  | 4 => some (.cfls k (xOf w))
  | _ => none

/-- The CVT class (R98). -/
def decCvt (k : CpId) (w : BitVec 32) : Option Instr :=
  match (w.extractLsb' 0 7).toNat with
  | 0x00 => some (.fcvtFixD k (rOf w))
  | 0x01 => some (.fcvtDFix k (rOf w))
  | 0x02 => some (.fcvtSD k (rOf w))
  | 0x03 => some (.fcvtDS k (rOf w))
  | 0x04 => some (.fcvtFixS k (rOf w))
  | 0x05 => some (.fcvtSFix k (rOf w))
  | _ => none

/-- The BIT class (R98). -/
def decBit (k : CpId) (w : BitVec 32) : Option Instr :=
  match (w.extractLsb' 0 7).toNat with
  | 0x00 => some (.clz k (rOf w))
  | 0x01 => some (.ctz k (rOf w))
  | 0x02 => some (.popc k (rOf w))
  | 0x03 => some (.brev k (rOf w))
  | 0x04 => some (.bswap k (rOf w))
  | _ => none

/-- The TIME class (R98). -/
def decTime (k : CpId) (w : BitVec 32) : Option Instr :=
  match (w.extractLsb' 0 7).toNat with
  | 0x00 => some (.rdtick k (rOf w))
  | 0x01 => some (.rdtime k (rOf w))
  | 0x02 => some (.rdcyc k (rOf w))
  | _ => none

/-- The PSX class (R98). -/
def decPsx (k : CpId) (w : BitVec 32) : Option Instr :=
  match (w.extractLsb' 0 7).toNat with
  | 0x00 => some (.rdps k (rOf w))
  | 0x01 => some (.wrps k (rOf w))
  | _ => none

/-- The SYS class (R98). -/
def decSys (k : CpId) (w : BitVec 32) : Option Instr :=
  match (w.extractLsb' 0 7).toNat with
  | 0x00 => some (.gate k (rOf w))
  | 0x01 => some (.gateF k (rOf w))
  | 0x02 => some (.gret k (rOf w))
  | 0x03 => if (rOf w).a.getLsbD 0 then some (.retfGate k (rOf w)) else some (.retfEvent k (rOf w))
  | 0x04 => some (.trap k (rOf w))
  | 0x05 => some (.tret k (rOf w))
  | 0x08 => some (.fence k (rOf w))
  | 0x09 => some (.fenceA k (rOf w))
  | 0x0A => some (.fenceI k (rOf w))
  | 0x10 => some (.cinvR k (rOf w))
  | 0x11 => some (.cclnR k (rOf w))
  | 0x12 => some (.cflsR k (rOf w))
  | 0x18 => some (.rdset k (rOf w))
  | 0x20 => some (.mfk k (rOf w))
  | 0x21 => some (.mtk k (rOf w))
  | 0x22 => some (.emset k (rOf w))
  | 0x23 => some (.emclr k (rOf w))
  | 0x24 => some (.wrpsk k (rOf w))
  | 0x28 => some (.wait k (rOf w))
  | _ => none

/-- R97: the instruction that a word spells for CP_k; none for a reserved major or an unlisted minor (R95). -/
def decodeRilel (k : CpId) (w : BitVec 32) : Option Instr :=
  match (w.extractLsb' 22 6).toNat with
  | 0x01 => decInt k w
  | 0x02 => some (.addi k (iOf w))
  | 0x03 => some (.andi k (iOf w))
  | 0x04 => some (.ori k (iOf w))
  | 0x05 => some (.xori k (iOf w))
  | 0x06 => some (.shi k (iOf w))
  | 0x07 => decCmp k w
  | 0x08 => some (.cmpi k (iOf w))
  | 0x09 => decPred k w
  | 0x0A => decTag k w
  | 0x0B => some (.tagseti k (iOf w))
  | 0x0C => decMul k w
  | 0x0D => decIdiv k w
  | 0x0E => decFp64 k w
  | 0x0F => decFp32 k w
  | 0x10 => decFpstep k w
  | 0x11 => decDec k w
  | 0x12 => some (.ldw k false (.m (mOf w)))
  | 0x13 => some (.stw k (.m (mOf w)))
  | 0x14 => some (.ldb k (.m (mOf w)))
  | 0x15 => some (.ldbs k (.m (mOf w)))
  | 0x16 => some (.ldh k (.m (mOf w)))
  | 0x17 => some (.ldhs k (.m (mOf w)))
  | 0x18 => some (.stb k (.m (mOf w)))
  | 0x19 => some (.sth k (.m (mOf w)))
  | 0x1A => some (.ldc k (mOf w))
  | 0x1B => some (.stc k (mOf w))
  | 0x1C => some (.ldpc k (iOf w))
  | 0x1D => decMemx k w
  | 0x1E => some (.br k (bOf w))
  | 0x1F => some (.call k (bOf w))
  | 0x20 => decJmp k w
  | 0x21 => decGen k w
  | 0x22 => decList k w
  | 0x23 => some (.tdisp k (iOf w))
  | 0x24 => decAlloc k w
  | 0x25 => decCol k w
  | 0x26 => decCap k w
  | 0x27 => decBlk k w
  | 0x28 => decRstk k w
  | 0x29 => decChan k w
  | 0x2A => decAtom k w
  | 0x2B => decLine k w
  | 0x2C => decCvt k w
  | 0x2D => decBit k w
  | 0x2E => decTime k w
  | 0x2F => decPsx k w
  | 0x3C => some (.customerInsn k (w.extractLsb' 0 7) (rOf w))
  | 0x3E => decSys k w
  | _ => none

/-- The command that a word of the opcode table spells. The table gives no row any bits, so there is none.
Assumption 3 (DEDUCED). -/
def decodeTableWord (_nbits _w : Nat) : Option Instr := none

end Sys2Proof
end

