-- ==== Sys2Proof/Machine/Operands.lean ====
section
/-!
DEFINITION. Operand forms of the Rilel instructions: register operands with the tags each accepts (R81, R99, R165),
capability operands (R190), effective addresses (R90, R101), and the bodies built over them.
-/

namespace Sys2Proof.Machine

/-- R81: g0 reads as FIX zero. -/
def CpRegs.gr (r : CpRegs) (i : BitVec 5) : TWord := if i = 0 then .ofFix 0 else r.g[i.toNat]

/-- R81: a write to g0 is discarded. -/
def CpRegs.setG (r : CpRegs) (i : BitVec 5) (w : TWord) : CpRegs := if i = 0 then r else { r with g := r.g.set i.toNat w }

/-- R89: a c register by the low 4 bits of its field. -/
def CpRegs.cr (r : CpRegs) (i : BitVec 5) : Cap := r.c[i.toNat % 16]
def CpRegs.setC (r : CpRegs) (i : BitVec 5) (c : Cap) : CpRegs := { r with c := r.c.set (i.toNat % 16) c }
/-- R89: a p register by the low 3 bits of its field. -/
def CpRegs.pr (r : CpRegs) (i : BitVec 5) : Bool := r.pred (i.toNat % 8)
def CpRegs.putP (r : CpRegs) (i : BitVec 5) (b : Bool) : CpRegs := r.setP (i.toNat % 8) b

/-- R79: an operand that is poisoned is consumed. -/
def unpoisoned (w : TWord) : Except Stop TWord := if w.poison then .error poisonReg else .ok w

/-- An operand of any tag. -/
def anyOp (r : CpRegs) (i : BitVec 5) : Except Stop TWord := unpoisoned (r.gr i)

/-- R99: an operand whose tag must pass a test; opnd names it in the cause. Assumption 12 (DEDUCED). -/
def tagOp (ok : BitVec 6 → Bool) (opnd : Nat) (r : CpRegs) (i : BitVec 5) : Except Stop TWord :=
  if ok (r.gr i).tag then unpoisoned (r.gr i) else .error (tagFault opnd)

def isNum (t : BitVec 6) : Bool := t == tagRAW || t == tagFIX
/-- RAW or FIX. -/
def numOp (opnd : Nat) (r : CpRegs) (i : BitVec 5) : Except Stop TWord := tagOp isNum opnd r i
/-- FLO or RAW. -/
def floOp (opnd : Nat) (r : CpRegs) (i : BitVec 5) : Except Stop TWord :=
  tagOp (fun t => t == tagFLO || t == tagRAW) opnd r i
/-- R165: RAW with bits 63:32 zero. -/
def floatOp (opnd : Nat) (r : CpRegs) (i : BitVec 5) : Except Stop TWord := do
  let w ← tagOp (fun t => t == tagRAW) opnd r i
  if bits w.data 63 32 ≠ 0 then .error illegalOperand else .ok w
/-- A base register: RAW, FIX, pointer class or CODE; ptr tells the pointer-class tags. -/
def baseOp (ptr : BitVec 6 → Bool) (opnd : Nat) (r : CpRegs) (i : BitVec 5) : Except Stop TWord :=
  tagOp (fun t => isNum t || ptr t || t == tagCODE) opnd r i
/-- The target of JR and CALLR: CODE, or TARGET_TAG. -/
def codeOp (r : CpRegs) (i : BitVec 5) : Except Stop TWord :=
  if (r.gr i).tag = tagCODE then unpoisoned (r.gr i) else .error (.mk 0x06 2 0 1)

/-- R99: FIX when every register operand is FIX, otherwise RAW. -/
def numTag (ws : List TWord) : BitVec 6 := if ws.all (·.tag == tagFIX) then tagFIX else tagRAW

/-- R99: type tags and data bits are both equal; collector bits are ignored. -/
def eqw (a b : TWord) : Bool := a.tag == b.tag && a.data == b.data

/-- R190: a c field that names c13 needs SYS authority. Assumption 12 (DEDUCED). -/
def c13Check (r : CpRegs) (is : List (BitVec 5)) : Except Stop Unit :=
  if is.any (fun i => i.toNat % 16 = 13) ∧ r.sys = false then .error (capFault 7) else .ok ()

/-- R110: SYS authority. -/
def needSys (r : CpRegs) : Except Stop Unit := if r.sys then .ok () else .error noSys

/-- R90: the sign-extended 12-bit immediate. -/
def sxImm (f : IForm) : Word := f.imm.signExtend 64
/-- R90: the sign-extended displacement of a branch, scaled by 4. -/
def brOffset (f : BForm) : Word := f.disp.signExtend 64 * 4

/-- What a load or store form names: base register, capability index, data register, index register if any. -/
def memD : MemForm → BitVec 5 | .m f => f.d | .x f => f.d
def memA : MemForm → BitVec 5 | .m f => f.a | .x f => f.a
def memCap : MemForm → BitVec 5 | .m f => f.ci.setWidth 5 | .x f => f.ci.setWidth 5
def memPr : MemForm → Pred | .m f => f.pr | .x f => f.pr

/-- R98, R101: the effective address of an access of the given size. -/
def memEa (f : MemForm) (ptr : BitVec 6 → Bool) (r : CpRegs) (size : Nat) : Except Stop Word :=
  match f with
  | .m f => do
    let a ← baseOp ptr 1 r f.a
    .ok (a.data + f.disp.signExtend 64 * BitVec.ofNat 64 size)
  | .x f => do
    let a ← baseOp ptr 1 r f.a
    let b ← numOp 2 r f.b
    .ok (a.data + b.data * BitVec.ofNat 64 size)

/-- The pointer-class test of CP_k's partition (R60). -/
def State.ptrClass (s : State) (k : CpId) (t : BitVec 6) : Bool := s.pointerTag (s.partOf k) t

/-- R284: a value that the follower of a pair takes from the leader's input log. -/
def State.logLoad (s : State) (k : CpId) (w : TWord) : State :=
  match s.pairOf k with
  | some n => { s with pairs := s.pairs.set n { s.pairs[n] with log := s.pairs[n].log ++ [.value w] } }
  | none => s

/-- R79: a poisoned register is consumed by an instruction that retires, so any other fault goes before.
Assumption 11 (DEDUCED). -/
def poisonLast {σ α : Type} (clean : σ → σ) (f : σ → Except Stop α) (x : σ) : Except Stop α :=
  match f x with
  | .ok a => .ok a
  | .error e =>
    if e = poisonReg then
      match f (clean x) with
      | .error (.fault g) => .error (.fault g)
      | .error .absent => .error .absent
      | _ => .error e
    else .error e

/-- The registers with no poison: what an instruction would do but for R79. Assumption 11 (DEDUCED). -/
def CpRegs.clean (r : CpRegs) : CpRegs := { r with g := r.g.map fun w => { w with poison := false } }
/-- The same of every CP. -/
def State.clean (s : State) : State := { s with cps := s.cps.map fun c => { c with regs := c.regs.clean } }

/-- The body of an instruction that works on registers alone. -/
def regBody (k : CpId) (f : CpRegs → Except Stop CpRegs) : Word → State → State × Option Stop :=
  fun _ s =>
    match poisonLast CpRegs.clean f (s.cr k) with
    | .ok r => (s.modRegs k fun _ => r, none)
    | .error e => (s, some e)

/-- The body of an instruction that acts on the state in one step. -/
def stateBody (f : Word → State → Except Stop State) : Word → State → State × Option Stop :=
  fun pc s =>
    match poisonLast State.clean (f pc) s with
    | .ok s' => (s', none)
    | .error e => (s, some e)

/-- An instruction of format R on registers alone. -/
def regInsn (s : State) (k : CpId) (i : Instr) (pr : Pred) (f : CpRegs → Except Stop CpRegs) :
    Host.Outcome State Fault Refusal :=
  s.retire k .plain (insnWord i) i.legal pr (regBody k f)

/-- A branch under R107. -/
def branchTo (r : CpRegs) (t : Word) : Except Stop CpRegs :=
  match targetCheck r.c[15] t with
  | some e => .error e
  | none => .ok { r with pc := t }

end Sys2Proof.Machine
end

