-- ==== Sys2Proof/Machine/Arrays.lean ====
section
/-!
DEFINITION. Errors in the arrays that hold tagged words (R58): caches, the RLB, register files, type-tag caches, the working
store of an engine and the staging buffers. A single-bit error is corrected; a double-bit error poisons the word.
-/

namespace Sys2Proof.Machine

/-- A g register becomes poisoned. -/
def State.poisonG (s : State) (k : CpId) (i : BitVec 5) : State :=
  s.modRegs k fun r => r.setG i { r.gr i with poison := true }

/-- A word of a type-tag cache line holds the tags of one data line: its eight words become poisoned (R266, R268). -/
def State.poisonTags (s : State) (n : Fin 4) (set way word : Nat) : State :=
  match ((s.tagCache[n]).set? 16 set).ways.getD way none with
  | some l => s.forEach (List.range 8) fun i s => s.poisonHbm (64 * (8 * l.la + word) + 8 * i)
  | none => s

/-- A doubleword of a staged payload becomes poisoned: payload number way of the unit's pool. -/
def State.poisonStaged (s : State) (u : UnitId) (way i : Nat) : State :=
  match (s.jn u).pool[way]? with
  | some p => if 8 * i < p.1.len then { s with mem := s.mem.setPoison (journalBase + p.1.doff + 8 * i) true } else s
  | none => s

/-- A double-bit error in an array: where no word stands there is none to poison. The working store holds no poison: the
engine faults (R338). Assumption 27 (DEDUCED). -/
def State.arrayBad (s : State) (c : ArrayRef) (set way word : Nat) : State :=
  match c with
  | .cache c => s.dataError c set way word true
  | .rlb t => s.modSite t fun x =>
      match (x.rlb.set? 8 set).ways.getD way none with
      | some l => { x with rlbBad := insNat x.rlbBad l.la }
      | none => x
  | .gfile k => s.poisonG k (BitVec.ofNat 5 set)
  | .tags n => s.poisonTags n set way word
  | .sram e => s.engineFault e .workStore 0 (s.eng e).seq.ctxNo
  | .staging u => s.poisonStaged u way (8 * set + word)

/-- A single-bit error is corrected in the array; caches count it (R257). The RLB has parity, which corrects nothing. -/
def State.arrayFixed (s : State) (c : ArrayRef) (set way word : Nat) : State :=
  match c with
  | .cache c => s.dataError c set way word false
  | .rlb _ => s.arrayBad c set way word
  | _ => s

/-- CACHE_DATA_ERROR (R58, R257). -/
def execCacheDataError (c : ArrayRef) (set : Nat) (way : Fin 16) (word : Fin 8) (double : Bool) (s : State) :
    Host.Outcome State Fault Refusal := .next (if double then s.arrayBad c set way word else s.arrayFixed c set way word)

end Sys2Proof.Machine
end

