-- ==== Sys2Proof/Machine/Microword.lean ====
section
/-!
DEFINITION. The microword, what a sequencer accepts (R222, R223), and microcode images (R237, R238, R240).
-/

namespace Sys2Proof.Machine

/-! The microword (R222, R223). -/

/-- The fields of a microword. -/
structure MW where
  clen : Nat
  safe : Bool
  seq : Nat
  cond : Nat
  next : Nat
  alu : Nat
  ra : Nat
  rb : Nat
  rd : Nat
  bsrc : Nat
  rd2 : Nat
  w2src : Nat
  mem : Nat
  mcap : Nat
  tagu : Nat
  crc : Nat
  adbus : Nat
  pval : Nat
  pmsk : Nat
  ctl : Nat
  loop : Nat
  waitev : Nat
  imm : Nat
  deriving DecidableEq, Repr

/-- R222: the places of the fields. -/
def MW.of (w : BitVec 160) : MW :=
  let f := fun hi lo => w.toNat / 2 ^ lo % 2 ^ (hi + 1 - lo)
  { clen := f 159 157, safe := f 156 156 == 1, seq := f 155 152, cond := f 151 147, next := f 146 133, alu := f 132 127
    ra := f 126 121, rb := f 120 115, rd := f 114 109, bsrc := f 108 107, rd2 := f 106 101, w2src := f 100 99
    mem := f 98 95, mcap := f 94 91, tagu := f 90 87, crc := f 86 84, adbus := f 83 82, pval := f 81 74, pmsk := f 73 66
    ctl := f 65 62, loop := f 61 60, waitev := f 59 56, imm := f 31 0 }

/-! What a sequencer accepts (R222, R223, R238). -/

/-- The sequencers: core sites, CE_A to CE_H, CE_T. -/
inductive SeqKind where
  | cp | ce | ceT
  deriving DecidableEq, Repr

/-- R222, R223: the microword is legal for a sequencer. Assumption 37 (DEDUCED). -/
def mwLegal (k : SeqKind) (x : BitVec 160) : Bool :=
  let w := MW.of x
  let cp := k == .cp
  let ct := k == .ceT
  let seqOk := w.seq ≤ 6 || (cp && w.seq == 7)
  let condOk := if cp then w.cond ≤ 23 && w.cond != 7 else w.cond ≤ 24 && w.cond != 5
  let memOk := if cp then w.mem ≤ 6 else w.mem == 0 || (8 ≤ w.mem && w.mem ≤ 0xB)
  let evOk := if cp then w.waitev == 0 || w.waitev == 1 || w.waitev == 3 else w.waitev ≤ 4
  seqOk && condOk && w.alu ≤ 0x11 && (w.w2src ≤ 2 || ct) && memOk && (if cp then w.tagu ≤ 4 else w.tagu == 0)
    && w.crc ≤ 4 && (ct || (w.adbus == 0 && w.pval == 0 && w.pmsk == 0)) && (w.ctl == 0 || (cp && w.ctl == 1))
    && w.loop ≤ 2 && evOk && x.toNat / 2 ^ 32 % 2 ^ 24 == 0

/-- The region of the control store that a KIND fills (R219, R237). -/
def kindRegion : Nat → Nat × Nat
  | 1 => (0, 0x3000)
  | 2 => (0x3000, 0x4000)
  | 3 => (0, 0x1800)
  | 4 => (0x1800, 0x2000)
  | _ => (0, 0)

/-- R240: a decode entry is accepted; with DWR no field is named a c field. -/
def cdtLegal (w : Word) : Bool :=
  let duse := bits w 51 50
  !bit w 63 || (decide (0x3000 ≤ bits w 13 0) && (!bit w 44 || ((duse == 1 || duse == 2) && bits w 49 48 != 3 && bits w 47 46 != 3))
    && !((bit w 44 || bit w 45) && duse == 0))

/-! Images (R237). -/

/-- n little-endian bytes at an offset. -/
def leAt (bs : List Byte) (off n : Nat) : Nat := leNat ((bs.drop off).take n)
/-- Every byte is zero. -/
def zeroBytes (bs : List Byte) : Bool := bs.all (· == 0)

/-- The length of a signature block (R491). -/
abbrev sigLen : Nat := 7352

/-- The bytes of the image that a header announces, with its signature block. -/
def mcLength (bs : List Byte) : Nat := 64 + 24 * leAt bs 0x0E 2 + 8 * leAt bs 0x10 2 + sigLen

/-- An image read by its header: none when the header or a record is not as R237 lays it out. -/
def mcParse (bs : List Byte) : Option McImage :=
  let count := leAt bs 0x0E 2
  let cdtCount := leAt bs 0x10 2
  let kind := leAt bs 4 2
  let part := leAt bs 0x16 1
  let cust := kind == 2 || kind == 4
  let recs := (List.range count).map fun i => (bs.drop (64 + 24 * i)).take 24
  let cdt := (List.range cdtCount).map fun i => BitVec.ofNat 64 (leAt bs (64 + 24 * count + 8 * i) 8)
  let ok := leAt bs 0 4 == 0x4D439600 && decide (1 ≤ kind ∧ kind ≤ 4) && leAt bs 6 2 == 0x00A1
    && cdtCount == (if kind = 2 then 64 else 0) && (kind == 4 || leAt bs 0x14 2 == 0) && leAt bs 0x14 2 < 512
    && (if cust then part ≤ 7 else part == 0xFF) && zeroBytes ((bs.drop 0x17).take 41)
    && recs.all fun r => leAt r 20 4 ≤ 1
  if decide (64 ≤ bs.length ∧ mcLength bs ≤ bs.length) && ok then
    some { kind := kind, serial := BitVec.ofNat 16 (leAt bs 0x12 2), base := BitVec.ofNat 14 (leAt bs 0x0C 2)
           words := recs.map fun r => (BitVec.ofNat 160 (leAt r 0 20), leAt r 20 1 == 1)
           cdt := cdt, engines := BitVec.ofNat 9 (leAt bs 0x14 2), part := part
           bytes := bs.take (mcLength bs - sigLen), block := (bs.drop (mcLength bs - sigLen)).take sigLen }
  else none

/-- R238 items 2 and 3: BASE and COUNT lie in the region, every microword and decode entry is accepted.
Assumption 37 (DEDUCED). -/
def McImage.fits (im : McImage) : Bool :=
  let r := kindRegion im.kind
  let base := leAt im.bytes 0x0C 2
  let seqs : List SeqKind :=
    if im.kind ≤ 2 then [.cp]
    else if im.kind = 3 then [.ce, .ceT]
    else (if im.engines.toNat % 256 = 0 then [] else [.ce]) ++ (if im.engines.getLsbD 8 then [.ceT] else [])
  decide (r.1 ≤ base ∧ base + im.words.length ≤ r.2) && seqs.all (fun k => im.words.all fun w => mwLegal k w.1)
    && im.cdt.all cdtLegal

end Sys2Proof.Machine
end

