-- ==== Sys2Proof/Machine/Nvram.lean ====
section
/-!
DEFINITION. The configuration store as a memory that wears (R517, R518) and the high-water records (R358, R359).
-/

namespace Sys2Proof.Machine

/-! Blocks (R518). -/

/-- The first spare block and the first block of the block map, which is not remapped. -/
abbrev spareBlock : Nat := 0x2100
abbrev mapBlock : Nat := 0x3E00

/-- The physical block behind a logical one. -/
def State.blockOf (s : State) (b : Nat) : Nat := alGet b s.nv.blkMap b
/-- The write count of a physical block. -/
def State.wearOf (s : State) (p : Nat) : Nat := alGet 0 s.nv.wear p
/-- A physical block that no logical block uses. -/
def State.blockSpare (s : State) (p : Nat) : Bool :=
  decide (p < mapBlock) && (decide (spareBlock ≤ p) || s.blockOf p != p) && !s.nv.blkMap.any fun e => e.2 == p

/-- The least-worn spare block, the lowest of several. -/
def State.bestSpare (s : State) : Option Nat :=
  ((List.range mapBlock).filter s.blockSpare).foldl
    (fun b p => match b with
      | none => some p
      | some q => if s.wearOf p < s.wearOf q then some p else some q) none

/-- One more write of a physical block. Assumption 65 (DEDUCED). -/
def State.wearOne (s : State) (p : Nat) : State :=
  { s with nv := { s.nv with wear := alIns s.nv.wear p (s.wearOf p + 1) } }

/-- A write of one logical block: a block worn 2^24 writes beyond the least-worn spare moves there. -/
def State.blockWrite (s : State) (b : Nat) : State :=
  let p := s.blockOf b
  let s := s.wearOne p
  if s.wearOf p ≤ 2 ^ 24 ∨ mapBlock ≤ b then s
  else
    match s.bestSpare with
    | some q =>
      if s.wearOf q + 2 ^ 24 < s.wearOf p then
        ({ s with nv := { s.nv with blkMap := alIns s.nv.blkMap b q } }).wearOne q |>.count (cDEV 21)
      else s
    | none => s

/-- A write of n bytes at a logical offset. Assumption 65 (DEDUCED). -/
def State.mramWrite (s : State) (off n : Nat) : State :=
  if n = 0 then s
  else s.forEach (List.range ((off + n - 1) / 4096 - off / 4096 + 1)) fun i s => s.blockWrite (off / 4096 + i)

/-- The places of R517. -/
abbrev nvEsfort : Nat := 0x0000000
abbrev nvImages : Nat := 0x0500000
abbrev nvRepair : Nat := 0x0600000
abbrev nvDirectory : Nat := 0x0680000
abbrev nvGenSlot (k : Nat) : Nat := 0x0700000 + 0x200000 * k
abbrev nvHwm (k : Nat) : Nat := 0x1100000 + 10240 * (k % 1536)

/-- Two copies of a table are written (R518). -/
def State.mramTwice (s : State) (off half n : Nat) : State := (s.mramWrite off n).mramWrite (off + half) n

/-! High-water records. -/

/-- The record of R358: the highest numbers committed and acknowledged, the epochs, the tick. Assumption 65 (DEDUCED). -/
def State.hwmNow (s : State) : Hwm where
  outs := (List.range 576).map fun i => seqPrev (s.oseq (i / 64) (i % 64))
  ins := (List.range 512).map fun i => s.ackedNo (portAt (i / 64)) (i % 64)
  epochs := (List.range 8).map fun u => s.fld (oPORT_STAT u) 47 32
  tick := s.tickNum

/-- HWM_PERSIST: a record goes to the next slot (R358). -/
def State.hwmPersist (s : State) : State :=
  let s := s.mramWrite (nvHwm s.nv.hwmCount) 10240
  let s := { s with nv := { s.nv with hwm := some s.hwmNow, hwmCount := s.nv.hwmCount + 1 } }
  s.setFld oJNL_HWM 63 16 s.tickNum

/-- HWM_PERSIST. -/
def execHwmPersist (s : State) : Host.Outcome State Fault Refusal :=
  .next (if s.fld oCFG_START 3 0 = 5 then s.hwmPersist else s)

/-- R359: the newest record is loaded at start-up and the spaces begin beyond it. -/
def State.hwmLoad (s : State) : State :=
  match s.nv.hwm with
  | some h =>
    let s := s.forEach (List.range 576) fun i s =>
      let v := h.outs.getD i 0
      (s.setFld (oJNL_PHWM_OUT (i / 64) (i % 64)) 47 0 v).setFld (oJNL_OSEQ (i / 64) (i % 64)) 47 0 ((v + 2 ^ 32) % 2 ^ 48)
    let s := s.forEach (List.range 512) fun i s =>
      let v := h.ins.getD i 0
      (s.setFld (oJNL_PHWM_IN (i / 64) (i % 64)) 47 0 v).setFld (oJNL_ISEQ (i / 64) (i % 64)) 47 0 (seqNext v)
    s.forEach (List.finRange 8) fun u s => s.newEpoch u ((h.epochs.getD u 0 + 1) % 65536)
  | none => s.forEach (List.finRange 8) fun u s => s.newEpoch u 1

end Sys2Proof.Machine
end

