-- ==== Sys2Proof/Machine/RegView.lean ====
section
/-!
DEFINITION. Who sees and who may write which register location: the access codes of R8 by initiator (R9, R479, R564), the
partition views (R478, R571, R572), and the value of a location as a reader finds it.
-/

namespace Sys2Proof.Machine

/-- CE_EPOWN: the partition that owns endpoint ep of unit u, 0xF none. -/
def State.epOwner (s : State) (u ep : Nat) : Nat :=
  s.fld (oCE_EPOWN u (ep / 16)) (4 * (ep % 16) + 3) (4 * (ep % 16))
/-- CIP_KOWN: the owner of a key slot. -/
def State.keyOwner (s : State) (slot : Nat) : Nat :=
  s.fld (oCIP_KOWN (slot / 16)) (4 * (slot % 16) + 3) (4 * (slot % 16))
/-- Partition n owns an endpoint of unit u. -/
def State.ownsUnit (s : State) (n u : Nat) : Bool := (List.range 64).any fun ep => s.epOwner u ep == n
/-- All owned endpoints of unit u belong to n. -/
def State.ownsUnitAlone (s : State) (n u : Nat) : Bool :=
  s.ownsUnit n u && (List.range 64).all fun ep => s.epOwner u ep == n || decide (8 ≤ s.epOwner u ep)

/-- Bits of a 64-bit map of endpoints that partition n owns. -/
def State.ownedMask (s : State) (n u : Nat) : Word :=
  BitVec.ofNat 64 ((List.range 64).foldl (fun m ep => if s.epOwner u ep = n then m + 2 ^ ep else m) 0)

/-- Sixteen 4-bit owner fields with those of other owners reading 0xF. -/
def filterOwners (n : Nat) (w : Word) : Word :=
  BitVec.ofNat 64 ((List.range 16).foldl
    (fun m j => m + (if bits w (4 * j + 3) (4 * j) = n then n else 0xF) * 2 ^ (4 * j)) 0)

/-- R539: CS_MCK shows the queue of the CP bound to the site. -/
def State.mckReg (s : State) (t : SiteId) : Word :=
  let st := s.fld (oCS_BIND t) 2 0
  if st = 2 then
    let c := s.cps[s.fld (oCS_BIND t) 11 8]'(Nat.mod_lt _ (by decide))
    let old := match c.mck with | (q, _) :: _ => q.toNat | [] => 0
    BitVec.ofNat 64 (old * 2 ^ 32 + c.mckOvf.toNat * 256 + c.mck.length)
  else 0

/-- PRT_CTL_n.EN. -/
def State.enabled (s : State) (n : Nat) : Bool := s.flag (oPRT_CTL n) 63
/-- PRT_L3MASK_n.WAYS, L3_CTL.SYSMASK. -/
def State.l3Ways (s : State) (n : Nat) : Nat := s.fld (oPRT_L3MASK n) 15 0
def State.sysMask (s : State) : Nat := s.fld oL3_CTL 31 16

/-- L3_SHARED: the ways of partition n overlap those of another enabled partition, or SYSMASK. -/
def State.l3Shared (s : State) (n : Nat) : Bool :=
  s.l3Ways n &&& s.sysMask != 0
    || (List.range 8).any fun m => m != n && s.enabled m && s.l3Ways n &&& s.l3Ways m != 0

/-- The partition uses engine e: it owns an endpoint of the unit or has a reservation there. Assumption 64 (DEDUCED). -/
def State.usesEngine (s : State) (n e : Nat) : Bool := s.ownsUnit n e || s.reg (oCE_RESV e n) != 0

/-- R483: the conditions of isolation, for partition n. Assumption 64 (DEDUCED). -/
def State.isolated (s : State) (n : Nat) : Bool :=
  s.enabled n && !s.l3Shared n && !s.flag oESF_STAT 11
    && ((List.range 9).all fun e => !s.usesEngine n e || s.flag (oCE_CTL e) 8
      || (List.range 8).all fun m => m == n || !s.enabled m || !s.usesEngine m e)
    && (List.range 8).all fun m => m == n || !s.enabled m
      || (s.fld (oCIP_PART n) 7 0 &&& s.fld (oCIP_PART m) 7 0 == 0
        && s.fld (oCMZ_PART n) 15 0 &&& s.fld (oCMZ_PART m) 15 0 == 0)

/-- PRT_STAT_n: the four bits that follow other registers (R469). -/
def State.prtStat (s : State) (n : Nat) : Word :=
  insBits (s.reg (oPRT_STAT n)) 11 8
    ((if s.flag oESF_STAT (12 + n) then 8 else 0) + (if s.flag oESF_STAT 11 then 4 else 0)
      + (if s.enabled n && s.l3Shared n then 2 else 0) + (if s.isolated n then 1 else 0))

/-- ESF_STAT: BACKOFF counts the seconds that are left down (R504). -/
def State.esfStat (s : State) : Word :=
  let b := s.fld oESF_STAT 47 32
  if b = 0 ∨ b = 0xFFFF then s.reg oESF_STAT
  else insBits (s.reg oESF_STAT) 47 32 (b - (s.now.toNat - s.esf.backoffAt.toNat) / 1000000000)

/-- CS_BIND: RETRY_WIN counts the retries of the last second (R276). -/
def State.bindReg (s : State) (t : SiteId) : Word :=
  insBits (s.reg (oCS_BIND t)) 31 24
    (min 255 (((s.site t).retryTimes.filter fun x => s.now.toNat < x.toNat + 1000000000).length))

/-- The stored or computed value of a location. -/
def State.liveReg (s : State) (off : Nat) : Word :=
  if 0x100000 ≤ off ∧ off < 0x240000 ∧ (off - 0x100000) % 0x10000 = 0x400 then
    s.mckReg ⟨(off - 0x100000) / 0x10000 % 20, Nat.mod_lt _ (by decide)⟩
  else if 0x100000 ≤ off ∧ off < 0x240000 ∧ (off - 0x100000) % 0x10000 = 0x300 then
    s.bindReg ⟨(off - 0x100000) / 0x10000 % 20, Nat.mod_lt _ (by decide)⟩
  else if inArr off (oPRT_STAT 0) 8 8 then s.prtStat ((off - oPRT_STAT 0) / 8)
  else if off = oESF_STAT then s.esfStat
  else s.reg off

/-- The value of a location as PF0 reads it: WO fields read zero (R8). -/
def State.readLoc (s : State) (off : Nat) : Word :=
  match regFields off with
  | none => 0
  | some fs => s.liveReg off &&& BitVec.ofNat 64 (accMask fs [.ro, .rw, .w1c, .w1s, .rwl, .rwk])

/-- R571: the ten registers of a view from 0x0_1000 on. -/
def viewTable (n : Nat) : List Nat :=
  [oPRT_CTL n, oPRT_STAT n, oPRT_TAGCLASS n, oPRT_RDT n, oPRT_L3MASK n, oPRT_CRING n, oPRT_CSTART n, oTCK_PART n,
   oCIP_PART n, oCMZ_PART n]

/-- R571: the PF0 offset behind a unit-window offset x of unit u. -/
def viewUnit (u x : Nat) : Option Nat :=
  if x < 0x1000 then some (oCE u x)
  else if x < 0x1100 then (if u < 8 then some (oPORT_CTL u + (x - 0x1000)) else none)
  else if x = 0x2000 then some (oJNL_PORT u)
  else if x = 0x2008 then some (oJNL_POOL u)
  else if x = 0x2010 then some (oJNL_STAT u)
  else if x = 0x2018 then some (oJNL_HOLD u)
  else if inArr x 0x2200 8 64 then some (oJNL_OSEQ u ((x - 0x2200) / 8))
  else if inArr x 0x2400 8 64 then (if u < 8 then some (oJNL_ISEQ u ((x - 0x2400) / 8)) else none)
  else if inArr x 0x2800 16 64 then some (oJNL_PHWM_OUT u ((x - 0x2800) / 16))
  else if inArr x 0x2808 16 64 then (if u < 8 then some (oJNL_PHWM_IN u ((x - 0x2808) / 16)) else none)
  else none

/-- R478, R571: the PF0 offset that view offset x of VF_n shows; none for a location that acts as reserved. -/
def State.viewLoc (s : State) (n : PartId) (x : Nat) : Option Nat :=
  let known := fun (o : Option Nat) => o.filter fun off => (regFields off).isSome
  if x % 8 ≠ 0 then none
  else if x = 0 then some (oPRT_DB n) else if x = 8 then some (oPCI_HNOTE n) else if x = 0x10 then some (oPRT_CRIDX n)
  else if x = 0x18 then some (oERR_PIDX n) else if x = 0x28 then some (oPCI_MSG n)
  else if inArr x 0x1000 8 10 then (viewTable n)[(x - 0x1000) / 8]?
  else if inArr x 0x1080 8 16 then some (oCIP_KOWN ((x - 0x1080) / 8))
  else if inArr x 0x1100 8 4 then some (oCIP_KLOAD ((x - 0x1100) / 8))
  else if inArr x 0x2040 8 5 then some (0x20000 + (x - 0x2000))
  else if 0x3000 ≤ x ∧ x < 0x3800 then some (0x74000 + 0x800 * n + (x - 0x3000))
  else if 0x10000 ≤ x ∧ x < 0x38000 then
    let t : SiteId := ⟨(x - 0x10000) / 0x2000 % 20, Nat.mod_lt _ (by decide)⟩
    let w := (x - 0x10000) % 0x2000
    if s.sitePart t = some n then
      known (if w < 0x1000 then some (oSITE t w) else if w < 0x1200 then some (oSITE t (0x8000 + (w - 0x1000))) else none)
    else none
  else if 0x40000 ≤ x ∧ x < 0x64000 then
    let u := (x - 0x40000) / 0x4000
    if s.ownsUnit n u then known (viewUnit u ((x - 0x40000) % 0x4000)) else none
  else if 0x80000 ≤ x ∧ x < 0x85000 then
    let t : SiteId := ⟨(x - 0x80000) / 0x400 % 20, Nat.mod_lt _ (by decide)⟩
    if s.sitePart t = some n then known (some (cSITE t 0 + (x - 0x80000) % 0x400)) else none
  else if 0x90000 ≤ x ∧ x < 0x91200 then
    let u := (x - 0x90000) / 0x200
    if s.ownsUnit n u then known (some (cUNIT u 0 + (x - 0x90000) % 0x200)) else none
  else if 0x92000 ≤ x ∧ x < 0x92080 then some (cPART n 0 + (x - 0x92000))
  else none

/-- R572: what VF_n reads of a location of a unit window: entries and bits of others read zero, owner fields 0xF. -/
def State.viewFilter (s : State) (n : PartId) (off : Nat) (w : Word) : Word :=
  if 0x280000 ≤ off ∧ off < 0x310000 then
    let u := (off - 0x280000) / 0x10000
    let x := (off - 0x280000) % 0x10000
    if inArr x 0x200 8 8 then (if (x - 0x200) / 8 = n.val then w else 0)
    else if inArr x 0x300 8 4 then filterOwners n w
    else if inArr x 0x800 8 64 then (if s.epOwner u ((x - 0x800) / 8) = n.val then w else 0)
    else w
  else if 0x3C0000 ≤ off ∧ off < 0x3D0000 then
    let x := off - 0x3C0000
    if inArr x 0x280 8 9 then w &&& s.ownedMask n ((x - 0x280) / 8)
    else if inArr x 0x1000 8 576 then (if s.epOwner ((x - 0x1000) / 0x200) ((x - 0x1000) / 8 % 64) = n.val then w else 0)
    else if inArr x 0x3000 8 512 then (if s.epOwner ((x - 0x3000) / 0x200) ((x - 0x3000) / 8 % 64) = n.val then w else 0)
    else if 0x4000 ≤ x then (if s.epOwner ((x - 0x4000) / 0x400) ((x - 0x4000) / 16 % 64) = n.val then w else 0)
    else w
  else if inArr off 0x3A0100 8 16 then filterOwners n w
  else if inArr off 0x3A0180 8 4 then
    let k := (off - 0x3A0180) / 8
    w &&& BitVec.ofNat 64 ((List.range 64).foldl
      (fun m i => if s.keyOwner (64 * k + i) = n.val then m + 2 ^ i else m) 0)
  else w

/-- R478, R479: the bits of a location that partition n may write: from its VF, or from a CP; what PCI_MSG_n does
decides for itself (R557). -/
def State.viewMask (s : State) (n : PartId) (byCp : Bool) (off : Nat) : Word :=
  let fs := (regFields off).getD []
  let w1c := BitVec.ofNat 64 (accMask fs [.w1c])
  let all := BitVec.ofNat 64 (definedMask fs)
  if off = oPRT_DB n then all
  else if off = oPCI_HNOTE n then all
  else if off = oPRT_CRIDX n then BitVec.ofNat 64 (fmask 63 32)
  else if off = oERR_PIDX n then BitVec.ofNat 64 (fmask 63 48 ||| fmask 31 16)
  else if off = oPCI_MSG n then all
  else if off = oTCK_PART n then (if byCp then BitVec.ofNat 64 (fmask 63 63) else 0)
  else if 0x100000 ≤ off ∧ off < 0x240000 then w1c
  else if 0x280000 ≤ off ∧ off < 0x310000 then
    let u := (off - 0x280000) / 0x10000
    if (off - 0x280000) % 0x10000 = 0x10 then all else if s.ownsUnitAlone n u then w1c else 0
  else if 0x310000 ≤ off ∧ off < 0x390000 then
    if s.ownsUnitAlone n ((off - 0x310000) / 0x10000) then w1c else 0
  else if inArr off 0x3C0200 8 9 then (if s.ownsUnitAlone n ((off - 0x3C0200) / 8) then w1c else 0)
  else if inArr off 0x3C0280 8 9 then s.ownedMask n ((off - 0x3C0280) / 8)
  else if 0x400000 ≤ off ∧ off < 0x410000 then all
  else if 0x430000 ≤ off ∧ off < 0x440000 then
    if s.ownsUnitAlone n ((off - 0x430000) / 0x200) then all else 0
  else if 0x460000 ≤ off ∧ off < 0x470000 then all
  else 0

/-- R8, R564: the bits of a location that an initiator's access rights let it write: PF0 and the Lockkeeper by the access
code, a partition by the mask of R478 and R479. -/
def State.allowMask (s : State) (i : Initiator) (off : Nat) : Word :=
  let fs := (regFields off).getD []
  let codes : List Acc := match i with
    | .pf0 => [.rw, .w1c, .w1s, .wo, .rwk] ++ (if s.fld oCFG_STAT 2 0 = 5 then [Acc.rwl] else [])
    | _ => [.rw, .w1c, .w1s, .wo, .rwk]
  let mask := BitVec.ofNat 64 (accMask fs codes)
  match i with
  | .vf n => mask &&& s.viewMask n false off
  | .cp k =>
    match s.partOf k with
    | some n => mask &&& s.viewMask n true off
    | none => 0
  | .doe => 0
  | _ => mask

/-- R8, R10, R12: the new value of a location. -/
def writeValue (fs : List Fld) (allow old v : Word) : Word :=
  let m := fun (a : List Acc) => BitVec.ofNat 64 (accMask fs a) &&& allow
  let plain := m [.rw, .rwl, .rwk]
  (((old &&& ~~~plain) ||| (v &&& plain)) &&& ~~~(v &&& m [.w1c])) ||| (v &&& m [.w1s])

/-- R9, R11, R480: a write that must leave an access record: a non-zero reserved bit, or a refused field whose current value
cur, as the writer sees it, differs. For a virtual function and a CP a read-only field is one that R478 and R479 do not let
them write. -/
def writeRefused (fs : List Fld) (allow cur v : Word) (viaView : Bool) : Bool :=
  let codes : List Acc := [.rw, .w1c, .w1s, .wo, .rwl, .rwk] ++ if viaView then [Acc.ro] else []
  let fields := BitVec.ofNat 64 (accMask fs codes)
  let reserved := ~~~(BitVec.ofNat 64 (definedMask fs))
  v &&& reserved != 0 || (v ^^^ cur) &&& (fields &&& ~~~allow) != 0

/-- An initiator reaches registers through the view of a partition. -/
def viaView : Initiator → Bool
  | .vf _ => true
  | .cp _ => true
  | _ => false

/-- The value of a location as an initiator sees it (R478, R572). -/
def State.seenBy (s : State) (i : Initiator) (off : Nat) : Word :=
  match i with
  | .vf n => s.viewFilter n off (s.readLoc off)
  | .cp k => (match s.partOf k with | some n => s.viewFilter n off (s.readLoc off) | none => s.readLoc off)
  | _ => s.readLoc off

end Sys2Proof.Machine
end

