-- ==== Sys2Proof/Machine/Reset.lean ====
section
/-!
DEFINITION. RST_L and VDD_AUX (R507, R566, R581): what a reset of every domain but the always-on domain leaves, and what loss
of VDD_AUX takes.
-/

namespace Sys2Proof.Machine

/-- A location of the ESF block. -/
def isEsf (off : Nat) : Bool := decide (0x40000 ≤ off ∧ off < 0x50000)

/-- R507, R566: every domain but the always-on domain is reset. The ESF block, Esfort, what is kept without power and the
heartbeat stay; READY falls; a back-off in progress is restated against the restarted TCK_TIME; the Towpath lands go to high impedance (R447). Assumption 83 (DEDUCED). -/
def State.resetDomains (s : State) : State :=
  let left := bits s.esfStat 47 32
  let unit := s.fld oTWN_STAT 5 5
  let role := if s.rstL && s.pwrok && !s.pwr.emergency then s.fld oTWN_STAT 3 0 else s.twin.lastRole
  let r : State := { State.reset with
    pending := s.pending
    freeCtr := s.freeCtr
    out := if s.fld oCFG_START 3 0 = 5 then .pin "READY" false :: s.out else s.out
    resp := s.resp
    regs := s.regs.filter fun e => isEsf e.1
    mem := s.mem
    nv := s.nv
    esf := { s.esf with backoffAt := 0 }
    auxOn := s.auxOn
    pwrok := s.pwrok
    smbAddr := s.smbAddr
    twin := { TwinUnit.reset with deviceFail := s.twin.deviceFail, lastRole := role } }
  ((r.setFld oESF_STAT 47 32 left).setFld oTWN_STAT 5 5 unit).landsFrom s

/-- RESET_ASSERT: RST_L falls. -/
def State.rstFalls (s : State) : State := if s.rstL then s.resetDomains else s

/-- RESET_ASSERT (R507). -/
def execResetAssert (s : State) : Host.Outcome State Fault Refusal := .next s.rstFalls

/-- Esfort and the heartbeat lose their state with VDD_AUX; challenges are never repeated. -/
def State.auxLost (s : State) : State :=
  let r := s.resetDomains
  { r with
    regs := []
    esf := { EsfUnit.reset with chalCount := s.esf.chalCount }
    twin := TwinUnit.reset
    smbAddr := 0
    auxOn := false }

/-- AUX_POWER_LOSS (R581). -/
def execAuxPowerLoss (s : State) : Host.Outcome State Fault Refusal := .next s.auxLost

/-- The fuse fields of the ESF block and the minima that Esfort keeps (R493, R567). -/
def State.esfFuses (s : State) : State :=
  let v := fun (i : Nat) => s.nv.svn.toList.getD i 0
  (s.setFld oESF_STAT 3 0 s.nv.lifecycle).setReg oESF_SVN
    (BitVec.ofNat 64 (v 0 % 65536 + v 1 % 65536 * 2 ^ 16 + v 2 % 65536 * 2 ^ 32 + v 3 % 65536 * 2 ^ 48))

/-- AUX_POWER_UP: the ESF block is reset (R566). -/
def State.auxUp (s : State) : State := if s.auxOn then s else ({ s with auxOn := true }).esfFuses

/-- AUX_POWER_UP (R566). -/
def execAuxPowerUp (s : State) : Host.Outcome State Fault Refusal := .next s.auxUp

/-- PWROK_EDGE (R581): PWROK changes while RST_L is low. -/
def execPwrokEdge (level : Bool) (s : State) : Host.Outcome State Fault Refusal :=
  .next (if s.rstL then s else { s with pwrok := level })

end Sys2Proof.Machine
end

