-- ==== Sys2Proof/Machine/Aes.lean ====
section
/-!
DEFINITION. The block cipher and its modes (R398 to R404): AES-128 and AES-256 of FIPS 197, XTS of IEEE 1619, CBC, CTR,
CFB-128 and OFB of SP 800-38A, GCM of SP 800-38D with a 96-bit IV, and the segmented GCM format.
-/

namespace Sys2Proof.Machine

/-! The field GF(2^8) and the S-box. -/

/-- Multiplication by x. -/
def xtime (a : Byte) : Byte := (a <<< 1) ^^^ (if a.getLsbD 7 then 0x1B else 0)
/-- Multiplication. -/
def gfMul (a b : Byte) : Byte :=
  ((List.range 8).foldl (fun (p : Byte × Byte) i => (if b.getLsbD i then p.1 ^^^ p.2 else p.1, xtime p.2)) (0, a)).1
/-- Squaring n times. -/
def gfSq (a : Byte) : Nat → Byte
  | 0 => a
  | n + 1 => gfSq (gfMul a a) n
/-- The inverse, a^254; 0 for 0. -/
def gfInv (a : Byte) : Byte := (List.range 7).foldl (fun r i => gfMul r (gfSq a (i + 1))) 1
/-- SubBytes of one byte. -/
def sbox (a : Byte) : Byte :=
  let b := gfInv a
  b ^^^ b.rotateLeft 1 ^^^ b.rotateLeft 2 ^^^ b.rotateLeft 3 ^^^ b.rotateLeft 4 ^^^ 0x63
/-- InvSubBytes of one byte. -/
def invSbox (a : Byte) : Byte := gfInv (a.rotateLeft 1 ^^^ a.rotateLeft 3 ^^^ a.rotateLeft 6 ^^^ 0x05)

/-- Bytes of two lists combined. -/
def xorBytes (a b : List Byte) : List Byte := List.zipWith (· ^^^ ·) a b

/-! The cipher. A block is 16 bytes in the order of FIPS 197. -/

/-- Words of the key schedule, newest first. -/
def keyWords (nk : Nat) : Nat → Byte → List (List Byte) → List (List Byte)
  | 0, _, ws => ws
  | n + 1, rcon, ws =>
    let i := ws.length
    let t := ws.headD []
    let t' :=
      if i % nk = 0 then
        match (t.drop 1 ++ t.take 1).map sbox with
        | a :: r => (a ^^^ rcon) :: r
        | [] => []
      else if 6 < nk ∧ i % nk = 4 then t.map sbox else t
    keyWords nk n (if i % nk = 0 then xtime rcon else rcon) (xorBytes (ws.getD (nk - 1) []) t' :: ws)

/-- The round keys of a key of 16 or 32 bytes. -/
def roundKeys (key : List Byte) : List (List Byte) :=
  let nk := key.length / 4
  let w0 := ((List.range nk).map fun i => (key.drop (4 * i)).take 4).reverse
  let ws := (keyWords nk (4 * (nk + 7) - nk) 1 w0).reverse.flatten
  (List.range (nk + 7)).map fun i => (ws.drop (16 * i)).take 16

/-- ShiftRows, and its inverse: byte i comes from the position given. -/
def shiftRows (b : List Byte) : List Byte := (List.range 16).map fun i => b.getD ((i + 4 * (i % 4)) % 16) 0
def invShiftRows (b : List Byte) : List Byte := (List.range 16).map fun i => b.getD ((i + 12 * (i % 4)) % 16) 0

/-- A column matrix applied to every column: byte r of a column is the sum of m[(c - r) mod 4] times byte c. -/
def mixWith (m : List Byte) (b : List Byte) : List Byte :=
  (List.range 16).map fun i =>
    (List.range 4).foldl (fun acc c => acc ^^^ gfMul (m.getD ((c + 4 - i % 4) % 4) 0) (b.getD (4 * (i / 4) + c) 0)) 0
def mixColumns (b : List Byte) : List Byte := mixWith [2, 3, 1, 1] b
def invMixColumns (b : List Byte) : List Byte := mixWith [14, 11, 13, 9] b

/-- Encryption of a block under round keys. -/
def encRounds : List (List Byte) → List Byte → List Byte
  | [], b => b
  | [k], b => xorBytes (shiftRows (b.map sbox)) k
  | k :: t, b => encRounds t (xorBytes (mixColumns (shiftRows (b.map sbox))) k)
def aesEnc (ks : List (List Byte)) (b : List Byte) : List Byte :=
  match ks with
  | k :: t => encRounds t (xorBytes b k)
  | [] => b

/-- Decryption of a block: the round keys in reverse order. -/
def decRounds : List (List Byte) → List Byte → List Byte
  | [], b => b
  | [k], b => xorBytes ((invShiftRows b).map invSbox) k
  | k :: t, b => decRounds t (invMixColumns (xorBytes ((invShiftRows b).map invSbox) k))
def aesDec (ks : List (List Byte)) (b : List Byte) : List Byte :=
  match ks.reverse with
  | k :: t => decRounds t (xorBytes b k)
  | [] => b

/-! Blocks of a message. -/

/-- The i-th block of 16 bytes, the last one shorter. -/
def chunk (n : Nat) (bs : List Byte) : List (List Byte) := (List.range ((bs.length + n - 1) / n)).map fun i => (bs.drop (n * i)).take n

/-- A block as a big-endian number, and back. -/
def beNat (bs : List Byte) : Nat := bs.foldl (fun a b => a * 256 + b.toNat) 0
def beBytes (n v : Nat) : List Byte := (leBytes n v).reverse

/-! CBC, CFB-128, OFB, CTR. -/

def cbcEnc (ks : List (List Byte)) (iv : List Byte) : List (List Byte) → List Byte
  | [] => []
  | b :: t => let c := aesEnc ks (xorBytes b iv); c ++ cbcEnc ks c t
def cbcDec (ks : List (List Byte)) (iv : List Byte) : List (List Byte) → List Byte
  | [] => []
  | b :: t => xorBytes (aesDec ks b) iv ++ cbcDec ks b t
def cfbEnc (ks : List (List Byte)) (iv : List Byte) : List (List Byte) → List Byte
  | [] => []
  | b :: t => let c := xorBytes b (aesEnc ks iv); c ++ cfbEnc ks c t
def cfbDec (ks : List (List Byte)) (iv : List Byte) : List (List Byte) → List Byte
  | [] => []
  | b :: t => xorBytes b (aesEnc ks iv) ++ cfbDec ks b t
def ofb (ks : List (List Byte)) (iv : List Byte) : List (List Byte) → List Byte
  | [] => []
  | b :: t => let o := aesEnc ks iv; xorBytes b o ++ ofb ks o t

/-- R402: the counter block i steps on: the last w bits count modulo 2^w. -/
def ctrBlock (iv : List Byte) (w i : Nat) : List Byte :=
  let v := beNat iv
  beBytes 16 (v / 2 ^ w * 2 ^ w + (v % 2 ^ w + i) % 2 ^ w)
def ctr (ks : List (List Byte)) (iv : List Byte) (w : Nat) (bs : List Byte) : List Byte :=
  (((chunk 16 bs).zipIdx).map fun p => xorBytes p.1 (aesEnc ks (ctrBlock iv w p.2))).flatten

/-! XTS (R400). -/

/-- The tweak times x: the block as a little-endian polynomial. -/
def xtsDouble (t : List Byte) : List Byte :=
  let v := leNat t
  leBytes 16 ((v * 2) % 2 ^ 128 ^^^ (if 2 ^ 127 ≤ v then 0x87 else 0))
def xtsTweak (t : List Byte) : Nat → List Byte
  | 0 => t
  | n + 1 => xtsTweak (xtsDouble t) n
/-- One block under a tweak. -/
def xtsBlock (f : List Byte → List Byte) (t b : List Byte) : List Byte := xorBytes (f (xorBytes b t)) t

/-- One data unit with ciphertext stealing. -/
def xtsUnit (k1 k2 : List (List Byte)) (enc : Bool) (num : Nat) (bs : List Byte) : List Byte :=
  let t0 := aesEnc k2 (leBytes 16 (num % 2 ^ 128))
  let f := if enc then aesEnc k1 else aesDec k1
  let m := bs.length / 16
  let r := bs.length % 16
  let full := fun (n : Nat) => ((List.range n).map fun i => xtsBlock f (xtsTweak t0 i) ((bs.drop (16 * i)).take 16)).flatten
  if r = 0 then full m
  else
    let a := (bs.drop (16 * (m - 1))).take 16
    let p := bs.drop (16 * m)
    let (ta, tb) := if enc then (xtsTweak t0 (m - 1), xtsTweak t0 m) else (xtsTweak t0 m, xtsTweak t0 (m - 1))
    let cc := xtsBlock f ta a
    full (m - 1) ++ xtsBlock f tb (p ++ cc.drop r) ++ cc.take r

/-- A message in data units. -/
def xts (key : List Byte) (enc : Bool) (num dulen : Nat) (bs : List Byte) : List Byte :=
  let h := key.length / 2
  let k1 := roundKeys (key.take h)
  let k2 := roundKeys (key.drop h)
  (((chunk dulen bs).zipIdx).map fun p => xtsUnit k1 k2 enc (num + p.2) p.1).flatten

/-! GCM (R403, R404). -/

/-- Multiplication in GF(2^128), bits as SP 800-38D numbers them: bit 0 is the most significant bit of byte 0. -/
def ghMul (x y : BitVec 128) : BitVec 128 :=
  ((List.range 128).foldl (fun (p : BitVec 128 × BitVec 128) i =>
    (if x.getMsbD i then p.1 ^^^ p.2 else p.1,
     (p.2 >>> 1) ^^^ (if p.2.getLsbD 0 then 0xE1000000000000000000000000000000 else 0))) (0, y)).1

/-- A short block filled with zeros. -/
def pad16 (b : List Byte) : List Byte := b ++ List.replicate ((16 - b.length % 16) % 16) 0

def ghash (h : BitVec 128) (bs : List Byte) : BitVec 128 :=
  (chunk 16 bs).foldl (fun y b => ghMul (y ^^^ BitVec.ofNat 128 (beNat b)) h) 0

/-- The tag of a ciphertext. -/
def gcmTag (ks : List (List Byte)) (iv aad ct : List Byte) : List Byte :=
  let h := BitVec.ofNat 128 (beNat (aesEnc ks (List.replicate 16 0)))
  let s := ghash h (pad16 aad ++ pad16 ct ++ beBytes 8 (8 * aad.length) ++ beBytes 8 (8 * ct.length))
  xorBytes (beBytes 16 s.toNat) (aesEnc ks (iv ++ [0, 0, 0, 1]))
/-- Encryption or decryption of the text. -/
def gcmText (ks : List (List Byte)) (iv bs : List Byte) : List Byte := ctr ks (iv ++ [0, 0, 0, 2]) 32 bs

def gcmEnc (ks : List (List Byte)) (iv aad pt : List Byte) : List Byte :=
  let ct := gcmText ks iv pt
  ct ++ gcmTag ks iv aad ct
/-- Decryption: the plaintext and whether the tag verifies. -/
def gcmDec (ks : List (List Byte)) (iv aad bs : List Byte) : List Byte × Bool :=
  let ct := bs.take (bs.length - 16)
  (gcmText ks iv ct, gcmTag ks iv aad ct == bs.drop (bs.length - 16))

/-- R404: IV and AAD of segment i. -/
def segIv (iv : List Byte) (i : Nat) : List Byte := iv.take 8 ++ xorBytes (iv.drop 8) (beBytes 4 i)
def segAad (aad : List Byte) (i : Nat) (last : Bool) : List Byte := aad ++ beBytes 4 i ++ [if last then 1 else 0, 0, 0, 0]

/-- Segments of a message: with the message still open, the last one is kept back. -/
def segEnc (ks : List (List Byte)) (iv aad : List Byte) (n : Nat) (final : Bool) (pt : List Byte) : List Byte :=
  let cs := chunk n pt
  let go := if final then cs else cs.dropLast
  ((go.zipIdx).map fun p => gcmEnc ks (segIv iv p.2) (segAad aad p.2 (final && p.2 + 1 == cs.length)) p.1).flatten

/-- Segments decrypted one after another until a tag fails. -/
def segDecFrom (ks : List (List Byte)) (iv aad : List Byte) (final : Bool) (i : Nat) : List (List Byte) → List Byte × Bool
  | [] => ([], true)
  | c :: t =>
    let r := gcmDec ks (segIv iv i) (segAad aad i (final && t.isEmpty)) c
    if 16 ≤ c.length ∧ r.2 = true then
      let q := segDecFrom ks iv aad final (i + 1) t
      (r.1 ++ q.1, q.2)
    else ([], false)
def segDec (ks : List (List Byte)) (iv aad : List Byte) (n : Nat) (final : Bool) (bs : List Byte) : List Byte × Bool :=
  segDecFrom ks iv aad final 0 (chunk (n + 16) bs)

end Sys2Proof.Machine
end

