-- ==== Sys2Proof/Machine/Deflate.lean ====
section
/-!
DEFINITION. DEFLATE, zlib and gzip (R408 to R412): inflating a stream with its checks (RFC 1951, 1950, 1952), and stored
blocks.
-/

namespace Sys2Proof.Machine

/-! Bits of a byte stream: bit i is bit i mod 8 of byte i / 8. -/

/-- A reader: the bytes as one array, and the next bit. -/
structure BitSrc where
  data : Array Byte
  pos : Nat

/-- How inflating ends: the stream is complete, or the input ends before it does, or it breaks a rule. -/
inductive InfEnd where
  | done
  | more
  | badBlock
  deriving DecidableEq, Repr

/-- n bits, least significant first; none when the input ends. -/
def BitSrc.bits (b : BitSrc) (n : Nat) : Option (Nat × BitSrc) :=
  if b.pos + n ≤ 8 * b.data.size then
    some ((List.range n).foldl (fun v i =>
      let p := b.pos + i
      if (b.data.getD (p / 8) 0).getLsbD (p % 8) then v + 2 ^ i else v) 0, { b with pos := b.pos + n })
  else none

/-- The next byte boundary. -/
def BitSrc.align (b : BitSrc) : BitSrc := { b with pos := (b.pos + 7) / 8 * 8 }

/-! Huffman codes: symbol counts by length, and symbols in the order of code values. -/

/-- A canonical code. -/
structure Huff where
  counts : List Nat
  syms : Array Nat

/-- The code of a list of lengths. -/
def Huff.ofLengths (ls : List Nat) : Huff :=
  let byLen := fun n => (ls.zipIdx).filterMap fun p => if p.1 = n then some p.2 else none
  ⟨(List.range 15).map fun i => ls.countP (· == i + 1), ((List.range 15).map fun i => byLen (i + 1)).flatten.toArray⟩

/-- A code is complete, or (where one code is enough) a single code of one bit. -/
def Huff.ok (h : Huff) (one : Bool) : Bool :=
  let used := (h.counts.zipIdx).foldl (fun a p => a + p.1 * 2 ^ (14 - p.2)) 0
  used == 2 ^ 15 || (one && (h.syms.size == 0 || (h.syms.size == 1 && h.counts.headD 0 == 1)))

/-- Decode one symbol: the code so far, the first code of this length, the symbols before it. -/
def Huff.go (h : Huff) (b : BitSrc) : List Nat → Nat → Nat → Nat → Except InfEnd (Nat × BitSrc)
  | [], _, _, _ => .error .badBlock
  | c :: t, code, first, idx =>
    match b.bits 1 with
    | none => .error .more
    | some (v, b) =>
      let code := 2 * code + v
      if code < first + c then .ok (h.syms.getD (idx + (code - first)) 0, b) else h.go b t code (2 * (first + c)) (idx + c)
def Huff.decode (h : Huff) (b : BitSrc) : Except InfEnd (Nat × BitSrc) := h.go b h.counts 0 0 0

/-- The fixed codes. -/
def fixedLit : Huff :=
  Huff.ofLengths (List.replicate 144 8 ++ List.replicate 112 9 ++ List.replicate 24 7 ++ List.replicate 8 8)
def fixedDist : Huff := Huff.ofLengths (List.replicate 30 5)

/-- Base and extra bits of a length code 257 to 285 and of a distance code 0 to 29. -/
def lenCode (k : Nat) : Nat × Nat :=
  if k = 28 then (258, 0) else if k < 8 then (k + 3, 0) else let e := k / 4 - 1; ((4 + k % 4) * 2 ^ e + 3, e)
def distCode (k : Nat) : Nat × Nat := if k < 4 then (k + 1, 0) else let e := k / 2 - 1; ((2 + k % 2) * 2 ^ e + 1, e)

/-- Copy a match: byte by byte from the distance given. -/
def copyMatch (out : Array Byte) (dist : Nat) : Nat → Array Byte
  | 0 => out
  | n + 1 => copyMatch (out.push (out.getD (out.size - dist) 0)) dist n

/-- n bits, or the end of input. -/
def BitSrc.need (b : BitSrc) (n : Nat) : Except InfEnd (Nat × BitSrc) :=
  match b.bits n with
  | some r => .ok r
  | none => .error .more

/-- The symbols of a compressed block. The output so far comes back with the end reached. -/
def infSyms (lit dist : Huff) : Nat → BitSrc → Array Byte → Array Byte × Except InfEnd BitSrc
  | 0, _, out => (out, .error .more)
  | fuel + 1, b, out =>
    match lit.decode b with
    | .error e => (out, .error e)
    | .ok (s, b) =>
      if s < 256 then infSyms lit dist fuel b (out.push (BitVec.ofNat 8 s))
      else if s = 256 then (out, .ok b)
      else if 285 < s then (out, .error .badBlock)
      else
        let r : Except InfEnd (Nat × Nat × BitSrc) := do
          let (base, ex) := lenCode (s - 257)
          let (x, b) ← b.need ex
          let (d, b) ← dist.decode b
          if 29 < d then .error .badBlock
          else
            let (db, dx) := distCode d
            let (y, b) ← b.need dx
            .ok (base + x, db + y, b)
        match r with
        | .error e => (out, .error e)
        | .ok (n, d, b) => if out.size < d then (out, .error .badBlock) else infSyms lit dist fuel b (copyMatch out d n)

/-- Code lengths of a dynamic block, newest first. -/
def infLengths (h : Huff) (total : Nat) : Nat → BitSrc → List Nat → Except InfEnd (List Nat × BitSrc)
  | 0, b, ls => .ok (ls, b)
  | fuel + 1, b, ls =>
    if total ≤ ls.length then (if ls.length = total then .ok (ls, b) else .error .badBlock)
    else
      match h.decode b with
      | .error e => .error e
      | .ok (s, b) =>
        if s < 16 then infLengths h total fuel b (s :: ls)
        else
          let (v, ex, base) := if s = 16 then (ls.head?, 2, 3) else if s = 17 then (some 0, 3, 3) else (some 0, 7, 11)
          match v, b.need ex with
          | some v, .ok (x, b) => infLengths h total fuel b (List.replicate (base + x) v ++ ls)
          | none, _ => .error .badBlock
          | _, .error e => .error e

/-- The order of the code-length code. -/
def clOrder : List Nat := [16, 17, 18, 0, 8, 7, 9, 6, 10, 5, 11, 4, 12, 3, 13, 2, 14, 1, 15]

/-- The two codes of a dynamic block. -/
def infDynamic (b : BitSrc) : Except InfEnd (Huff × Huff × BitSrc) := do
  let (hl, b) ← b.need 5
  let (hd, b) ← b.need 5
  let (hc, b) ← b.need 4
  let rec rd : Nat → BitSrc → List Nat → Except InfEnd (List Nat × BitSrc)
    | 0, b, l => .ok (l.reverse, b)
    | n + 1, b, l => do
      let (v, b) ← b.need 3
      rd n b (v :: l)
  let (cl, b) ← rd (hc + 4) b []
  let ls := (List.range 19).map fun i => match (clOrder.zipIdx).find? (fun p => p.1 = i) with | some p => cl.getD p.2 0 | none => 0
  let h := Huff.ofLengths ls
  if !h.ok false then .error .badBlock
  else
    let (all, b) ← infLengths h (hl + 257 + hd + 1) (hl + 257 + hd + 2) b []
    let all := all.reverse
    let lit := Huff.ofLengths (all.take (hl + 257))
    let dist := Huff.ofLengths (all.drop (hl + 257))
    if 286 < hl + 257 ∨ 30 < hd + 1 ∨ all.getD 256 0 = 0 ∨ lit.ok true = false ∨ dist.ok true = false then .error .badBlock
    else .ok (lit, dist, b)

/-- Blocks up to the final one. -/
def infBlocks : Nat → BitSrc → Array Byte → Array Byte × Except InfEnd BitSrc
  | 0, _, out => (out, .error .more)
  | fuel + 1, b, out =>
    match (do let (f, b) ← b.need 1; let (t, b) ← b.need 2; .ok (f, t, b) : Except InfEnd (Nat × Nat × BitSrc)) with
    | .error e => (out, .error e)
    | .ok (f, t, b) =>
      let r : Array Byte × Except InfEnd BitSrc :=
        if t = 0 then
          let b := b.align
          match b.bits 16 with
          | none => (out, .error .more)
          | some (n, b) =>
            match b.bits 16 with
            | none => (out, .error .more)
            | some (c, b) =>
              if n + c ≠ 65535 then (out, .error .badBlock)
              else
                let m := min n (b.data.size - b.pos / 8)
                let out := (List.range m).foldl (fun o i => o.push (b.data.getD (b.pos / 8 + i) 0)) out
                if m < n then (out, .error .more) else (out, .ok { b with pos := b.pos + 8 * n })
        else if t = 1 then infSyms fixedLit fixedDist (8 * b.data.size) b out
        else if t = 2 then
          match infDynamic b with
          | .error e => (out, .error e)
          | .ok (lit, dist, b) => infSyms lit dist (8 * b.data.size) b out
        else (out, .error .badBlock)
      match r with
      | (out, .ok b) => if f = 1 then (out, .ok b) else infBlocks fuel b out
      | (out, .error e) => (out, .error e)

/-- Inflate raw DEFLATE after a history: the output, how it ended, and the bytes used. -/
def inflate (hist bs : List Byte) : List Byte × InfEnd × Nat :=
  let r := infBlocks (8 * bs.length + 1) ⟨bs.toArray, 0⟩ hist.toArray
  let out := r.1.toList.drop hist.length
  match r.2 with
  | .ok b => (out, .done, (b.pos + 7) / 8)
  | .error e => (out, e, bs.length)

/-! Stored blocks. -/

/-- A stored block. -/
def storedBlock (final : Bool) (bs : List Byte) : List Byte :=
  (if final then 1 else 0) :: (leBytes 2 bs.length ++ leBytes 2 (65535 - bs.length) ++ bs)

/-- Stored blocks of at most 65,535 bytes; the last one final, or followed by an empty stored block (R415). -/
def storedBlocks (final : Bool) (bs : List Byte) : List Byte :=
  let n := max 1 ((bs.length + 65534) / 65535)
  let cs := (List.range n).map fun i => (bs.drop (65535 * i)).take 65535
  let body := if final ∨ bs ≠ [] then ((cs.zipIdx).map fun p => storedBlock (final && p.2 + 1 == n) p.1).flatten else []
  if final then body else body ++ storedBlock false []

/-- R409: the most that n bytes of input may take. -/
def deflateBound (n : Nat) : Nat := n + 5 * max 1 ((n + 65534) / 65535)

/-- R408, R415: one run of input compressed after a history. Under STRAT 0b10 it is stored; otherwise the bytes are not
stated beyond the format and the bound, so any that inflate to the input are taken. Assumption 52 (DESIGN CHOICE). -/
def deflateRun (level strat : Nat) (hist : List Byte) (final : Bool) (bs : List Byte) : List Byte :=
  if strat = 2 then storedBlocks final bs
  else
    let cand := Config.deflateBytes level strat (BitVec.ofNat 8 final.toNat :: (hist ++ bs))
    let h := hist.drop (hist.length - 32768)
    let r := inflate h cand
    let ok :=
      if final then decide (r = (bs, .done, cand.length)) && decide (cand.length ≤ deflateBound bs.length)
      else decide (r.1 = bs ∧ r.2.1 = .more) && decide (cand.length ≤ deflateBound bs.length + 5)
        && decide (cand.drop (cand.length - 5) = storedBlock false [])
    if ok then cand else storedBlocks final bs

/-- Runs separated by the ends of jobs with FINAL clear; the last run ends the stream when final is set. -/
def deflateRuns (level strat : Nat) (final : Bool) (hist : List Byte) : List (List Byte) → List Byte
  | [] => []
  | [r] => deflateRun level strat hist final r
  | r :: t => deflateRun level strat hist false r ++ deflateRuns level strat final (hist ++ r) t

/-! Framing (R410, R411). -/

/-- zlib and gzip headers as the compressor writes them. -/
def zlibHead (level : Nat) : List Byte :=
  let fl := (if level = 1 then 0 else if level ≤ 5 then 1 else if level = 6 then 2 else 3) * 64
  let chk := (31 - (0x78 * 256 + fl) % 31) % 31
  [0x78, BitVec.ofNat 8 (fl + chk)]
def gzipHead (level : Nat) : List Byte :=
  [0x1F, 0x8B, 8, 0, 0, 0, 0, 0, if level = 1 then 4 else if level = 9 then 2 else 0, 0xFF]
/-- Trailers. -/
def zlibTail (bs : List Byte) : List Byte := (leBytes 4 (adler32 bs).toNat).reverse
def gzipTail (bs : List Byte) : List Byte := leBytes 4 (crc32 bs).toNat ++ leBytes 4 bs.length

/-- A COMPRESS stage's whole stream. -/
def compressStream (mode level strat : Nat) (final : Bool) (runs : List (List Byte)) : List Byte :=
  let body := deflateRuns level strat final [] runs
  let data := runs.flatten
  if mode = 1 then zlibHead level ++ body ++ (if final then zlibTail data else [])
  else if mode = 2 then gzipHead level ++ body ++ (if final then gzipTail data else [])
  else body

/-- What a header parse finds: the header's length, more input needed, or a job status. -/
inductive HeadEnd where
  | ok (n : Nat)
  | more
  | bad (status : Nat)
  deriving DecidableEq, Repr

/-- A zlib header, with the dictionary supplied. -/
def zlibParse (dict : Option (List Byte)) (bs : List Byte) : HeadEnd :=
  match bs with
  | cmf :: flg :: t =>
    if cmf.toNat % 16 ≠ 8 ∨ 7 < cmf.toNat / 16 ∨ (cmf.toNat * 256 + flg.toNat) % 31 ≠ 0 then .bad 0x10
    else if flg.getLsbD 5 then
      match dict with
      | none => .bad 0x14
      | some d =>
        if t.length < 4 then .more else if (leBytes 4 (adler32 d).toNat).reverse = t.take 4 then .ok 6 else .bad 0x15
    else .ok 2
  | _ => .more

/-- The end of a zero-terminated field. -/
def afterZero (bs : List Byte) (i : Nat) : Option Nat :=
  ((bs.drop i).findIdx? (· == 0)).map fun k => i + k + 1

/-- A gzip header. -/
def gzipParse (bs : List Byte) : HeadEnd :=
  if bs.length < 10 then .more
  else if bs.getD 0 0 ≠ 0x1F ∨ bs.getD 1 0 ≠ 0x8B ∨ bs.getD 2 0 ≠ 8 ∨ 32 ≤ (bs.getD 3 0).toNat then .bad 0x10
  else
    let f := bs.getD 3 0
    let r : Option Nat := do
      let i ← if f.getLsbD 2 then (if bs.length < 12 then none else some (12 + leNat ((bs.drop 10).take 2))) else some 10
      let i ← if f.getLsbD 3 then afterZero bs i else some i
      if f.getLsbD 4 then afterZero bs i else some i
    match r with
    | none => .more
    | some i =>
      if f.getLsbD 1 then
        if bs.length < i + 2 then .more
        else if leNat ((bs.drop i).take 2) = (crc32 (bs.take i)).toNat % 65536 then .ok (i + 2) else .bad 0x10
      else if bs.length < i then .more else .ok i

/-- What a DECOMPRESS stage makes of its whole input: the output and the job status; with FINAL clear an unfinished stream
is no failure (R411, R415). -/
def inflateStream (mode : Nat) (dict : Option (List Byte)) (final : Bool) (bs : List Byte) : List Byte × Nat :=
  let short := if final then 0x13 else 0
  let head := if mode = 1 then zlibParse dict bs else if mode = 2 then gzipParse bs else .ok 0
  match head with
  | .bad st => ([], st)
  | .more => ([], short)
  | .ok n =>
    let (out, e, used) := inflate (if mode = 2 then [] else dict.getD []) (bs.drop n)
    match e with
    | .badBlock => (out, 0x11)
    | .more => (out, short)
    | .done =>
      let t := bs.drop (n + used)
      let want := if mode = 1 then zlibTail out else if mode = 2 then gzipTail out else []
      if t.length < want.length then (out, short)
      else if t.take want.length ≠ want then (out, 0x12)
      else if want.length < t.length then (out, 0x16) else (out, 0)

end Sys2Proof.Machine
end

