-- ==== Sys2Proof/Machine/Sha3.lean ====
section
/-!
DEFINITION. SHA3-384 and SHA3-256 (R488): the sponge over Keccak-f[1600] of FIPS 202.
-/

namespace Sys2Proof.Machine

/-- Rotation offsets of the lanes, lane x + 5 y. -/
def rhoOffsets : List Nat :=
  [0, 1, 62, 28, 27, 36, 44, 6, 55, 20, 3, 10, 43, 25, 39, 41, 45, 15, 21, 8, 18, 2, 61, 56, 14]

/-- One step of the round-constant register, x^8 + x^6 + x^5 + x^4 + 1. -/
def rcStep (r : BitVec 8) : BitVec 8 := (r <<< 1) ^^^ (if r.getLsbD 7 then 0x71 else 0)
/-- The register after t steps. -/
def rcState : Nat → BitVec 8
  | 0 => 1
  | n + 1 => rcStep (rcState n)
/-- The constant of round i. -/
def roundConst (i : Nat) : Word :=
  (List.range 7).foldl (fun w j => if (rcState (7 * i + j)).getLsbD 0 then w ||| BitVec.ofNat 64 (2 ^ (2 ^ j - 1)) else w) 0

/-- One round. -/
def keccakRound (a : List Word) (rc : Word) : List Word :=
  let at_ := fun (l : List Word) i => l.getD i 0
  let c := (List.range 5).map fun x => at_ a x ^^^ at_ a (x + 5) ^^^ at_ a (x + 10) ^^^ at_ a (x + 15) ^^^ at_ a (x + 20)
  let d := (List.range 5).map fun x => at_ c ((x + 4) % 5) ^^^ (at_ c ((x + 1) % 5)).rotateLeft 1
  let r := (List.range 25).map fun i => (at_ a i ^^^ at_ d (i % 5)).rotateLeft (rhoOffsets.getD i 0)
  let b := (List.range 25).map fun i => let x := i % 5; let y := i / 5; at_ r ((x + 3 * y) % 5 + 5 * x)
  let e := (List.range 25).map fun i =>
    let x := i % 5
    let y := i / 5
    at_ b i ^^^ (~~~(at_ b ((x + 1) % 5 + 5 * y)) &&& at_ b ((x + 2) % 5 + 5 * y))
  match e with
  | h :: t => (h ^^^ rc) :: t
  | [] => []

/-- The permutation. -/
def keccakF (a : List Word) : List Word := (List.range 24).foldl (fun a i => keccakRound a (roundConst i)) a

/-- The sponge with a rate in bytes and the SHA-3 padding: the leading bytes of the state. -/
def sha3 (rate out : Nat) (m : List Byte) : List Byte :=
  let q := rate - m.length % rate
  let pad : List Byte := if q = 1 then [0x86] else 0x06 :: (List.replicate (q - 2) 0 ++ [0x80])
  let p := m ++ pad
  let fin := (List.range (p.length / rate)).foldl (fun a i =>
    let blk := bytesWords ((p.drop (rate * i)).take rate)
    keccakF (List.zipWith (· ^^^ ·) a (blk ++ List.replicate (25 - blk.length) 0))) (List.replicate 25 0)
  (wordBytes fin).take out

def sha3_384 (m : List Byte) : List Byte := sha3 104 48 m
def sha3_256 (m : List Byte) : List Byte := sha3 136 32 m

end Sys2Proof.Machine
end

