-- ==== Sys2Proof/Machine/Xform.lean ====
section
/-!
DEFINITION. Cipher and compression jobs (chapter 14): what a stage makes of its stream, key blobs, output and overflow
buffers, suspension, unit faults, and the commands that run them (R389 to R421).
-/

namespace Sys2Proof.Machine

/-! Keys (R396, R496). -/

/-- DEVICE_ID (R494). -/
def deviceId : List Byte := sha3_256 Config.dikPublic
/-- The bytes of an ASCII string. -/
def ascii (t : String) : List Byte := t.toList.map fun c => BitVec.ofNat 8 c.toNat
/-- The wrapping key of a scope byte with a seed (R496). -/
def kwkOf (sc : Nat) (seed : List Byte) : List Byte :=
  (sha3_384 (ascii "KR9600-KWK" ++ deviceId ++ [BitVec.ofNat 8 sc] ++ seed)).take 32
/-- KWK_n; none while no seed is installed. -/
def State.kwk (s : State) (n : PartId) : Option (List Byte) := (s.nv.parts[n].seed).map (kwkOf n)

/-- Key bytes by KTYPE. -/
def keyLen (t : Nat) : Nat := if t = 1 then 16 else if t = 2 ∨ t = 3 then 32 else if t = 4 then 64 else 0

/-- R396, R397: the key that a blob holds, with KTYPE and USAGE; none is KEY_UNWRAP. -/
def openBlob (kwk : List Byte) (slot part : Nat) (blob : List Byte) : Option (List Byte × Nat × Byte) :=
  let h := BitVec.ofNat 64 (leNat (blob.take 8))
  let t := bits h 11 8
  let u : Byte := h.extractLsb' 16 8
  let n := keyLen t
  let r := gcmDec (roundKeys kwk) ((blob.drop 8).take 12) (blob.take 8) (blob.drop 20)
  let isXts := decide (t = 3 ∨ t = 4)
  if n = 0 ∨ blob.length ≠ n + 36 ∨ bits h 7 0 ≠ slot ∨ bits h 27 24 ≠ part then none
  else if !r.2 then none
  else if isXts && (r.1.take (n / 2) == r.1.drop (n / 2)) then none
  else if (if isXts then u &&& 0x3F != 1 else u.getLsbD 0) then none
  else some (r.1, t, u)

/-! Streams. -/

/-- The 16-byte block of words 1 and 2 (R399). -/
def ivBlock (d : List Word) : List Byte := leBytes 8 (dWord d 1) ++ leBytes 8 (dWord d 2)

/-- A cipher stage over its whole stream; inp is the input of this job (R400 to R405). -/
def cipherRun (d : List Word) (key aad : List Byte) (final : Bool) (inp total : List Byte) : List Byte × Nat :=
  let enc := dKind d == 1
  let iv := ivBlock d
  let odd := !final && inp.length % 16 != 0
  let ks := roundKeys key
  match dMode d with
  | 0 =>
    let du := dWord d 3 % 2 ^ 25
    let r := total.length % max 1 du
    if du < 16 ∨ 16777216 < du ∨ (0 < r ∧ r < 16) ∨ (final = false ∧ inp.length % max 1 du ≠ 0) then ([], 7)
    else (xts key enc (leNat iv) du total, 0)
  | 1 =>
    if inp.length % 16 ≠ 0 then ([], 7) else ((if enc then cbcEnc else cbcDec) ks iv (chunk 16 total), 0)
  | 2 =>
    let w := if dCtrw d = 0 then 128 else if dCtrw d = 1 then 64 else 32
    if odd then ([], 7)
    else if 2 ^ w < (total.length + 15) / 16 then (ctr ks iv w (total.take (16 * 2 ^ w)), 0xA)
    else (ctr ks iv w total, 0)
  | 3 => if odd then ([], 7) else ((if enc then cfbEnc else cfbDec) ks iv (chunk 16 total), 0)
  | 4 => if odd then ([], 7) else (ofb ks iv (chunk 16 total), 0)
  | 5 =>
    let iv := iv.take 12
    if enc then (if final then gcmEnc ks iv aad total else gcmText ks iv total, 0)
    else if !final || decide (total.length < 16) then ([], 7)
    else
      let r := gcmDec ks iv aad total
      (r.1, if r.2 then 0 else 9)
  | _ =>
    let iv := iv.take 12
    let n := dSegm1 d + 1
    if enc then
      if 2 ^ 32 < (total.length + n - 1) / n then ([], 8) else (segEnc ks iv aad n final total, 0)
    else if 2 ^ 32 < (total.length + n + 15) / (n + 16) then ([], 8)
    else if !final && total.length % (n + 16) != 0 then ([], 7)
    else
      let r := segDec ks iv aad n final total
      (r.1, if r.2 then 0 else 9)

/-- Runs of input: a mark ends a run (R415). -/
def runsOf : List (List Byte × Bool) → List Byte → List (List Byte)
  | [], cur => [cur]
  | (b, true) :: t, cur => (cur ++ b) :: runsOf t []
  | (b, false) :: t, cur => runsOf t (cur ++ b)

/-- The check value of a compression stage (R412). -/
def checkValue (d : List Word) (data : List Byte) : BitVec 32 :=
  match dMode d with
  | 0 => if dChk d = 1 then crc32 data else if dChk d = 2 then adler32 data else 0
  | 1 => adler32 data
  | _ => crc32 data

/-- Run a stage on this job's input: the output that is new, the status, the check value. The stream's parameters are those
it began with; FINAL is this job's. -/
def Stage.run (g : Stage) (key : List Byte) (final : Bool) (inp : List Byte) : Stage :=
  let d := g.orig
  let total := (g.segs.map (·.1)).flatten ++ inp
  let (out, st, chk) : List Byte × Nat × BitVec 32 :=
    if isCipher d then
      let r := cipherRun d key g.aux final inp total
      (r.1, r.2, 0)
    else if dKind d = 3 then
      (compressStream (dMode d) (dLevel d) (dStrat d) final (runsOf g.segs [] |>.dropLast |>.append [(runsOf g.segs []).getLastD [] ++ inp]),
        0, checkValue d total)
    else
      let r := inflateStream (dMode d) (if dDict d then some g.aux else none) final total
      (r.1, r.2, checkValue d r.1)
  { g with inp := inp, out := out.drop g.emitted, ran := true, status := st, check := chk }

/-! Running a stage of a command. -/

/-- A context whose job runs. -/
def State.jobCtx (s : State) (e : UnitId) (x : CtxId) : Option Ctx :=
  match s.ctx e x with
  | some c => if c.phase = .job ∧ (s.ceWorks e = true ∨ s.ceState e = ceRECOVERING) then some c else none
  | none => none

/-- The sealed words of job state id (R414). Assumption 50 (DESIGN CHOICE). -/
def sealedArea (id : Nat) : List Word := (List.range 16384).map (Config.sealWord id)

/-- R414: the saved job behind a resume area; none is RESUME_BAD. Assumption 50 (DESIGN CHOICE). -/
def State.savedFor (s : State) (c : Ctx) (area : List Word) : Option SavedJob :=
  let same := fun (g h : Stage) =>
    dKind g.desc == dKind h.orig && dMode g.desc == dMode h.orig && dSlot g.desc == dSlot h.orig
      && dLevel g.desc == dLevel h.orig && dStrat g.desc == dStrat h.orig
  s.xf.saved.find? fun j =>
    area == sealedArea j.id && j.part == c.prog.part && j.stages.length == c.stages.length
      && (List.zipWith same c.stages j.stages).all id
      && j.gens == c.stages.map fun g => (s.keySlot (dSlot g.desc)).gen

/-- The resume area of a chain. -/
def Ctx.area (c : Ctx) : Nat := dWord (c.stages.getD 0 (Stage.fresh [])).desc 6

/-- The range that a stage reads before it runs: the resume area, else its AAD or dictionary. -/
def Ctx.stageRange (c : Ctx) (i : Nat) : Nat × Nat :=
  let g := c.stages.getD i (Stage.fresh [])
  let resumes := c.stages.any fun g => dResume g.desc
  if i = 0 ∧ resumes = true then (c.area, 131072)
  else if resumes then (0, 0)
  else if isCipher g.desc ∧ 5 ≤ dMode g.desc then (dWord g.desc 3, dAadLen g.desc)
  else if dDict g.desc then (dWord g.desc 1, dWord g.desc 2)
  else (0, 0)

/-- What a first stage needs from storage before it runs: the saved state when it resumes, else its AAD or dictionary.
Assumption 50 (DESIGN CHOICE). -/
def State.openStage (s : State) (c : Ctx) (i : Nat) : Except EngStop (Except Nat (List Stage)) := do
  let n := c.prog.part
  let (a, len) := c.stageRange i
  if i = 0 ∧ c.stages.any (fun g => dResume g.desc) = true then
    s.dmaCheck n c.prog.cap (pLOAD ||| pSTORE) a len true
    s.dmaReadable n a len
    match s.savedFor c (bytesWords (s.dmaBytes n a len)) with
    | none => .ok (.error 0xC)
    | some j =>
      .ok (.ok (List.zipWith (fun (g h : Stage) => { g with orig := h.orig, aux := h.aux, segs := h.segs, emitted := h.emitted })
        c.stages j.stages))
  else if c.stages.any (fun g => dResume g.desc) = true then .ok (.ok c.stages)
  else
    let bs ← s.dmaRead n c.prog.cap a len
    .ok (.ok (c.stages.modify i fun g => { g with aux := bs }))

/-- A stage fails before it has any output. -/
def Stage.fail (g : Stage) (st : Nat) : Stage := { g with ran := true, status := st, out := [] }

/-- Input bytes that a stage reports as consumed: all of them when it succeeds; after a failure the number is not stated. -/
def State.withConsumed (s : State) (g : Stage) : State × Stage :=
  if g.status = 0 then (s, { g with consumed := g.inp.length })
  else (s.freeStep, { g with consumed := s.freeVal.toNat % (g.inp.length + 1) })

/-- ENCRYPT, DECRYPT, COMPRESS, DECOMPRESS: stage i of a context's chain runs, after the stage before it.
Assumption 49 (DESIGN CHOICE). -/
def State.runStage (s : State) (e : UnitId) (x : CtxId) (i kind : Nat) : State :=
  match s.jobCtx e x with
  | none => s
  | some c =>
    match c.stages[i]? with
    | none => s
    | some g0 =>
      let prev := if i = 0 then none else c.stages[i - 1]?
      if dKind g0.desc ≠ kind ∨ g0.ran = true ∨ (prev.any fun p => !p.ran) = true then s
      else
        match s.openStage c i with
        | .error f => (if f.status = 4 then s.zeroEarly c else s).failCmd e x c f
        | .ok (.error st) => s.setCtx e x (some { c with stages := c.stages.map fun g => g.fail st })
        | .ok (.ok gs) =>
          let s := s.dmaTouch c.prog.part (c.stageRange i).1 (c.stageRange i).2
          let g := gs.getD i g0
          let inp := match prev with | some p => p.out | none => g.inp
          let broken := prev.any fun p => p.status != 0
          let key := (s.keySlot (dSlot g.desc)).key.getD []
          let g := g.run key (dFinal g.desc && !broken) inp
          let g := if broken then { g with status := 0 } else g
          let (s, g) := s.withConsumed g
          s.setCtx e x (some { c with stages := gs.set i g })

/-- ENCRYPT (R398 to R404). -/
def execEncrypt (e : UnitId) (x : CtxId) (stage : Fin 2) (s : State) : Host.Outcome State Fault Refusal :=
  .next (s.runStage e x stage 1)
/-- DECRYPT (R398 to R405). -/
def execDecrypt (e : UnitId) (x : CtxId) (stage : Fin 2) (s : State) : Host.Outcome State Fault Refusal :=
  .next (s.runStage e x stage 2)
/-- COMPRESS (R408 to R410, R415). -/
def execCompress (e : UnitId) (x : CtxId) (stage : Fin 2) (s : State) : Host.Outcome State Fault Refusal :=
  .next (s.runStage e x stage 3)
/-- DECOMPRESS (R411, R412, R415). -/
def execDecompress (e : UnitId) (x : CtxId) (stage : Fin 2) (s : State) : Host.Outcome State Fault Refusal :=
  .next (s.runStage e x stage 4)

/-! Key jobs (R395, R396). -/

/-- The only stage of a key job has run. -/
def State.keyJobRan (s : State) (e : UnitId) (x : CtxId) (st : Nat) : State :=
  s.modCtx e x fun c => { c with stages := c.stages.map fun g => { g with ran := true, status := st } }

/-- KEYLOAD: the change waits while a running job uses the slot. Assumption 51 (DEDUCED). -/
def State.keyLoad (s : State) (e : UnitId) (x : CtxId) : State :=
  match s.jobCtx e x with
  | none => s
  | some c =>
    let g := c.stages.getD 0 (Stage.fresh [])
    let slot := dSlot g.desc
    let n := c.prog.part
    let len := dWord g.desc 2
    if dKind g.desc ≠ kKEYLOAD ∨ g.ran = true ∨ s.slotBusy slot = true then s
    else if len ≠ 52 ∧ len ≠ 68 ∧ len ≠ 100 then s.keyJobRan e x 6
    else
      match s.dmaRead n c.prog.cap (dWord g.desc 1) len with
      | .error f => s.failCmd e x c f
      | .ok blob =>
        let s := s.dmaTouch n (dWord g.desc 1) len
        match (s.kwk n).bind fun k => openBlob k slot n blob with
        | none => s.keyJobRan e x 6
        | some (key, t, u) => (s.setKeySlot slot ⟨some key, t, u, (s.keySlot slot).gen + 1, false⟩).keyJobRan e x 0

/-- KEYLOAD. -/
def execKeyload (e : UnitId) (x : CtxId) (s : State) : Host.Outcome State Fault Refusal := .next (s.keyLoad e x)

/-- KEYCLR (R395). Assumption 51 (DEDUCED). -/
def State.keyClr (s : State) (e : UnitId) (x : CtxId) : State :=
  match s.jobCtx e x with
  | none => s
  | some c =>
    let g := c.stages.getD 0 (Stage.fresh [])
    if dKind g.desc ≠ kKEYCLR ∨ g.ran = true ∨ s.slotBusy (dSlot g.desc) = true then s
    else (s.emptySlot (dSlot g.desc)).keyJobRan e x 0

/-- KEYCLR. -/
def execKeyclr (e : UnitId) (x : CtxId) (s : State) : Host.Outcome State Fault Refusal := .next (s.keyClr e x)

/-! Output (R413). -/

/-- How placing output ends: all of it stands, so many bytes stand, an access failed, an overflow entry is malformed. -/
inductive Placed where
  | all
  | full (n : Nat)
  | stop (f : EngStop)
  | badList
  deriving DecidableEq, Repr

/-- Write into one buffer what fits: the bytes written, or the failure. -/
def State.putBuf (s : State) (n : PartId) (cap : Cap) (ea room : Nat) (bs : List Byte) : Except EngStop State :=
  let now := bs.take room
  match s.dmaCheck n cap pSTORE ea now.length true with
  | .ok _ => .ok (s.dmaWrite n ea now)
  | .error f => .error f

/-- The overflow buffers in order; zero instead of data for R406. Entries read are bounded by the fuel.
Assumption 51 (DEDUCED). -/
def State.putList (s : State) (n : PartId) (cap : Cap) (zero : Bool) : Nat → Nat → List Byte → Nat → State × Placed
  | 0, _, bs, done => (s, if bs = [] then .all else .full done)
  | fuel + 1, ea, bs, done =>
    if bs = [] then (s, .all)
    else if ea = 0 then (s, .full done)
    else if ea % 32 ≠ 0 then (s, .badList)
    else
      match (do s.dmaCheck n cap pLOAD ea 32 false; s.dmaReadable n ea 32 : Except EngStop Unit) with
      | .error f => (s, .stop f)
      | .ok _ =>
        let ws := s.dmaWords n ea 4
        let s := s.dmaTouch n ea 32
        let w := fun i => (ws.getD i TWord.raw0).data
        let len := bits (w 1) 39 0
        if !(ws.all fun t => t.tag == tagRAW || t.tag == tagFIX) || bits (w 1) 63 40 != 0 || w 3 != 0 then (s, .badList)
        else
          let m := min len bs.length
          let r := if zero then .ok (s.zeroRange n cap (w 0).toNat len) else s.putBuf n cap (w 0).toNat len bs
          match r with
          | .error f => (s, .stop f)
          | .ok s => s.putList n cap zero fuel (w 2).toNat (bs.drop m) (done + m)

/-- Entries of an overflow list that the model reads at most. -/
abbrev listFuel : Nat := 65536

/-- Output to the primary destination, then to the overflow list. Assumption 49 (DESIGN CHOICE). -/
def State.placeOut (s : State) (c : Ctx) (bs : List Byte) : State × Placed :=
  let n := c.prog.part
  match s.putBuf n c.prog.cap c.dest c.dlen bs with
  | .error f => (s, .stop f)
  | .ok s =>
    let m := min c.dlen bs.length
    s.putList n c.prog.cap false listFuel (dWord (c.stages.getLastD (Stage.fresh [])).desc 4) (bs.drop m) m

/-- R406: a tag has failed: zeros over the primary destination and over every overflow buffer that was reached. -/
def State.zeroOut (s : State) (c : Ctx) (len : Nat) : State :=
  let n := c.prog.part
  let s := s.zeroRange n c.prog.cap c.dest c.dlen
  (s.putList n c.prog.cap true listFuel (dWord (c.stages.getLastD (Stage.fresh [])).desc 4)
    (List.replicate (len - c.dlen) 0) 0).1

/-! Results and suspension (R394, R414). -/

/-- The result record of stage i. -/
def resultWords (g : Stage) (i status produced : Nat) : List Word :=
  [ BitVec.ofNat 64 (status + i * 256), BitVec.ofNat 64 g.consumed, BitVec.ofNat 64 produced,
    if isComp g.desc then g.check.setWidth 64 else 0 ]

/-- Write the result records that descriptors name. -/
def State.putResults (s : State) (c : Ctx) (status : Nat) (made : Nat → Nat) : Except EngStop State :=
  (c.stages.zipIdx).foldlM (fun s p =>
    let a := dWord p.1.desc 7
    if a = 0 then .ok s
    else
      match s.dmaCheck c.prog.part c.prog.cap pSTORE a 32 true with
      | .error f => .error f
      | .ok _ => .ok (s.dmaWrite c.prog.part a (wordBytes (resultWords p.1 p.2 status (made p.2))))) s

/-- Save the job's state to the resume area: how much of the first stage's input was consumed, what the last stage has
given out. -/
def State.saveJob (s : State) (c : Ctx) (gs : List Stage) : Except EngStop State :=
  let a := c.area
  let id := s.xf.nextId
  match s.dmaCheck c.prog.part c.prog.cap (pLOAD ||| pSTORE) a 131072 true with
  | .error f => .error f
  | .ok _ =>
    let j : SavedJob := ⟨id, c.prog.part, gs, gs.map fun g => (s.keySlot (dSlot g.desc)).gen⟩
    let s := { s with xf := { s.xf with saved := j :: s.xf.saved, nextId := id + 1 } }
    .ok (s.dmaWrite c.prog.part a (wordBytes (sealedArea id)))

/-- Input that a suspended stage has consumed: a whole number of cipher units, which one is not stated.
Assumption 49 (DESIGN CHOICE). -/
def consumeStep (d : List Word) : Nat := if isCipher d then (if dMode d = 0 then max 1 (dWord d 3 % 2 ^ 25) else 16) else 1

/-- The stages as they are saved: after k bytes of the first stage's input and m bytes of the last stage's output. -/
def savedStages (c : Ctx) (full : Bool) (k m : Nat) : List Stage :=
  let last := c.stages.length - 1
  (c.stages.zipIdx).map fun p =>
    let g := p.1
    let inp := if p.2 = 0 then g.inp.take k else g.inp
    { g with segs := g.segs ++ [(inp, !full && !dFinal g.desc)], emitted := g.emitted + (if p.2 = last then m else g.out.length),
             inp := [], out := [], ran := false }

/-- What the end of a job does, and whether it suspends. Assumption 49 (DESIGN CHOICE). -/
def State.jobEnd (s : State) (e : UnitId) (x : CtxId) (c : Ctx) : State × Bool :=
  let gs := c.stages
  let last := gs.length - 1
  let st := firstCode (gs.map (·.status))
  let out := (gs.getLastD (Stage.fresh [])).out
  let keyJob := gs.any fun g => isKeyJob g.desc
  let mem := decide (c.op ≠ 1) && !keyJob
  let auth := decide (st = 9) && mem
  let whole := c.gcmDecrypt == some false
  let made := fun (n i : Nat) => if i = last then n else (gs.getD i (Stage.fresh [])).out.length
  let finish := fun (s : State) (status : Nat) =>
    if c.op = 1 then
      (s.modCtx e x fun c => { c with phase := .staging }).releaseKeys
    else if status = 0 then s.finishCmd e x c.rxStatus c.subBits
    else s.finishCmd e x 9 status
  let conclude := fun (s : State) (status n : Nat) =>
    match s.putResults c status (made n) with
    | .error f => s.failCmd e x c f
    | .ok s => finish s status
  let suspend := fun (s : State) (full : Bool) (n : Nat) =>
    let g0 := gs.getD 0 (Stage.fresh [])
    let u := consumeStep g0.orig
    let k := if full then u * (s.freeVal.toNat % (g0.inp.length / u + 1)) else g0.inp.length
    let s := if full then s.freeStep else s
    let c' := { c with stages := gs.modify 0 fun g => { g with consumed := k } }
    match s.saveJob c (savedStages c full k n) with
    | .error f => s.failCmd e x c f
    | .ok s =>
      match s.putResults c' (if full then 0xB else 0) (made n) with
      | .error f => s.failCmd e x c f
      | .ok s => finish s (if full then 0xB else 0)
  if auth then (conclude (s.zeroOut c out.length) 9 0, false)
  else
    let (s', pl) := if mem then s.placeOut c out else (s, Placed.all)
    match pl with
    | .stop f => (s'.failCmd e x c f, false)
    | .badList => (conclude s' 1 0, false)
    | .full n =>
      if whole then (conclude (s'.zeroOut c out.length) 0xB 0, false)
      else if c.area = 0 then (conclude s' 0xB n, false)
      else (suspend s' true n, true)
    | .all =>
      if st ≠ 0 then (conclude s' st out.length, false)
      else if !keyJob && gs.any (fun g => !dFinal g.desc) && c.area != 0 then (suspend s' false out.length, true)
      else (conclude s' 0 out.length, false)

/-- A job whose stages have all run ends, by completing or by suspending. -/
def State.jobDone (s : State) (e : UnitId) (x : CtxId) (suspends : Bool) : State :=
  match s.jobCtx e x with
  | none => s
  | some c =>
    if c.stages.all fun g => g.ran then
      let r := s.jobEnd e x c
      if r.2 = suspends then r.1 else s
    else s

/-- JOB_COMPLETE (R394, R406, R413). -/
def execJobComplete (e : UnitId) (x : CtxId) (s : State) : Host.Outcome State Fault Refusal := .next (s.jobDone e x false)
/-- JOB_SUSPEND (R413 to R415). -/
def execJobSuspend (e : UnitId) (x : CtxId) (s : State) : Host.Outcome State Fault Refusal := .next (s.jobDone e x true)

/-! XFORM. -/

/-- CMD_XFORM (R315, R389): the source is read and the job starts. -/
def State.cmdXform (s : State) (e : UnitId) (x : CtxId) : State :=
  match s.fetchedCtx e x 3 with
  | none => s
  | some c =>
    (s.noteTurn e x).beginXf e x c fun s =>
      match s.dmaRead c.prog.part c.prog.cap (c.w 1).toNat c.count with
      | .error f =>
        let s := if f.status = 4 then s.zeroEarly c else s
        s.failCmd e x c f
      | .ok bs =>
        (s.dmaTouch c.prog.part (c.w 1).toNat c.count).modCtx e x fun c =>
          { c with phase := .job, bytes := c.count,
                   stages := match c.stages with | g :: t => { g with inp := bs } :: t | [] => [] }

/-- CMD_XFORM. -/
def execCmdXform (e : UnitId) (x : CtxId) (s : State) : Host.Outcome State Fault Refusal := .next (s.cmdXform e x)

/-! Shares (R416, R417, R420). -/

/-- The stage kinds of a unit kind. -/
def kindIs (k : XfKind) (d : List Word) : Bool :=
  match k with
  | .pipe => isCipher d
  | .clane => dKind d == 3
  | .dlane => dKind d == 4

/-- Units of a kind that a partition dedicates; retired units; the slice. -/
def State.dedicated (s : State) (k : XfKind) (n : Nat) : Nat :=
  match k with
  | .pipe => s.fld (oCIP_PART n) 7 0
  | .clane => s.fld (oCMZ_PART n) 7 0
  | .dlane => s.fld (oCMZ_PART n) 15 8
def State.retiredUnits (s : State) (k : XfKind) : Nat :=
  match k with
  | .pipe => s.fld oCIP_STAT 7 0
  | .clane => s.fld oCMZ_STAT 7 0
  | .dlane => s.fld oCMZ_STAT 15 8
/-- The units, not retired, that a partition's jobs use: its own, or the pool's. -/
def State.unitsFor (s : State) (k : XfKind) (n : Nat) : List Nat :=
  let live := (List.range 8).filter fun i => !(s.retiredUnits k).testBit i
  let own := live.filter fun i => (s.dedicated k n).testBit i
  if own ≠ [] then own else live.filter fun i => (List.range 8).all fun m => !(s.dedicated k m).testBit i

/-- Jobs that run, by engine and context. -/
def State.jobs (s : State) : List (UnitId × CtxId × Ctx) :=
  ((List.finRange 9).map fun e => (List.finRange 16).filterMap fun x => (s.jobCtx e x).map fun c => (e, x, c)).flatten

/-- XF_SLICE_END (R414, R417): every job of the partition that runs in the pool is sealed in its resume area, with a result
record, and goes on by itself in the next slice. Assumption 53 (DEDUCED). -/
def State.sliceEnd (s : State) (k : XfKind) (n : PartId) : State :=
  let mine := s.jobs.filter fun j => j.2.2.prog.part == n && j.2.2.area != 0
    && (j.2.2.stages.any fun g => kindIs k g.desc)
    && (List.range 8).all fun i => !(s.dedicated k n).testBit i || (s.retiredUnits k).testBit i
  s.forEach mine fun j s =>
    match s.saveJob j.2.2 j.2.2.stages with
    | .error f => s.failCmd j.1 j.2.1 j.2.2 f
    | .ok s =>
      match s.putResults j.2.2 0 (fun i => (j.2.2.stages.getD i (Stage.fresh [])).out.length) with
      | .error f => s.failCmd j.1 j.2.1 j.2.2 f
      | .ok s => s

/-- XF_SLICE_END. -/
def execXfSliceEnd (k : XfKind) (n : PartId) (s : State) : Host.Outcome State Fault Refusal := .next (s.sliceEnd k n)

/-- The number of a unit kind in keys of the fault times, its counter, SOURCE and RETIRED bit, repair-map KIND. -/
def kindNo : XfKind → Nat
  | .pipe => 0
  | .clane => 1
  | .dlane => 2
def xfCounter : XfKind → Nat
  | .pipe => 0
  | .clane => 1
  | .dlane => 1
def xfSource : XfKind → Nat
  | .pipe => 0x62
  | .clane => 0x63
  | .dlane => 0x63
def retiredBit : XfKind → Nat → Nat × Nat
  | .pipe, i => (oCIP_STAT, i)
  | .clane, i => (oCMZ_STAT, i)
  | .dlane, i => (oCMZ_STAT, 8 + i)

/-- A new entry of the repair map (R511, R514). Assumption 74 (DEDUCED). -/
def State.repairAdd (s : State) (kind inst elem action origin : Nat) : State :=
  { s with nv := { s.nv with repair := s.nv.repair ++
      [⟨BitVec.ofNat 8 kind, BitVec.ofNat 16 inst, BitVec.ofNat 32 elem, BitVec.ofNat 4 action, BitVec.ofNat 4 origin⟩] } }

/-- A transform unit is retired (R420, R514). Assumption 53 (DEDUCED). -/
def State.retireUnit (s : State) (k : XfKind) (i : Nat) (origin : Nat) : State :=
  let b := retiredBit k i
  (s.setFlag b.1 b.2 true).repairAdd (8 + kindNo k) i 0 2 origin

/-- XF_UNIT_FAULT (R420): the job on the unit goes on with another unit of the share, or fails with UNIT_FAULT.
Assumption 53 (DEDUCED). -/
def State.unitFault (s : State) (k : XfKind) (i : Fin 8) : State :=
  let key := 8 * kindNo k + i.val
  let recent := s.xf.faults.filter fun f => s.now.toNat ≤ f.2.toNat + 1000000000
  let hits := recent.countP (fun f => f.1 = key) + 1
  let s := ({ s with xf := { s.xf with faults := (key, s.now) :: recent } }).count (cXF (xfCounter k) (xfCounter k))
  let onUnit := s.jobs.find? fun j =>
    (s.unitsFor k j.2.2.prog.part).contains i.val && j.2.2.stages.any fun g => kindIs k g.desc && !g.ran
  let stuck := match onUnit with
    | some j => (s.unitsFor k j.2.2.prog.part).all (· == i.val)
    | none => false
  let s := match onUnit with
    | some (e, x, c) =>
      if stuck then s.setCtx e x (some { c with stages := c.stages.map fun g => if g.ran then g else g.fail 0x17 }) else s
    | none => s
  if 3 ≤ hits ∧ (s.retiredUnits k).testBit i = false then
    (s.retireUnit k i 2).record (mkRec 1 (xfSource k) (xfCounter k))
  else s

/-- XF_UNIT_FAULT. -/
def execXfUnitFault (k : XfKind) (i : Fin 8) (t : Word) (s : State) : Host.Outcome State Fault Refusal :=
  .next ((s.advanceTo t).unitFault k i)

end Sys2Proof.Machine
end

