-- ==== Sys2Proof/Machine/Esf.lean ====
section
/-!
DEFINITION. Esfort (chapter 18): requests and challenges (R497), keys and seeds (R496, R498), measurement and attestation
(R499, R500), the lifecycle (R501), field access (R503 to R505), IDE keys (R559).
-/

namespace Sys2Proof.Machine

/-! Mailboxes and scopes. -/

/-- The index of a mailbox: PF0, VF_0 to VF_7, SMBus. -/
def mailboxNo : Mailbox → Fin 10
  | .pf0 => 0
  | .vf n => ⟨n.val + 1, by omega⟩
  | .smbus => 9

/-- The scope byte: 0xFF the device, n partition n. -/
def scopeByte : Scope → Byte
  | .dev => 0xFF
  | .part n => BitVec.ofNat 8 n.val

/-- The index of a scope: the device, then partition n. -/
def scopeNo : Scope → Fin 9
  | .dev => 0
  | .part n => ⟨n.val + 1, by omega⟩

/-- A VF's mailbox takes requests of its own scope. -/
def reaches (m : Mailbox) (sc : Scope) : Bool :=
  match m with
  | .vf n => sc == .part n
  | _ => true

/-- Esfort runs from VDD_AUX; the DOE mailboxes need the device out of reset with a Lockkeeper (R490, R588). -/
def State.esfUp (s : State) (m : Mailbox) : Bool :=
  s.auxOn && (m == .smbus || (s.rstL && !s.pwr.emergency && s.fld oESF_STAT 7 6 != 3))

/-- ESF_STAT.LIFECYCLE. -/
def State.lifecycle (s : State) : Nat := s.fld oESF_STAT 3 0

/-- The keys of a scope. -/
def State.keysOf (s : State) : Scope → ScopeKeys
  | .dev => s.nv.dev
  | .part n => s.nv.parts[n]

/-- The challenge of a mailbox is used up. -/
def State.consumeChal (s : State) (m : Mailbox) : State :=
  { s with esf := { s.esf with chal := s.esf.chal.set (mailboxNo m) none } }

/-- A request succeeds. -/
def State.doeOk (s : State) (body : List Byte) : State := { s with resp := .doe 0 body }

/-- An error answer: no code is stated, so a non-zero free value stands for it. Assumption 67 (DEDUCED). -/
def State.doeError (s : State) : State :=
  ({ s with resp := .doe (1 + s.freeVal.toNat % (2 ^ 32 - 1)) [] }).freeStep

/-- R497: a request that fails has no effect and leaves an access record where the recording unit runs.
Assumption 67 (DEDUCED). -/
def State.doeRefuse (s : State) : State := if s.rstL then s.doeError.accessRecord .doe 0 true else s.doeError

/-- R497: a signed request that fails also consumes its challenge. -/
def State.doeFail (s : State) (m : Mailbox) : State := (s.consumeChal m).doeRefuse

/-! Measurement slots (R499). -/

/-- The bytes of slot k. -/
def State.slot (s : State) (k : Nat) : List Byte := wordBytes ((List.range 6).map fun w => s.reg (oESF_MEAS k w))
/-- Set slot k. -/
def State.setSlot (s : State) (k : Nat) (v : List Byte) : State := s.setRegs (oESF_MEAS k 0) ((bytesWords v).take 6)
/-- Extend slot k. -/
def State.extendSlot (s : State) (k : Nat) (v : List Byte) : State := s.setSlot k (sha3_384 (s.slot k ++ v))

/-- Slot 13 takes the lifecycle byte and the digest of the owner and debug keys. Assumption 69 (DESIGN CHOICE). -/
def State.extendKeys (s : State) : State :=
  let t := (s.nv.dev.owner, s.nv.dev.debug) :: s.nv.parts.toList.map fun k => (k.owner, k.debug)
  s.extendSlot 13 (BitVec.ofNat 8 s.lifecycle :: sha3_384 (Config.keyTable t))

/-- A 48-byte event of slot 14. Assumption 67 (DEDUCED). -/
def State.accessEvent (s : State) (scope method : Byte) : State :=
  s.extendSlot 14 ([BitVec.ofNat 8 s.lifecycle, scope, method] ++ List.replicate 45 0)

/-! Sessions (R503 to R505). -/

/-- The bit of ESF_STAT that shows an open session. -/
def sessionBit : Scope → Nat
  | .dev => 11
  | .part n => 12 + n.val

/-- A session opens; one that is open already stays as it is. -/
def State.openSession (s : State) (sc : Scope) (method : Nat) : State :=
  if s.flag oESF_STAT (sessionBit sc) then s
  else
    let s := { s with esf := { s.esf with methods := s.esf.methods.set (scopeNo sc) method } }
    (s.setFlag oESF_STAT (sessionBit sc) true).accessEvent (scopeByte sc) (BitVec.ofNat 8 method)

/-- A session closes. -/
def State.closeSession (s : State) (sc : Scope) : State :=
  if s.flag oESF_STAT (sessionBit sc) then
    (s.setFlag oESF_STAT (sessionBit sc) false).accessEvent (scopeByte sc) (BitVec.ofNat 8 s.esf.methods[scopeNo sc])
  else s

/-- Every scope. -/
def allScopes : List Scope := .dev :: (List.finRange 8).map Scope.part

/-- A lifecycle change closes every session. -/
def State.closeAll (s : State) : State := s.forEach allScopes fun sc s => s.closeSession sc

/-! Signed requests (R497). -/

/-- The signature of a request verifies over challenge, DEVICE_ID and body. Assumption 67 (DEDUCED). -/
def State.cmdSigned (s : State) (m : Mailbox) (key : Option (List Byte)) (sg : Signed) (body : List Byte) : Bool :=
  match s.esf.chal[mailboxNo m], key with
  | some c, some k => Config.mldsaVerify k (c ++ deviceId ++ body) (ascii "KR9600-CMD") sg.sig
  | _, _ => false

/-- The Selaufen image key, when the request offers it (R488). -/
def imageKey (sg : Signed) : Option (List Byte) :=
  if sha3_384 sg.key = Config.selaufenImageKeyDigest then some sg.key else none

/-- A signed request: it takes effect when it is allowed and its signature verifies. Assumption 67 (DEDUCED). -/
def State.request (s : State) (m : Mailbox) (allowed : Bool) (key : Option (List Byte)) (sg : Signed) (body : List Byte)
    (act : State → State) : State :=
  if s.esfUp m = false then s
  else if allowed && s.cmdSigned m key sg body then (act (s.consumeChal m)).doeOk []
  else s.doeFail m

/-- The key store is written: two copies (R506, R518). Assumption 68 (DEDUCED). -/
def State.storeKeys (s : State) : State := s.mramTwice nvEsfort 0x80000 4096

/-- Change the keys of a scope. -/
def State.modKeys (s : State) (sc : Scope) (f : ScopeKeys → ScopeKeys) : State :=
  match sc with
  | .dev => { s with nv := { s.nv with dev := f s.nv.dev } }
  | .part n => { s with nv := { s.nv with parts := s.nv.parts.set n (f s.nv.parts[n]) } }

/-- R496: the wrapping seed of a scope changes; the key slots of a partition are emptied. -/
def State.setSeed (s : State) (sc : Scope) (seed : Option (List Byte)) : State :=
  if (s.keysOf sc).seed = seed then s
  else
    let s := s.modKeys sc fun k => { k with seed := seed }
    match sc with
    | .dev => s
    | .part n => s.forEach (List.range 256) fun i s => if s.slotOwner i = n.val then s.clearSlot i else s

/-- Every key, password and seed of a scope is erased. -/
def State.eraseScope (s : State) (sc : Scope) : State :=
  (s.setSeed sc none).modKeys sc fun _ => ScopeKeys.none

/-- An ML-DSA-87 public key. -/
def isKey (k : List Byte) : Bool := k.length == 2592

/-- PROVISIONED or FIELD. -/
def State.owned (s : State) : Bool := s.lifecycle == 1 || s.lifecycle == 2

/-- GET_CHALLENGE: a new challenge replaces the one of this mailbox. -/
def State.getChallenge (s : State) (m : Mailbox) : State :=
  if s.esfUp m = false then s
  else
    let c := Config.challenge s.esf.chalCount
    { s with
      esf := { s.esf with chal := s.esf.chal.set (mailboxNo m) (some c), chalCount := s.esf.chalCount + 1 }
      resp := .doe 0 c }

/-- GET_IDENTITY. -/
def State.getIdentity (s : State) (m : Mailbox) : State :=
  if s.esfUp m then s.doeOk Config.identityCert else s

/-- The slots that a report includes (R500). -/
def slotMask : Mailbox → Nat
  | .vf n => 0x6000 + 0x1F + 2 ^ (5 + n.val)
  | _ => 0xFFFF

/-- The 920 bytes that a report signs (R500). -/
def State.report (s : State) (m : Mailbox) (nonce : List Byte) : List Byte :=
  let sc : Scope := match m with | .vf n => .part n | _ => .dev
  let mask := slotMask m
  leBytes 4 0x41549600 ++ leBytes 2 1 ++ [BitVec.ofNat 8 s.lifecycle, scopeByte sc] ++ nonce ++ deviceId
    ++ wordBytes [s.reg (oGLB_SERIAL 0), s.reg (oGLB_SERIAL 1)]
    ++ (match (s.keysOf sc).owner with | some k => sha3_384 k | none => List.replicate 48 0)
    ++ leBytes 2 mask ++ List.replicate 14 0
    ++ ((List.range 16).map fun k => if mask.testBit k then s.slot k else List.replicate 48 0).flatten

/-- ATTEST. -/
def State.attest (s : State) (m : Mailbox) (nonce : List Byte) : State :=
  if s.esfUp m = false then s
  else if nonce.length ≠ 32 then s.doeRefuse
  else
    let r := s.report m nonce
    s.doeOk (r ++ Config.mldsaSign r (ascii "KR9600-ATT"))

/-- EXTEND: slot 15 takes a 48-byte value, on PF0's mailbox only. -/
def State.extend (s : State) (m : Mailbox) (v : List Byte) : State :=
  if s.esfUp m = false then s
  else if m = .pf0 ∧ v.length = 48 then (s.extendSlot 15 v).doeOk []
  else s.doeRefuse

/-- ENROLL_OWNER. -/
def State.enrollOwner (s : State) (m : Mailbox) (owner debug : List Byte) (sg : Signed) : State :=
  s.request m (reaches m .dev && s.lifecycle == 1 && s.nv.dev.owner.isNone && isKey owner && isKey debug) (imageKey sg) sg
    (0x10 :: owner ++ debug) fun s =>
      (s.modKeys .dev fun k => { k with owner := some owner, debug := some debug }).storeKeys.extendKeys

/-- TRANSFER_OWNER (R498, R506). -/
def State.transferOwner (s : State) (m : Mailbox) (owner debug : List Byte) (clearParts : Bool) (sg : Signed) : State :=
  s.request m (reaches m .dev && s.owned && isKey owner && isKey debug) s.nv.dev.owner sg
    (0x11 :: owner ++ debug ++ [if clearParts then 1 else 0]) fun s =>
      let s := (s.setSeed .dev none).modKeys .dev fun k =>
        { k with owner := some owner, debug := some debug, salt := [], digest := [] }
      let s := if clearParts then s.forEach (List.finRange 8) fun n s => s.eraseScope (.part n) else s
      let s := s.storeKeys.extendKeys
      if 2 ≤ s.lifecycle then s.closeSession .dev else s

/-- ENROLL_PART (R498, R505). -/
def State.enrollPart (s : State) (m : Mailbox) (n : PartId) (owner debug : List Byte) (sg : Signed) : State :=
  s.request m (reaches m (.part n) && s.owned && isKey owner && isKey debug) s.nv.dev.owner sg
    (0x12 :: BitVec.ofNat 8 n.val :: owner ++ debug) fun s =>
      let s := (s.setSeed (.part n) none).modKeys (.part n) fun k => { k with owner := some owner, debug := some debug }
      s.storeKeys.extendKeys.closeSession (.part n)

/-- SET_DEBUG. -/
def State.setDebug (s : State) (m : Mailbox) (sc : Scope) (debug : List Byte) (sg : Signed) : State :=
  s.request m (reaches m sc && s.owned && isKey debug) (s.keysOf sc).owner sg (0x13 :: scopeByte sc :: debug) fun s =>
    (s.modKeys sc fun k => { k with debug := some debug }).storeKeys.extendKeys

/-- SET_PASSWORD: a digest of zeros disables the scope's password. -/
def State.setPassword (s : State) (m : Mailbox) (sc : Scope) (salt digest : List Byte) (sg : Signed) : State :=
  s.request m (reaches m sc && s.owned && salt.length == 32 && digest.length == 48) (s.keysOf sc).owner sg
    (0x14 :: scopeByte sc :: salt ++ digest) fun s =>
      (s.modKeys sc fun k =>
        if digest.all (· == 0) then { k with salt := [], digest := [] } else { k with salt := salt, digest := digest }).storeKeys

/-- KWK of a scope (R496). -/
def State.scopeKwk (s : State) (sc : Scope) : Option (List Byte) :=
  (s.keysOf sc).seed.map (kwkOf (scopeByte sc).toNat)

/-- R498: the seed that a wrapped one holds. -/
def State.unwrapSeed (s : State) (under sc : Scope) (w : List Byte) : Option (List Byte) :=
  match s.scopeKwk under with
  | none => none
  | some k =>
    let r := gcmDec (roundKeys k) (w.take 12) (scopeByte sc :: List.replicate 7 0) (w.drop 12)
    if w.length = 60 ∧ r.2 = true then some r.1 else none

/-- KWK_SET (R498): the seed in the clear in PROVISIONED, wrapped in FIELD. -/
def State.kwkSet (s : State) (m : Mailbox) (sc : Scope) (underD : Bool) (seed : List Byte) (sg : Signed) : State :=
  let prov := s.lifecycle == 1
  let new := if prov then (if seed.length = 32 then some seed else none)
    else s.unwrapSeed (if underD then .dev else sc) sc seed
  let signer := if prov || underD then s.nv.dev.owner else (s.keysOf sc).owner
  s.request m (reaches m sc && s.owned && new.isSome) signer sg
    (0x15 :: scopeByte sc :: (if underD then 1 else 0) :: seed) fun s => (s.setSeed sc new).storeKeys

/-- SVN_ADVANCE (R493): a minimum rises, at most to the SVN of the image now loaded. -/
def State.svnAdvance (s : State) (m : Mailbox) (kind svn : BitVec 16) (sg : Signed) : State :=
  let i := kind.toNat - 1
  let ok := decide (1 ≤ kind.toNat ∧ kind.toNat ≤ 4 ∧ s.nv.svn.toList.getD i 0 ≤ svn.toNat
    ∧ svn.toNat ≤ s.nv.svnNow.toList.getD i 0)
  s.request m (reaches m .dev && s.lifecycle == 2 && ok) s.nv.dev.owner sg (0x16 :: leBytes 2 kind.toNat ++ leBytes 2 svn.toNat)
    fun s =>
      let nv := { s.nv with svn := s.nv.svn.setIfInBounds i svn.toNat }
      ({ s with nv := nv }).esfFuses.storeKeys

/-- R559: the key material of an IDE_KEY body, key-set key and initial IV field. -/
def State.ideMaterial (s : State) (body : List Byte) : Option (Nat × List Byte) :=
  let b := fun (i : Nat) => (body.getD i 0).toNat
  let shape := decide (body.length = 72 ∧ b 0 < 4 ∧ b 1 < 2 ∧ b 2 < 2) && ((body.drop 3).take 5).all (· == 0)
  match s.scopeKwk .dev with
  | none => none
  | some k =>
    let r := gcmDec (roundKeys k) ((body.drop 8).take 12) (0xFF :: body.take 3 ++ List.replicate 4 0) (body.drop 20)
    if shape ∧ r.2 = true then some (4 * b 0 + 2 * b 1 + b 2, r.1) else none

/-- IDE_KEY (R559). Assumption 72 (PRESUMED). -/
def State.ideKey (s : State) (m : Mailbox) (body : List Byte) (sg : Signed) : State :=
  let mat := s.ideMaterial body
  s.request m (m == .pf0 && s.owned && mat.isSome) s.nv.dev.owner sg (0x17 :: body) fun s =>
    match mat with
    | some (i, k) => { s with pcie := { s.pcie with ideKeys := alIns s.pcie.ideKeys i k } }
    | none => s

/-- The next start-up brings the lifecycle state into effect, and Esfort performs it (R501). -/
def State.lifeMoves (s : State) (target : Nat) : State :=
  let s := { s with nv := { s.nv with lifeNext := some target, returnHalf := false } }
  s.closeAll.resetDomains

/-- LIFECYCLE (R501). Assumption 70 (DEDUCED). -/
def State.lifecycleReq (s : State) (m : Mailbox) (target : Nat) (sg : Signed) : State :=
  let body : List Byte := [0x20, BitVec.ofNat 8 target]
  let here := reaches m .dev
  let ready := s.nv.dev.owner.isSome && s.nv.dev.seed.isSome
  match s.lifecycle, target with
  | 0, 1 => s.request m here (imageKey sg) sg body fun s => s.lifeMoves 1
  | 1, 2 => s.request m (here && ready) s.nv.dev.owner sg body fun s => s.lifeMoves 2
  | 2, 3 =>
    if s.nv.returnHalf && (imageKey sg).isSome then s.request m here (imageKey sg) sg body fun s => s.lifeMoves 3
    else s.request m here s.nv.dev.owner sg body fun s => { s with nv := { s.nv with returnHalf := true } }
  | _, _ => if s.esfUp m then s.doeFail m else s

/-- FA_RESPONSE (R501, R503). -/
def State.faResponse (s : State) (m : Mailbox) (sc : Scope) (sg : Signed) : State :=
  let key := if s.lifecycle = 3 then (if sc = .dev then imageKey sg else none) else (s.keysOf sc).debug
  let ok := match s.esf.chal[mailboxNo m], key with
    | some c, some k =>
      Config.mldsaVerify k (c ++ deviceId ++ [scopeByte sc, BitVec.ofNat 8 s.lifecycle]) (ascii "KR9600-FA") sg.sig
    | _, _ => false
  if s.esfUp m = false then s
  else if reaches m sc && decide (2 ≤ s.lifecycle) && ok then ((s.consumeChal m).openSession sc 1).doeOk []
  else s.doeFail m

/-- Whether the back-off of R504 is running. -/
def State.backingOff (s : State) : Bool := bits s.esfStat 47 32 != 0

/-- One more password failure. -/
def State.pwFailure (s : State) : State :=
  let f := s.fld oESF_STAT 31 28 + 1
  let s := (s.setFld oESF_STAT 31 28 f).setFld oESF_STAT 47 32 (if 10 ≤ f then 0xFFFF else 2 ^ (f - 1))
  { s with esf := { s.esf with backoffAt := s.now } }

/-- FA_PASSWORD (R504). Assumption 68 (DEDUCED). -/
def State.faPassword (s : State) (m : Mailbox) (sc : Scope) (pw : List Byte) : State :=
  let k := s.keysOf sc
  if s.esfUp m = false then s
  else if !reaches m sc || s.lifecycle != 2 then s.doeRefuse
  else if s.backingOff then s.doeError
  else if pw.length < 16 ∨ 64 < pw.length then s.doeError
  else if k.digest ≠ [] ∧ sha3_384 (k.salt ++ pw) = k.digest then (s.openSession sc 2).doeOk []
  else s.pwFailure.doeError

/-- FA_CLOSE: access that is open by lifecycle stays open. Assumption 68 (DEDUCED). -/
def State.faClose (s : State) (m : Mailbox) (sc : Scope) : State :=
  if s.esfUp m = false then s
  else if reaches m sc = false then s.doeRefuse
  else (if sc = .dev ∧ s.lifecycle < 2 then s else s.closeSession sc).doeOk []

/-- PW_BACKOFF_EXPIRY: the period ends. -/
def State.backoffEnds (s : State) : State :=
  let b := s.fld oESF_STAT 47 32
  if b = 0 ∨ b = 0xFFFF then s
  else
    let s := if s.rstL then s.advanceTo (s.esf.backoffAt + BitVec.ofNat 64 (b * 1000000000)) else s
    s.setFld oESF_STAT 47 32 0

/-- JTAG_BOUNDARY_CONTROL (R502): the output lands are under boundary control and work stands still.
Assumption 71 (DEDUCED). -/
def State.boundaryControl (s : State) : State :=
  if s.auxOn then ({ s with esf := { s.esf with boundary := true } }).accessEvent 0xFF 4 else s

/-! The requests and events. -/

/-- GET_CHALLENGE (R497). -/
def execGetChallenge (m : Mailbox) (s : State) : Host.Outcome State Fault Refusal := .next (s.getChallenge m)
/-- GET_IDENTITY (R495). -/
def execGetIdentity (m : Mailbox) (s : State) : Host.Outcome State Fault Refusal := .next (s.getIdentity m)
/-- ATTEST (R500). -/
def execAttest (m : Mailbox) (nonce : List Byte) (s : State) : Host.Outcome State Fault Refusal := .next (s.attest m nonce)
/-- EXTEND (R499). -/
def execExtend (m : Mailbox) (v : List Byte) (s : State) : Host.Outcome State Fault Refusal := .next (s.extend m v)
/-- ENROLL_OWNER (R497). -/
def execEnrollOwner (m : Mailbox) (owner debug : List Byte) (sg : Signed) (s : State) : Host.Outcome State Fault Refusal :=
  .next (s.enrollOwner m owner debug sg)
/-- TRANSFER_OWNER (R498). -/
def execTransferOwner (m : Mailbox) (owner debug : List Byte) (clearParts : Bool) (sg : Signed) (s : State) :
    Host.Outcome State Fault Refusal :=
  .next (s.transferOwner m owner debug clearParts sg)
/-- ENROLL_PART (R498). -/
def execEnrollPart (m : Mailbox) (n : PartId) (owner debug : List Byte) (sg : Signed) (s : State) :
    Host.Outcome State Fault Refusal :=
  .next (s.enrollPart m n owner debug sg)
/-- SET_DEBUG (R497). -/
def execSetDebug (m : Mailbox) (sc : Scope) (debug : List Byte) (sg : Signed) (s : State) : Host.Outcome State Fault Refusal :=
  .next (s.setDebug m sc debug sg)
/-- SET_PASSWORD (R497). -/
def execSetPassword (m : Mailbox) (sc : Scope) (salt digest : List Byte) (sg : Signed) (s : State) :
    Host.Outcome State Fault Refusal :=
  .next (s.setPassword m sc salt digest sg)
/-- KWK_SET (R498). -/
def execKwkSet (m : Mailbox) (sc : Scope) (underD : Bool) (seed : List Byte) (sg : Signed) (s : State) :
    Host.Outcome State Fault Refusal :=
  .next (s.kwkSet m sc underD seed sg)
/-- SVN_ADVANCE (R493). -/
def execSvnAdvance (m : Mailbox) (kind : BitVec 16) (svn : BitVec 16) (sg : Signed) (s : State) :
    Host.Outcome State Fault Refusal :=
  .next (s.svnAdvance m kind svn sg)
/-- IDE_KEY (R559). -/
def execIdeKey (m : Mailbox) (body : List Byte) (sg : Signed) (s : State) : Host.Outcome State Fault Refusal :=
  .next (s.ideKey m body sg)
/-- LIFECYCLE (R501). -/
def execLifecycle (m : Mailbox) (target : BitVec 4) (sg : Signed) (s : State) : Host.Outcome State Fault Refusal :=
  .next (s.lifecycleReq m target.toNat sg)
/-- FA_RESPONSE (R503). -/
def execFaResponse (m : Mailbox) (sc : Scope) (sg : Signed) (s : State) : Host.Outcome State Fault Refusal :=
  .next (s.faResponse m sc sg)
/-- FA_PASSWORD (R504). -/
def execFaPassword (m : Mailbox) (sc : Scope) (pw : List Byte) (s : State) : Host.Outcome State Fault Refusal :=
  .next (s.faPassword m sc pw)
/-- FA_CLOSE (R505). -/
def execFaClose (m : Mailbox) (sc : Scope) (s : State) : Host.Outcome State Fault Refusal := .next (s.faClose m sc)
/-- CHALLENGE_EXPIRY (R497). -/
def execChallengeExpiry (m : Mailbox) (s : State) : Host.Outcome State Fault Refusal := .next (s.consumeChal m)
/-- PW_BACKOFF_EXPIRY (R504). -/
def execPwBackoffExpiry (s : State) : Host.Outcome State Fault Refusal := .next s.backoffEnds
/-- JTAG_BOUNDARY_CONTROL (R502). -/
def execJtagBoundaryControl (s : State) : Host.Outcome State Fault Refusal := .next s.boundaryControl

end Sys2Proof.Machine
end

