-- ==== Sys2Proof/Machine/Spare.lean ====
section
/-!
DEFINITION. Instruction retry, core sparing and paired execution (chapter 10), and the restart of a logical CP (R85, R210,
R282, R593).
-/

namespace Sys2Proof.Machine

/-! States of CS_BIND, CMP_PSTAT and CMP_UNIT. -/

abbrev bFAILED : Nat := 0
abbrev bSPARE : Nat := 1
abbrev bBOUND : Nat := 2
abbrev bFOLLOWER : Nat := 3
abbrev bSPARING : Nat := 4
abbrev bTESTING : Nat := 5
abbrev pOFF : Nat := 0
abbrev pFORMING : Nat := 1
abbrev pPAIRED : Nat := 2
abbrev pSUSPECT : Nat := 3
abbrev pDEGRADED : Nat := 4
abbrev pUNCOMPARED : Nat := 5
abbrev pBROKEN : Nat := 6
abbrev uFAILED : Nat := 0
abbrev uSPARE : Nat := 1
abbrev uSERVICE : Nat := 2
abbrev uTESTING : Nat := 3

def State.bindSt (s : State) (t : SiteId) : Nat := s.fld (oCS_BIND t) 2 0
/-- CS_BIND.STATE: a SPARE site is held CLOCK_STOPPED, a site that works is ON (R582). -/
def State.setBindSt (s : State) (t : SiteId) (v : Nat) : State :=
  let s := s.setFld (oCS_BIND t) 2 0 v
  if v = bFAILED then s else s.setDomain t (if v = bSPARE then 1 else 0)
/-- CS_BIND names a CP and a partition. -/
def State.bindTo (s : State) (t : SiteId) (st : Nat) (k : CpId) (part : Option PartId) : State :=
  ((s.setBindSt t st).setFld (oCS_BIND t) 11 8 k).setFld (oCS_BIND t) 19 16 (match part with | some n => n.val | none => 0xF)
def State.pairSt (s : State) (n : PairId) : Nat := s.fld (oCMP_PSTAT n) 3 0
def State.setPairSt (s : State) (n : PairId) (v : Nat) : State := s.setFld (oCMP_PSTAT n) 3 0 v
def State.modPair (s : State) (n : PairId) (f : Pair → Pair) : State := { s with pairs := s.pairs.set n (f s.pairs[n]) }
/-- The logical CP that a pair runs. -/
def State.pairCp (s : State) (n : PairId) : CpId := cpField (s.fld (oCMP_PAIR n) 35 32)
/-- The follower of a pair. -/
def State.follower (s : State) (n : PairId) : Option SiteId :=
  if h : s.fld (oCMP_PSTAT n) 20 16 < 20 then some ⟨s.fld (oCMP_PSTAT n) 20 16, h⟩ else none
/-- The leader and the follower run and are compared. -/
def State.pairRuns (s : State) (n : PairId) : Bool := s.pairSt n == pPAIRED || s.pairSt n == pSUSPECT

/-! Restart of a CP. -/

/-- R472: the entry capability of CP_k: its rank among the CPs of its partition. -/
def State.entryCap (s : State) (k : CpId) : Cap :=
  let j := match s.partOf k with
    | some n => (List.range k.val).countP fun i => s.flag (oPRT_CTL n) i
    | none => 0
  ⟨BitVec.ofNat 64 (4 * j), BitVec.ofNat 40 (0x200000 - 4 * j), pLOAD ||| pEXEC ||| pLDCAP ||| pSYS, 0, false⟩

/-- R85, R472, R593: CP_k is in its reset state; MCHK, TICK, CHAN, HOST and LKP stay pending. -/
def State.restartCp (s : State) (k : CpId) : State :=
  let keep := (s.cr k).evpend &&& 0x79
  let r := { CpRegs.init (s.entryCap k) with evpend := keep }
  let s := s.modCp k fun c =>
    { c with regs := r, ckpt := r, held := [], retired := 0, attempts := 0, arith := none, ckptArith := none, evDue := false, halted := false, debugHalt := false,
             checkstop := false, checkstopCore := false, waiting := false, syncWait := none, syncGo := false,
             custInsn := false, cycBase := 0, cycSince := s.now }
  match s.pairOf k with
  | some n =>
    ((s.modPair n fun p => { Pair.reset with verified := r, testing := p.testing, copying := p.copying }).setDsb n []).setFld
      (oCMP_PSTAT n) 48 36 0
  | none => s

/-- The record and the notice of R18, R210 and R282. Assumption 38 (DEDUCED). -/
def State.cpNotice (s : State) (k : CpId) (sev : Fin 8) (kind : Nat) : State :=
  let s := s.record (mkRec sev srcLkp 0xF007 (s.partOf k) (some k) 0 (BitVec.ofNat 64 kind))
  match s.partOf k with
  | some n => s.notice n kind k
  | none => s

/-- LKP_CP_RESTART (R210, R593): a CP that has checkstopped is restarted, once it has been spared where R210 asks for it. -/
def State.lkpRestart (s : State) (k : CpId) : State :=
  let c := s.cp k
  if c.checkstop && !c.checkstopCore && c.inService && !c.frozen then (s.restartCp k).returnToService k |>.cpNotice k 4 2 else s

/-- LKP_CP_RESTART. -/
def execLkpCpRestart (k : CpId) (s : State) : Host.Outcome State Fault Refusal := .next (s.lkpRestart k)

/-! Checkpoints and retry. -/

/-- The CP executes, or waits in WAIT, in a customer routine or for room in its pair. -/
def State.executing (s : State) (k : CpId) : Bool := s.standing k

/-- CHECKPOINT (R271 to R273). -/
def execCheckpoint (k : CpId) (s : State) : Host.Outcome State Fault Refusal :=
  .next (if s.executing k && !(s.cp k).custInsn then s.checkpoint k else s)

/-- INFO0 of a retry record (R529). -/
def checkCode : CheckKind → Nat
  | .residue => 1
  | .parity => 2
  | .regEcc => 3
  | .ckptEcc => 4
  | .ctlStore => 5

/-- The site of CP_k is to be spared: it is frozen and shows SPARING (R281). -/
def State.freezeSite (s : State) (k : CpId) (t : SiteId) : State :=
  (s.setBindSt t bSPARING).modCp k fun c => { c with frozen := true }

/-! Sites. -/

/-- The customer region of a core site begins here (R219). -/
abbrev cpCustBase : Nat := 0x3000

/-- R476: a site is cleared before it passes on. -/
def State.clearSite (s : State) (t : SiteId) : State :=
  let s := s.l2Empty t true
  let s := s.modSite t fun x =>
    { x with l1i := [], l1d := [], l2 := [], l1dStale := [], l1iBad := [], rlb := [], rlbD := [], rlbBad := [], spareDue := false
             seq := { Seq.reset with store := x.seq.store.filter fun w => w.1 < cpCustBase
                                     entries := x.seq.entries.filter fun a => a < cpCustBase } }
  (s.setRegs (oCS_CDT t 0) (List.replicate 64 0)).setReg (oSITE t 0x100) (insBits (insBits (s.reg (oSITE t 0x100)) 63 48 0) 0 0 0)

/-- R279: what sparing copies to the new site beside the CP's state: the customer region and decode table, L2_LOCK, L2_CTL
and the clock; a way that is locked is reserved for the line that the old site held in it (R280). -/
def State.copySite (s : State) (old new : SiteId) : State :=
  let q := (s.site old).seq
  let cust := q.store.filter fun w => cpCustBase ≤ w.1
  let ents := q.entries.filter fun a => cpCustBase ≤ a
  let s := s.modSite new fun x =>
    { x with seq := { x.seq with store := (x.seq.store.filter fun w => w.1 < cpCustBase) ++ cust
                                 entries := (x.seq.entries.filter fun a => a < cpCustBase) ++ ents } }
  let s := s.setRegs (oCS_CDT new 0) ((List.range 64).map fun i => s.reg (oCS_CDT old i))
  let mc := s.reg (oSITE old 0x100)
  let s := s.setReg (oSITE new 0x100) (insBits (insBits (s.reg (oSITE new 0x100)) 63 48 (bits mc 63 48)) 0 0 (bits mc 0 0))
  let s := s.setReg (oL2_LOCK new) (s.reg (oL2_LOCK old))
  let s := s.setReg (oL2_CTL new) (insBits (s.reg (oL2_CTL old)) 2 1 0)
  let clk := s.reg (oCS_CLK old)
  let s := s.setReg (oCS_CLK new) (insBits (insBits (s.reg (oCS_CLK new)) 7 0 (bits clk 7 0)) 23 16 (bits clk 23 16))
  let keep := fun (x : CSet) => (⟨(x.ways.zipIdx).map fun p =>
      match p.1 with
      | some l => if s.l2Locked old p.2 then some ⟨l.la, false, true⟩ else none
      | none => none, 0⟩ : CSet)
  let arr := ((s.site old).l2.map fun x => (x.1, keep x.2)).filter fun x => x.2.ways.any Option.isSome
  s.modSite new fun x => { x with l2 := arr }

/-- A SPARE site that no sparing in progress has taken. -/
def State.spareFree (s : State) (t : SiteId) : Bool :=
  s.bindSt t == bSPARE && (List.finRange 16).all fun k => (s.cp k).spareTo != some t

/-- R278, steps 1 and 2: the lowest SPARE site of the same compute die, then of the other. -/
def State.freeSpare (s : State) (old : SiteId) : Option SiteId :=
  match (List.finRange 20).find? fun t => s.spareFree t && t.val / 10 == old.val / 10 with
  | some t => some t
  | none => (List.finRange 20).find? s.spareFree

/-! Pairs. -/

/-- The events that the log says were taken: EVPEND bit and machine check (R284). -/
def logEvents (l : List LogEntry) : List (Nat × Option (BitVec 32 × Word)) :=
  l.filterMap fun e => match e with | .event _ b m => some (b, m) | .value _ => none

/-- R275, R288: both copies stand at the last verified checkpoint, with the arithmetic trap that was pending then; the
comparator holds nothing. An event that was taken since is pending again. -/
def State.pairRollback (s : State) (n : PairId) : State :=
  let k := s.pairCp n
  let p := s.pairs[n]
  let evs := logEvents p.log
  let mcks := evs.filterMap (·.2)
  let s := s.modCp k fun c =>
    let pend := evs.foldl (fun (w : Word) e => insBits w e.1 e.1 1) c.regs.evpend
    { c with regs := { p.verified with evpend := insBits pend 1 1 p.verArith.isSome.toNat }, ckpt := p.verified,
             arith := p.verArith, ckptArith := p.verArith, held := [], retired := 0, evDue := false,
             mck := (mcks ++ c.mck).take 8,
             mckOvf := c.mckOvf || evs.any (fun e => e.1 == 0 && e.2.isNone) || decide (8 < mcks.length + c.mck.length)
             waiting := false, syncWait := none, syncGo := false, custInsn := false }
  ((s.modPair n fun p =>
      { p with log := [], logMark := 0, ivals := [], retired := p.retired - s.fld (oCMP_PSTAT n) 48 36 }).setDsb n []).setFld
    (oCMP_PSTAT n) 48 36 0

/-- The follower leaves its pair and its site is cleared. -/
def State.dropFollower (s : State) (n : PairId) (st : Nat) : State :=
  let s := match s.follower n with
    | some u => ((s.clearSite u).setBindSt u st).setFld (oCS_BIND u) 19 16 0xF
    | none => s
  s.setFld (oCMP_PSTAT n) 20 16 0x1F

/-- R289, R295: a follower for pair n of a leader's site, taken without the donor step; it re-pairs at the leader's next
checkpoint. Whether there was one. -/
def State.bindFollower (s : State) (n : PairId) (leader : SiteId) : State × Bool :=
  let k := s.pairCp n
  let want := s.fld (oCMP_PAIR n) 4 0
  let pref := (List.finRange 20).find? fun t => s.spareFree t && t.val == want
  match pref.orElse (fun _ => s.freeSpare leader) with
  | some u =>
    let s := ((s.copySite leader u).bindTo u bFOLLOWER k (s.partOf k)).setFld (oCMP_PSTAT n) 20 16 u
    (s.modPair n fun p => { p with repairDue := true }, true)
  | none => (s, false)

/-- R275, R276: a retry of a core site: count, record naming the site and the check, the rate of the last second. -/
def State.retryNote (s : State) (k : CpId) (t : SiteId) (check : CheckKind) (n : Nat) : State :=
  let s := s.count (cSITE t 2)
  let s := s.record (mkRec 2 t 2 (s.partOf k) (some k) 0 (BitVec.ofNat 64 (checkCode check)) (BitVec.ofNat 64 n))
  let times := ((s.site t).retryTimes.filter fun x => s.now.toNat < x.toNat + 1000000000) ++ [s.now]
  let rate := s.fld oCMP_CTL 15 8
  let tooMany := rate != 0 && decide (rate < times.length)
  s.modSite t fun x => { x with retryTimes := times, spareDue := x.spareDue || tooMany }

/-- CP_TRANSIENT_FAULT (R274 to R276): rollback, count, record; the fourth in an interval is persistent.
Assumption 38 (DEDUCED). -/
def State.transientFault (s : State) (k : CpId) (check : CheckKind) : State :=
  match s.siteOf k with
  | none => s
  | some t =>
    let n := (s.cp k).attempts + 1
    let s := ((s.retryNote k t check n).rollback k).modCp k fun c => { c with attempts := n }
    if 4 ≤ n then s.freezeSite k t else s

/-- R289: a follower meets a cause of R277: both copies roll back, its site fails and leaves the pair, and the leader goes
on; a new follower re-pairs when there is one. -/
def State.followerFails (s : State) (n : PairId) : State :=
  match s.follower n, s.siteOf (s.pairCp n) with
  | some u, some leader =>
    let k := s.pairCp n
    let s := (s.pairRollback n).dropFollower n bFAILED
    let s := (s.repairAdd 3 u 0 2 2).setPairSt n pDEGRADED
    let s := s.record (mkRec 4 u 0xF006 (s.partOf k) (some k) 0 0x1F (BitVec.ofNat 64 u))
    (s.bindFollower n leader).1
  | _, _ => s

/-- A transient fault of the follower of CP_k's pair: its own retry, which only the counts and the record show; the fourth
in an interval is persistent (R276, R289). Assumption 38 (DEDUCED). -/
def State.followerFault (s : State) (k : CpId) (check : CheckKind) : State :=
  match s.pairOf k with
  | none => s
  | some n =>
    match s.follower n with
    | none => s
    | some u =>
      let m := s.pairs[n].attempts + 1
      let s := (s.retryNote k u check m).modPair n fun p => { p with attempts := m }
      if 4 ≤ m then s.followerFails n else s

/-- CP_TRANSIENT_FAULT. -/
def execCpTransientFault (k : CpId) (check : CopyCheck) (s : State) : Host.Outcome State Fault Refusal :=
  .next (if check.follower then s.followerFault k check.check
    else if s.executing k then s.transientFault k check.check else s)

/-- A copy that begins at once: the pair runs with both members in the leader's state. Assumption 40 (DEDUCED). -/
def State.pairForm (s : State) (n : PairId) : State :=
  let r := (s.cr (s.pairCp n))
  let s := s.modPair n fun _ =>
    { Pair.reset with verified := r, verArith := (s.cp (s.pairCp n)).arith }
  ((s.setDsb n []).setFld (oCMP_PSTAT n) 48 36 0).setPairSt n pPAIRED

/-! Sparing: what leaves service. -/

/-- The site from which CP_k is being moved. -/
def State.sparingSite (s : State) (k : CpId) : Option SiteId :=
  (List.finRange 20).find? fun t => s.bindSt t == bSPARING && s.fld (oCS_BIND t) 11 8 == k

/-- R18: no spare remains; the CP leaves service. Assumption 38 (DEDUCED). -/
def State.outOfService (s : State) (k : CpId) (t : SiteId) : State :=
  let part := s.partOf k
  let s := ((s.clearSite t).setBindSt t bFAILED).setFld (oCS_BIND t) 19 16 0xF
  let s := s.repairAdd 3 t 0 2 2
  let s := s.modCp k fun c => { c with inService := false, frozen := false, held := [], checkstop := false, checkstopCore := false }
  let s := match part with | some n => s.showService n | none => s
  s.cpNotice k 1 1

/-- The Lockkeeper mailbox completes a command (R570). -/
def State.lkpDone (s : State) (result : Nat) (tag : Byte) : State :=
  ((((s.setFlag oLKP_STAT 0 false).setFlag oLKP_STAT 1 true).setFld oLKP_STAT 7 4 result).setFld oLKP_STAT 15 8 tag.toNat).raiseMsix 0 1

/-! Comparators (R290 to R293). -/

/-- SOURCE of a comparator (R528). -/
def srcCmp (c : Nat) : Nat := 0x70 + c

/-- A comparator is bound to a pair: a rebinding leaves a record (R527). -/
def State.cmpBind (s : State) (c : CompId) (n : PairId) : State :=
  let was := s.fld (oCMP_PSTAT n) 35 32
  let s := ((s.setFld (oCMP_UNIT c) 2 0 uSERVICE).setFld (oCMP_UNIT c) 7 4 n).setFld (oCMP_PSTAT n) 35 32 c
  if was = c ∨ was = 0xF then s else s.record (mkRec 4 (srcCmp c) 23)

/-- The spare comparators in the order of R290. -/
def State.spareCmp (s : State) : Option CompId := [10, 11].find? fun c => s.fld (oCMP_UNIT c) 2 0 == uSPARE

/-! Debug and re-pairing (R294 to R296). -/

/-- R291: a comparator is tested before it is bound to pair n. -/
def State.cmpTest (s : State) (c : CompId) (n : PairId) : State :=
  (s.setFld (oCMP_UNIT c) 2 0 uTESTING).setFld (oCMP_UNIT c) 7 4 n

/-- The comparator of a pair: it serves the pair, or is under the test before that. -/
def State.cmpOf (s : State) (n : PairId) : Option CompId :=
  (List.finRange 12).find? fun c => s.fld (oCMP_UNIT c) 7 4 == n.val
    && (s.fld (oCMP_UNIT c) 2 0 == uSERVICE || s.fld (oCMP_UNIT c) 2 0 == uTESTING)

/-- The comparator for a pair that forms or re-forms: the one it has, else its own number, else a spare (R290). -/
def State.cmpForming (s : State) (n : PairId) : Option CompId :=
  (s.cmpOf n).orElse fun _ =>
    let c : CompId := ⟨n.val, by omega⟩
    if s.fld (oCMP_UNIT c) 2 0 = uSPARE then some c else s.spareCmp

/-- A comparator is bound already, or its test begins. Whether there is one. -/
def State.cmpStart (s : State) (n : PairId) : State × Bool :=
  match s.cmpForming n with
  | some c => (if s.cmpOf n = some c then s else s.cmpTest c n, true)
  | none => (s, false)

/-- A FORMING pair whose comparator and follower are bound runs once its CP enters service. -/
def State.pairReady (s : State) (n : PairId) : Bool :=
  s.pairSt n == pFORMING && s.fld (oCMP_PSTAT n) 35 32 != 0xF && (s.follower n).isSome

/-- REPAIR was written (R295): the pair re-forms at the leader's next checkpoint when a follower and a comparator are to be
had; else an access record. -/
def State.repairEffect (s : State) (i : Initiator) (n : PairId) (recOff : Nat) : State :=
  let st := s.pairSt n
  let k := s.pairCp n
  if st < pDEGRADED ∨ pBROKEN < st then s
  else
    match s.siteOf k, s.cmpForming n with
    | some leader, some _ =>
      if (s.follower n).isSome then (s.cmpStart n).1.modPair n fun p => { p with repairDue := true }
      else
        let r := s.bindFollower n leader
        if r.2 then (r.1.cmpStart n).1 else s.accessRecord i recOff true
    | _, _ => s.accessRecord i recOff true

/-- R294: a halt that waited for the end of the sparing (R297). -/
def State.lateHalt (s : State) (k : CpId) : State :=
  if (s.cp k).haltDue then
    let s := s.modCp k fun c => { c with haltDue := false, debugHalt := true }
    match (List.finRange 10).find? fun (n : PairId) => s.pairCp n == k && s.pairSt n != pOFF with
    | some n => (s.modPair n fun p => { p with repairDue := false, copying := false }).setPairSt n pBROKEN
    | none => s
  else s

/-- SPARING_COMPLETE (R279 to R282, R289). Assumption 38 (DEDUCED). -/
def State.spareDone (s : State) (k : CpId) : State :=
  match s.sparingSite k, (s.cp k).spareTo with
  | some old, some new =>
    let part := s.partOf k
    let pair := s.pairOf k
    let lost := (s.cp k).ckptLost
    let s := if pair.isSome then s else s.copySite old new
    let s := s.bindTo new bBOUND k part
    let s := ((s.clearSite old).setBindSt old bFAILED).setFld (oCS_BIND old) 19 16 0xF
    let s := s.repairAdd 3 old 0 2 2
    let s := s.modCp k fun c =>
      { c with frozen := false, spareTo := none, ckptLost := false, checkstopCore := false, cycBase := 0, cycSince := s.now,
               regs := { c.ckpt with evpend := c.regs.evpend }, arith := c.ckptArith }
    let s := s.record (mkRec 4 old 0xF006 part (some k) 0 (BitVec.ofNat 64 new) (BitVec.ofNat 64 old))
    let s := match part with | some m => s.notice m 0x03 k | none => s
    let s := match pair with
      | some n =>
        let s := (s.setPairSt n pDEGRADED).setFld (oCMP_PSTAT n) 20 16 0x1F
        (s.bindFollower n new).1
      | none => s
    let s := if lost then ((s.restartCp k).returnToService k).cpNotice k 5 2 else s
    let s := s.lateHalt k
    match s.lkpSpare with
    | some (j, tag) => if j = k then { s.lkpDone 0 tag with lkpSpare := none } else s
    | none => s
  | _, _ => s

/-- SPARING_COMPLETE. -/
def execSparingComplete (k : CpId) (s : State) : Host.Outcome State Fault Refusal := .next (s.spareDone k)

end Sys2Proof.Machine
end

