-- ==== Sys2Proof/Machine/Custom.lean ====
section
/-!
DEFINITION. Microcode images in control stores and decode tables (R219, R237 to R239, R516).
-/

namespace Sys2Proof.Machine

/-- Microwords of an image replace those of a region. -/
def Seq.load (q : Seq) (lo hi : Nat) (ws : List (Nat × BitVec 160 × Bool)) : Seq :=
  let out := fun (a : Nat) => a < lo || hi ≤ a
  { q with
    store := (q.store.filter fun w => out w.1) ++ ws.map fun w => (w.1, w.2.1)
    entries := (q.entries.filter out) ++ (ws.filter fun w => w.2.2).map (·.1) }

/-- The microwords of an image by location. -/
def imageWords (im : McImage) : List (Nat × BitVec 160 × Bool) := im.words.zipIdx.map fun w => (im.base.toNat + w.2, w.1)

/-- A core site takes a customer image and its decode table. -/
def State.siteCust (s : State) (t : SiteId) (im : McImage) : State :=
  let s := s.modSite t fun x => { x with seq := x.seq.load cpCustBase 0x4000 (imageWords im) }
  let s := s.setRegs (oCS_CDT t 0) (im.cdt.take 64)
  (s.setFld (oSITE t 0x100) 63 48 im.serial.toNat).setFlag (oSITE t 0x100) 0 true

/-- A core site's customer region is emptied. -/
def State.siteNoCust (s : State) (t : SiteId) : State :=
  let s := s.modSite t fun x => { x with seq := x.seq.load cpCustBase 0x4000 [] }
  let s := s.setRegs (oCS_CDT t 0) (List.replicate 64 0)
  (s.setFld (oSITE t 0x100) 63 48 0).setFlag (oSITE t 0x100) 0 false

/-- The customer region of an engine begins here (R219). -/
abbrev ceCustAt : Nat := 0x1800

/-- An engine takes a customer image, or its customer region is emptied. -/
def State.engCust (s : State) (e : UnitId) (im : Option McImage) : State :=
  let ws := match im with | some im => imageWords im | none => []
  let serial := match im with | some im => im.serial.toNat | none => 0
  let s := s.modEng e fun g => { g with seq := g.seq.load ceCustAt 0x2000 ws }
  (s.setFld (oCE e 0x100) 63 48 serial).setFlag (oCE e 0x100) 0 im.isSome

/-- The customer CP image in force for partition n: the last of several. Assumption 37 (DEDUCED). -/
def State.custFor (s : State) (n : Nat) : Option McImage := s.cfg.cust.reverse.find? fun im => im.kind == 2 && im.part == n

/-- A CP of partition n runs on a site: the site holds the partition's image (R238). -/
def State.custToCp (s : State) (n : PartId) (k : CpId) : State :=
  match s.siteOf k with
  | some t => (match s.custFor n with | some im => s.siteCust t im | none => s.siteNoCust t)
  | none => s

end Sys2Proof.Machine
end

