-- ==== Sys2Proof/Machine/Partition.lean ====
section
/-!
DEFINITION. Partitions (chapter 17): the partition commands of R470, the root block and the entry into service (R472, R473),
and the clearing of frames (R474, R475, R477).
-/

namespace Sys2Proof.Machine

/-! States of PRT_STAT.STATE. -/

abbrev ptNONE : Nat := 0
abbrev ptLOADING : Nat := 1
abbrev ptRUNNING : Nat := 2
abbrev ptHALTED : Nat := 3
abbrev ptCLEARING : Nat := 4

def State.partState (s : State) (n : PartId) : Nat := s.fld (oPRT_STAT n) 2 0

/-- The logical CPs of a partition. -/
def State.partCps (s : State) (n : PartId) : List CpId :=
  (List.finRange 16).filter fun k => s.flag (oPRT_CTL n) 63 && s.flag (oPRT_CTL n) k

/-- START and RESTART wait for the next tick boundary. -/
def State.setStartDue (s : State) (n : PartId) (b : Bool) : State :=
  { s with startDue := (s.startDue &&& ~~~(BitVec.ofNat 8 (2 ^ n.val))) ||| (if b then BitVec.ofNat 8 (2 ^ n.val) else 0) }

/-- R470: what PRT_CMD does; a command that the state does not allow leaves an access record. Assumption 63 (DEDUCED). -/
def State.prtCommand (s : State) (i : Initiator) (n : PartId) (cmd recOff : Nat) : State :=
  let st := s.partState n
  let refuse := s.accessRecord i recOff true
  match cmd with
  | 1 => if st = ptLOADING then s.setStartDue n true else refuse
  | 2 =>
    if st = ptRUNNING then
      (s.forEach (s.partCps n) fun k s => s.modCp k fun c => { c with halted := true }).setPartState n ptHALTED
    else refuse
  | 3 =>
    if st = ptHALTED then
      (s.forEach (s.partCps n) fun k s => s.modCp k fun c => { c with halted := false }).setPartState n ptRUNNING
    else refuse
  | 4 =>
    if st = ptRUNNING ∨ st = ptHALTED then
      (s.forEach (List.finRange 9) fun e s => s.cancelWhere e 0 fun p => p.part = n).setStartDue n true
    else refuse
  | _ => s

/-! The root block (R473). -/

/-- The root storage capability. -/
def State.rootCap (s : State) (n : PartId) : Cap :=
  let eps := (List.range 9).any fun u => s.ownsUnit n u
  let xf := s.fld (oCIP_PART n) 7 0 != 0 || s.fld (oCIP_PART n) 47 32 != 0
    || s.fld (oCMZ_PART n) 15 0 != 0 || s.fld (oCMZ_PART n) 47 32 != 0
  let tick := s.fld (oTCK_PART n) 23 0 != 0 || (List.range 9).any fun e => s.reg (oCE_RESV e n) != 0
  ⟨0, BitVec.ofNat 40 (s.rdtLen n * 2 ^ 21),
    pLOAD ||| pSTORE ||| pEXEC ||| pLDCAP ||| pSTCAP ||| pSYS
      ||| (if eps then pPORT else 0) ||| (if xf then pENGINE else 0) ||| (if tick then pTICK else 0), 0, false⟩

/-- The root sealing capability and the register capability. -/
def sealCap : Cap := ⟨1, 0xFD, pSEAL ||| pUNSEAL, 0, false⟩
def windowCap : Cap := ⟨BitVec.ofNat 64 windowBase, 0x100000, pLOAD ||| pSTORE, 0, false⟩

/-- The 512 words of the root block. -/
def State.rootBlock (s : State) (n : PartId) : List TWord :=
  let two := fun (c : Cap) => [c.pair.1, c.pair.2]
  two (s.rootCap n) ++ two sealCap
    ++ [TWord.ofRaw (BitVec.ofNat 64 (n.val + s.fld (oPRT_CTL n) 15 0 * 2 ^ 16)), TWord.ofRaw (BitVec.ofNat 64 s.tickNum)]
    ++ two windowCap ++ List.replicate 504 TWord.raw0

/-- The block is written into region 0 of the partition, its capabilities as whole pairs. Assumption 64 (DEDUCED). -/
def State.writeRoot (s : State) (n : PartId) : State :=
  match s.xlate n 0x1FF000 false with
  | .ok pa _ => s.forEach ((s.rootBlock n).zipIdx) fun (w, i) s => s.dmaStore none ⟨pa + 8 * i, w.data, 0xFF, some w.tag, none, true⟩
  | _ => s

/-! Entry into service (R17, R85, R472). -/

/-- A CP that no site runs takes a SPARE site (R17, R18), here the lowest. Assumption 84 (DESIGN CHOICE). -/
def State.bindIfFree (s : State) (n : PartId) (k : CpId) : State :=
  if (s.siteOf k).isSome ∨ (s.sparingSite k).isSome then s
  else
    match (List.finRange 20).find? s.spareFree with
    | some t => (s.bindTo t bBOUND k (some n)).custToCp n k
    | none => s

/-- CMP_PAIR.ENABLE is set: a follower is bound, a comparator is tested and then bound, and the pair is FORMING (R283, R290,
R291). -/
def State.pairOn (s : State) (n : PairId) : State :=
  match s.siteOf (s.pairCp n) with
  | some leader =>
    let c := s.cmpStart n
    if !c.2 then s.setPairSt n pUNCOMPARED
    else
      let r := c.1.bindFollower n leader
      if r.2 then r.1.setPairSt n pFORMING else s.setPairSt n pDEGRADED
  | none => s.setPairSt n pFORMING

/-- One CP enters service in its reset state; a CP without a site stays out. -/
def State.cpEnters (s : State) (n : PartId) (k : CpId) : State :=
  let s := s.bindIfFree n k
  if (s.siteOf k).isNone ∧ (s.sparingSite k).isNone then s
  else
    let s := (s.restartCp k).enterService n k
    match (List.finRange 10).find? fun (m : PairId) => s.pairSt m == pFORMING && s.pairCp m == k with
    | some m => if s.pairReady m then s.pairForm m else if (s.follower m).isSome then s else s.pairOn m
    | none => s

/-- PARTITION_ENTER_SERVICE (R470, R472, R473): the tick boundary after START or RESTART. The tick T0 is itself a tick at
which the tick interrupt is raised (R44). -/
def State.partEnters (s : State) (n : PartId) : State :=
  if s.startDue.getLsbD n = false then s
  else
    let s := (s.setStartDue n false).writeRoot n
    let s := s.forEach (s.partCps n) fun k s => s.cpEnters n k
    let s := { s with tick := { s.tick with t0 := s.tick.t0.set n s.tickNum } }
    ((s.setPartState n ptRUNNING).showService n).tickInt n

/-- PARTITION_ENTER_SERVICE. -/
def execPartitionEnterService (n : PartId) (s : State) : Host.Outcome State Fault Refusal := .next (s.partEnters n)

/-! Frames. -/

/-- The frame of each mapped region of partition n's table. -/
def State.mappedFrames (s : State) (n : PartId) : List Nat :=
  (List.range (s.rdtLen n)).filterMap fun rn =>
    match s.xlate n (BitVec.ofNat 64 (rn * 2 ^ 21)) false with
    | .ok pa _ => some (pa / 2 ^ 21)
    | _ => none

/-- R477: a frame is cleared: RAW zero and collector bits 0b00 in every word, through the L3. -/
def State.clearFrame (s : State) (f : Nat) : State :=
  s.forEach (List.range (2 ^ 18)) fun i s => s.dmaStore none (.fresh (f * 2 ^ 21 + 8 * i) TWord.raw0)

/-- Frames of partition n wait to be cleared. -/
def State.queueClear (s : State) (n : PartId) (fs : List Nat) : State :=
  if fs = [] then s
  else { s.setFld (oPRT_STAT n) 39 32 0 with clearing := s.clearing.set n (s.clearing[n] ++ fs) }

/-- FRAME_CLEAR_DONE (R475, R477): every frame that waits is clear; a partition that was torn down is NONE.
Assumption 64 (DEDUCED). -/
def State.framesCleared (s : State) (n : PartId) : State :=
  if s.clearing[n] = [] ∧ s.partState n ≠ ptCLEARING then s
  else
    let s := s.forEach s.clearing[n] fun f s => s.clearFrame f
    let s := ({ s with clearing := s.clearing.set n [] }).setFld (oPRT_STAT n) 39 32 100
    if s.partState n = ptCLEARING then s.setPartState n ptNONE else s

/-- FRAME_CLEAR_DONE. -/
def execFrameClearDone (n : PartId) (s : State) : Host.Outcome State Fault Refusal := .next (s.framesCleared n)

end Sys2Proof.Machine
end

