-- ==== Sys2Proof/Machine/Noc.lean ====
section
/-!
DEFINITION. The Canal network (chapter 15): topology and the rules of routes, what network interfaces keep and count, links,
power domains, packets and their virtual channels, route changes, probes and the statistics snapshot (R422 to R443, R545).
-/

namespace Sys2Proof.Machine

/-! Topology (R422 to R424, R427). -/

/-- The router of CS, slice or controller number k of compute die d. -/
def cdRouter (d k : Nat) : Nat :=
  25 * d + (if k < 5 then 5 * k else if k < 10 then 5 * (k - 5) + 4 else if k < 13 then 5 * (k - 10) + 1 else 5 * (k - 13) + 3)

/-- R423: the router that a network interface is attached to. -/
def niRouter (i : Nat) : Nat :=
  if i < 20 then cdRouter (i / 10) (i % 10)
  else if i < 52 then cdRouter ((i - 20) / 16) ((i - 20) % 16)
  else ([16, 18, 41, 43, 53, 53, 55, 55, 56, 56, 58, 58, 59, 60, 54, 57, 51, 50, 52, 51, 59, 51, 61] : List Nat).getD (i - 52) 0

/-- R424: links in NOC_LINK bit order: router and port at end A, router and port at end B. -/
def linkEnds (l : Nat) : Nat × Nat × Nat × Nat :=
  let k := l % 5
  if l < 5 then (5 * k + 4, 2, 25 + 5 * k, 4)
  else if l < 10 then (if k < 4 then (20 + k, 3, 50 + 3 * k, 4) else (24, 3, 51, 1))
  else if k < 4 then (46 + k, 3, 52 + 3 * k, 2) else (45, 3, 60, 3)

/-- The link behind a port of a router, and the router at its other end. -/
def linkAt (r p : Nat) : Option (Nat × Nat) :=
  (List.range 15).findSome? fun l =>
    let (a, pa, b, pb) := linkEnds l
    if a = r ∧ pa = p then some (l, b) else if b = r ∧ pb = p then some (l, a) else none

/-- First router, width and height of the mesh of a router. -/
def meshOf (r : Nat) : Nat × Nat × Nat := if r < 25 then (0, 5, 5) else if r < 50 then (25, 5, 5) else (50, 3, 4)

/-- The neighbour behind a mesh port. -/
def neighbour (r p : Nat) : Option Nat :=
  let (b, w, h) := meshOf r
  let x := (r - b) % w
  let y := (r - b) / w
  match p with
  | 1 => if 0 < y then some (r - w) else none
  | 2 => if x + 1 < w then some (r + 1) else none
  | 3 => if y + 1 < h then some (r + w) else none
  | 4 => if 0 < x then some (r - 1) else none
  | _ => none

/-- NOC_LINK: link l may carry packets. -/
def State.linkActive (s : State) (l : Nat) : Bool := s.flag oNOC_LINK (16 + l) && !s.flag oNOC_LINK l

/-- R428: a route moves along x, then y, crosses at most one link, an active one, and ends at its destination. -/
def State.routeWalk (s : State) (dst : Nat) : Nat → Nat → Nat → (yMoved crossed : Bool) → Bool
  | 0, _, _, _, _ => false
  | fuel + 1, r, route, ym, cr =>
    let p := route % 8
    if p = 0 then r == dst
    else
      match neighbour r p with
      | some r' =>
        if (p = 2 ∨ p = 4) ∧ ym = true then false
        else s.routeWalk dst fuel r' (route / 8) (ym || p == 1 || p == 3) cr
      | none =>
        match linkAt r p with
        | some (l, r') => !cr && s.linkActive l && s.routeWalk dst fuel r' (route / 8) false true
        | none => false

/-- R428 for an entry of the route table of NI i to NI d. -/
def State.routeOk (s : State) (i d : Nat) (w : Word) : Bool :=
  !bit w 63 || s.routeWalk (niRouter d) 16 (niRouter i) (bits w 47 0) false false

/-! Interfaces (R429, R433, R438, R441). -/

/-- The NI table entries that a register was ever written for. -/
def State.niEntries (s : State) : List (Nat × Nat) :=
  (s.regs.filterMap fun r =>
    if 0xC0000 ≤ r.1 ∧ r.1 < 0xC0000 + 0x800 * 75 then
      let i := (r.1 - 0xC0000) / 0x800
      let x := (r.1 - 0xC0000) % 0x800
      if 0x100 ≤ x ∧ x < 0x358 then some (i, (x - 0x100) / 8)
      else if 0x400 ≤ x ∧ x < 0x658 then some (i, (x - 0x400) / 8) else none
    else none).dedup

def State.ni (s : State) (i : NiId) : NiUnit := s.noc.nis[i]
def State.modNi (s : State) (i : NiId) (f : NiUnit → NiUnit) : State :=
  { s with noc := { s.noc with nis := s.noc.nis.set i (f (s.ni i)) } }

/-- NI_STAT: requests outstanding and packets held. -/
def State.showNi (s : State) (i : NiId) : State :=
  let n := s.ni i
  (s.setFld (oNI i 8) 15 8 (min 128 (n.absent.length + n.heldReq.length))).setFld (oNI i 8) 31 16 n.heldReq.length

/-- A statistic of R441. -/
def State.niCount (s : State) (i : NiId) (x : Nat) (n : Nat := 1) : State := s.count (oNI i x) n

/-- An NI is OPEN and the source's route to it is valid. -/
def State.reachable (s : State) (i d : Nat) : Bool := s.fld (oNI d 0) 1 0 == 0 && s.flag (oNI i (0x100 + 8 * d)) 63

/-! Packets (R426, R430, R433). -/

/-- The code of CLASS (R426). -/
def pktClassCode : PktClass → BitVec 4
  | .read => 0 | .write => 1 | .readResp => 2 | .writeAck => 3 | .snoop => 4 | .snoopResp => 5 | .regAccess => 6
  | .errorRecord => 7 | .maintenance => 8 | .domainAbsent => 9 | .reroute => 10

/-- R426: the header of a packet, bits 127:0 of its head flit. -/
def headerBits (h : HeadFlit) : BitVec 128 :=
  h.age ++ BitVec.ofNat 2 h.vc ++ pktClassCode h.pkt.cls ++ h.repoch ++ BitVec.ofNat 7 h.pkt.src ++ BitVec.ofNat 7 h.pkt.dst
    ++ (match h.pkt.part with | some n => BitVec.ofNat 4 n | none => 0xF) ++ BitVec.ofNat 5 h.pkt.len ++ (0 : BitVec 13)
    ++ BitVec.ofBool h.pkt.tb ++ BitVec.ofBool h.starved ++ h.route ++ h.pkt.tid

/-- R426: the head flit: the tag bytes, the physical address and the header. -/
def headFlit (h : HeadFlit) : BitVec 512 :=
  (0 : BitVec 256) ++ h.tags ++ (0 : BitVec 12) ++ h.pa ++ headerBits h

/-- R430: the VC that a request's kind calls for. CP traffic always travels on VC0. -/
def vcAsked (p : Packet) : Fin 4 :=
  if p.src.val < 20 then 0
  else if p.cls = .regAccess ∨ p.cls = .errorRecord ∨ p.cls = .maintenance then 3
  else if p.tb = true ∧ ((56 ≤ p.src.val ∧ p.src.val ≤ 67) ∨ p.src.val = 70) then 2
  else 0

/-- R433: whether the bucket of the request's partition holds the tokens for it and its response of so many flits. -/
def State.hasTokens (s : State) (p : Packet) (flits : Nat) : Bool :=
  match p.part with
  | some n => decide (1 + p.len.val + flits ≤ (s.ni p.src).tokens[n])
  | none => false

/-- R430, R433: the VC a request travels on: a VC2 packet whose bucket lacks the tokens goes on VC0. -/
def State.vcOf (s : State) (p : Packet) (flits : Nat) : Fin 4 :=
  if vcAsked p = 2 ∧ s.hasTokens p flits = false then 0 else vcAsked p

/-- R430, R433, R437: the VC of the answer to a request on VC v. -/
def answerVc (v : Fin 4) : Fin 4 := if v = 0 then 1 else v

/-- R430, R433, R441: a request is injected by its source and answered, by its target or by a router on its way, in so many
flits: its VC, the tokens it takes, and what both ends count. Assumption 56 (DESIGN CHOICE): a packet is counted when
its answer comes. -/
def State.answered (s : State) (p : Packet) (flits : Nat) (byTarget : Bool) : State :=
  let v := s.vcOf p flits
  let s := ((s.niCount p.src (0x80 + 8 * v)).niCount p.src 0xA0 (1 + p.len)).niCount p.src 0xA8 flits
  let s := if vcAsked p = 2 ∧ v = 0 then s.niCount p.src 0xC8 else s
  let s := match p.part with
    | some n => if v = 2 then s.modNi p.src fun i => { i with tokens := i.tokens.set n (i.tokens[n] - (1 + p.len.val + flits)) } else s
    | none => s
  if byTarget then
    ((s.niCount p.dst (0x80 + 8 * answerVc v)).niCount p.dst 0xA0 flits).niCount p.dst 0xA8 (1 + p.len)
  else s

/-- R429, R441: a response arrives. Assumption 56 (DESIGN CHOICE). -/
def State.niResponse (s : State) (i : NiId) (tid : BitVec 16) (lat : Nat) : State :=
  let s := (s.niCount i 0xB0 lat).niCount i 0xB8
  let s := if bits (s.reg (oNI i 0xC0)) 47 0 < lat then s.setFld (oNI i 0xC0) 47 0 lat else s
  (s.modNi i fun n =>
    { n with absent := n.absent.filter fun r => r.1 ≠ tid, heldReq := n.heldReq.filter fun r => r.1 ≠ tid }).showNi i

/-- R433, R438: at a tick boundary the buckets are refilled and requests answered DOMAIN_ABSENT are sent again. -/
def State.niTick (s : State) : State :=
  s.forEach (List.finRange 75) fun i s =>
    let n := s.ni i
    let s := s.modNi i fun n => { n with tokens := Vector.ofFn fun p : Fin 8 => s.fld (oNI i (0x40 + 8 * p)) 19 0 }
    let again := n.absent.filter fun r => !s.reachable i r.2
    if n.absent = [] then s
    else
      let s := (s.modNi i fun n => { n with absent := again }).showNi i
      if again = [] then s else s.niCount i 0xD8 again.length

/-- R545: every statistic is copied at one instant. -/
def State.snapshot (s : State) : State :=
  let s := s.forEach (List.range 75) fun i s =>
    let s := s.forEach (List.range 14) fun j s =>
      let v := s.reg (oNI i (0x80 + 8 * j))
      if s.reg (oNI i (0x700 + 8 * j)) = v then s else s.setReg (oNI i (0x700 + 8 * j)) v
    s.setReg (oNI i 0x770) s.now
  (s.setFld oNOC_SNAP 63 16 s.tickNum).setFlag oNOC_SNAP 0 false

/-! Links (R435, R436). -/

/-- DEVICE_FAIL is set (R457, R575). -/
def State.deviceFail (s : State) : State :=
  if s.twin.deviceFail then s
  else ({ s with twin := { s.twin with deviceFail := true } }).emit (.pin "DEV_FAIL_L" false)

/-- DEVICE_FAIL is clear again. -/
def State.clearFail (s : State) : State :=
  if s.twin.deviceFail then ({ s with twin := { s.twin with deviceFail := false } }).emit (.pin "DEV_FAIL_L" true) else s

/-- A port of a router is removed. -/
def State.portRemoved (s : State) (r p : Nat) : State := s.setFlag (oROUTER_CTL r) (16 + p) true

/-- R435, R512: the spare link of a die pair is in service while another link of the pair is failed. -/
def State.spareLinks (s : State) : State :=
  s.forEach (List.range 3) fun p s =>
    if ((List.range 4).any fun k => s.flag oNOC_LINK (5 * p + k)) && !s.flag oNOC_LINK (5 * p + 4)
    then s.setFlag oNOC_LINK (16 + 5 * p + 4) true else s

/-- R435, R436, R514: a link fails; the die pair's spare link comes into service, or the pair may be cut off.
Assumption 57 (DEDUCED). -/
def State.failLink (s : State) (l : Nat) : State :=
  if s.flag oNOC_LINK l then s
  else
    let (a, pa, b, pb) := linkEnds l
    let s := ((s.setFlag oNOC_LINK l true).portRemoved a pa).portRemoved b pb
    let sp := l / 5 * 5 + 4
    let spare := !s.flag oNOC_LINK (16 + sp) && !s.flag oNOC_LINK sp
    let s := if spare then s.setFlag oNOC_LINK (16 + sp) true else s
    let s := (s.record (mkRec 1 (0xC0 + l) (6 + l))).repairAdd 5 l 0 (if spare then 1 else 2) 2
    if (List.range 5).any fun k => s.linkActive (l / 5 * 5 + k) then s
    else (s.record (mkRec 6 (0xC0 + l) 0xF00C none none 0 (BitVec.ofNat 64 (l / 5)))).deviceFail

/-- R435: a flit with a CRC error is replayed. -/
def State.linkReplay (s : State) (l : Nat) : State :=
  if s.flag oNOC_LINK l then s
  else
    let recent := s.noc.replays.filter fun r => s.now.toNat ≤ r.2.toNat + 1000000
    let s := ({ s with noc := { s.noc with replays := (l, s.now) :: recent } }).count (cDEV (6 + l))
    if 16 ≤ recent.countP (fun r => r.1 = l) + 1 then s.failLink l else s

/-! Domains (R437, R438, R581). -/

/-- The PWR_DOM index of a domain, and its NI; units of the transform engines have neither. -/
def domainOf : Domain → Option (Nat × NiId)
  | .site s => some (s, ⟨s, by omega⟩)
  | .unit u => some (20 + u, ⟨56 + u, by omega⟩)
  | .dalnos => some (29, ⟨70, by omega⟩)
  | _ => none
/-- The PWR_UNITGATE bit of a transform unit, its kind and number. -/
def gateBit : Domain → Option (Nat × XfKind × Nat)
  | .pipe i => some (i, .pipe, i)
  | .clane i => some (8 + i, .clane, i)
  | .dlane i => some (16 + i, .dlane, i)
  | _ => none

/-- No line of a site's L2 is dirty. -/
def State.l2Clean (s : State) (t : SiteId) : Bool :=
  (s.site t).l2.all fun c => c.2.ways.all fun w => match w with | some l => !l.dirty | none => true

/-- R437: the domain may be closed. -/
def State.mayClose (s : State) (d : Domain) : Bool :=
  match d with
  | .site t => s.fld (oCS_BIND t) 2 0 == 0 && s.l2Clean t
  | .unit u => s.ceState u == ceOFF
  | .dalnos => !s.flag oTWN_CTL 0
  | d =>
    match gateBit d with
    | some (_, k, i) =>
      (List.range 8).all (fun n => !(s.dedicated k n).testBit i)
        && ((s.retiredUnits k).testBit i || (List.range 8).all fun n => !(s.unitsFor k n).contains i)
    | none => false

/-- DOMAIN_CLOSE (R437): the NI is set to CLOSING. Assumption 57 (DEDUCED). -/
def State.domainClose (s : State) (d : Domain) : State :=
  match domainOf d with
  | some (_, i) => if s.mayClose d ∧ s.fld (oNI i 0) 1 0 = 0 then (s.setFld (oNI i 0) 1 0 1).setFlag (oNI i 8) 0 false else s
  | none => s

/-- DOMAIN_DRAINED (R437): the bridge has drained, the domain is gated, the NI is CLOSED. -/
def State.domainDrained (s : State) (d : Domain) : State :=
  match domainOf d with
  | some (k, i) =>
    if s.fld (oNI i 0) 1 0 = 1 then ((s.setFlag (oNI i 8) 0 true).setDomain k 2).setFld (oNI i 0) 1 0 2 else s
  | none =>
    match gateBit d with
    | some (b, _, _) => if s.mayClose d then s.setFlag oPWR_UNITGATE b true else s
    | none => s

/-- DOMAIN_OPEN (R437): power, bridge training, NI OPEN; an engine leaves OFF when its port is configured (R300). -/
def State.domainOpen (s : State) (d : Domain) : State :=
  if s.pwr.emergency then s
  else
    match domainOf d with
    | some (k, i) =>
      let s := ((s.setDomain k 0).setFlag (oNI i 8) 0 false).setFld (oNI i 0) 1 0 0
      match d with
      | .unit u => s.ceRefresh u
      | _ => s
    | none =>
      match gateBit d with
      | some (b, _, _) => s.setFlag oPWR_UNITGATE b false
      | none => s

/-- R438: what an initiator does with DOMAIN_ABSENT. Assumptions 56 (DESIGN CHOICE), 57 (DEDUCED). -/
def State.domainAbsent (s : State) (src dst : NiId) (k : AbsentKind) (tid : BitVec 16) (off : Nat) : State :=
  let who : Initiator := if src.val = 69 then .pf0 else .lkp
  let again := ((s.niCount src 0xD8).modNi src fun n =>
    { n with absent := (tid, dst.val) :: n.absent.filter fun r => r.1 ≠ tid }).showNi src
  match k with
  | .engine => again
  | .journal => again
  | .snoop => s
  | .xfDispatch => let k := if dst.val = 67 then 1 else 0
    s.count (cXF k k)
  | .regRead => ({ s with resp := .word 0 }).accessRecord who off false
  | .regWrite => s.accessRecord who off true

/-! Route changes (R439, R440). -/

/-- A change in progress. -/
def State.routePending (s : State) : Bool := s.flag oNOC_ROUTE 9

/-- NOC_ROUTE.ARM was written 1: shadow tables that break R428 are refused; routers drain the ports that go.
Assumption 57 (DEDUCED). -/
def State.routeArmed (s : State) (i : Initiator) (recOff : Nat) : State :=
  if s.routePending then s.setFlag oNOC_ROUTE 8 true
  else if s.niEntries.any fun e => !s.routeOk e.1 e.2 (s.reg (oNI e.1 (0x400 + 8 * e.2))) then
    (s.setFlag oNOC_ROUTE 8 false).accessRecord i recOff true
  else
    let s := { (s.setFld oNOC_ROUTE 9 8 3) with noc := { s.noc with armedAt := s.now } }
    s.forEach (List.range 62) fun r s =>
      let w := s.reg (oROUTER_CTL r)
      let go := bits w 12 8 &&& (31 - bits w 20 16)
      if go = 0 then s else (s.setFld (oROUTER_CTL r) 4 0 go).setFld (oROUTER_CTL r) 28 24 go

/-- R439 step 3: shadow routes become active, EPOCH advances, held packets leave. -/
def State.routeSwitch (s : State) : State :=
  let s := s.forEach s.niEntries fun e s =>
    s.setReg (oNI e.1 (0x100 + 8 * e.2)) (s.reg (oNI e.1 (0x400 + 8 * e.2)))
  let s := (s.setFld oNOC_ROUTE 9 8 0).setFld oNOC_ROUTE 7 0 ((s.fld oNOC_ROUTE 7 0 + 1) % 256)
  let s := s.forEach (List.range 62) fun r s =>
    let w := s.reg (oROUTER_CTL r)
    let v := insBits (insBits (insBits w 20 16 (bits w 12 8)) 4 0 0) 28 24 0
    if v = w then s else s.setReg (oROUTER_CTL r) v
  s.forEach (List.finRange 75) fun i s =>
    let n := s.ni i
    if n.heldReq = [] ∧ n.holdDst = [] then s
    else
      let lost := n.heldReq.filter fun r => !s.reachable i r.2
      let s := (s.modNi i fun n => { n with heldReq := [], holdDst := [], absent := lost ++ n.absent }).showNi i
      if lost = [] then s else s.niCount i 0xD8 lost.length

/-- ROUTE_SWITCH is due: 2 µs after ARM at a tick boundary, or at once while STOPPED. -/
def State.routeDue (s : State) : Bool :=
  let t := s.noc.armedAt.toNat + 2000
  s.routePending && decide (t ≤ s.now.toNat)
    && (s.fld oTCK_STAT 2 0 == 0 || decide (t ≤ (s.reg oTCK_EDGE).toNat))

/-- R440: a packet comes back. Assumption 57 (DEDUCED). -/
def State.reroute (s : State) (src dst : NiId) (tid : BitVec 16) (repoch router : Nat) : State :=
  let s := s.niCount src 0xE0
  if repoch = s.fld oNOC_ROUTE 7 0 then
    let s := s.recordOpen (mkRec 1 (0x80 + router) 0)
    ((s.niCount src 0xE8).modNi src fun n =>
      { n with heldReq := (tid, dst.val) :: n.heldReq.filter (fun r => r.1 ≠ tid),
               holdDst := dst.val :: n.holdDst.filter (· ≠ dst.val) }).showNi src
  else s

/-! Probes (R442). -/

/-- A head flit with these header bits 127:64 passes an output port. -/
def State.probeMatch (s : State) (router port : Nat) (hdr : Word) : State :=
  if s.flag (oROUTER_CTL router) (16 + port) then s
  else
    s.forEach (List.finRange 8) fun p s =>
      let c := s.reg (oPROBE p 0)
      let m := s.reg (oPROBE p 0x10)
      if bit c 0 ∧ bits c 6 1 = router ∧ bits c 10 8 = port ∧ hdr &&& m = s.reg (oPROBE p 8) &&& m then
        let s := s.count (oPROBE p 0x18)
        let n := s.noc.probeN[p]
        if bit c 12 ∧ 8 ≤ n then s
        else
          let s := (s.setReg (oPROBE p (0x80 + 16 * (n % 8))) hdr).setReg (oPROBE p (0x88 + 16 * (n % 8))) s.now
          { s with noc := { s.noc with probeN := s.noc.probeN.set p (n + 1) } }
      else s

/-- PROBE_CTL was written: capture restarts at entry 0. -/
def State.probeRestart (s : State) (p : Fin 8) : State :=
  { s with noc := { s.noc with probeN := s.noc.probeN.set p 0 } }

/-! The commands. -/

/-- NI_RESPONSE (R429, R441). -/
def execNiResponse (src dst : NiId) (req : PktHead) (answer : NiAnswer) (s : State) : Host.Outcome State Fault Refusal :=
  .next ((s.answered ⟨req, src, dst⟩ answer.flits true).niResponse src req.tid answer.latency)

/-- LINK_FLIT_CRC_ERROR (R435, R436). -/
def execLinkFlitCrcError (l : Fin 15) (t : Word) (s : State) : Host.Outcome State Fault Refusal :=
  .next ((s.advanceTo t).linkReplay l)

/-- ROUTE_SWITCH (R439). -/
def execRouteSwitch (s : State) : Host.Outcome State Fault Refusal := .next (if s.routeDue then s.routeSwitch else s)

/-- REROUTE_RETURN (R440): the router answers in one flit. -/
def execRerouteReturn (src dst : NiId) (req : PktHead) (repoch : BitVec 8) (router : Fin 62) (s : State) :
    Host.Outcome State Fault Refusal :=
  .next ((s.answered ⟨req, src, dst⟩ 1 false).reroute src dst req.tid repoch.toNat router)

/-- DOMAIN_CLOSE (R437). -/
def execDomainClose (d : Domain) (s : State) : Host.Outcome State Fault Refusal := .next (s.domainClose d)

/-- DOMAIN_DRAINED (R437). -/
def execDomainDrained (d : Domain) (s : State) : Host.Outcome State Fault Refusal := .next (s.domainDrained d)

/-- DOMAIN_OPEN (R437, R300). -/
def execDomainOpen (d : Domain) (s : State) : Host.Outcome State Fault Refusal := .next (s.domainOpen d)

/-- DOMAIN_ABSENT_ANSWER (R437, R438): the closing NI answers in one flit. -/
def execDomainAbsentAnswer (src dst : NiId) (req : PktHead) (k : AbsentKind) (off : BitVec 24) (s : State) :
    Host.Outcome State Fault Refusal :=
  .next ((s.answered ⟨req, src, dst⟩ 1 true).domainAbsent src dst k req.tid off.toNat)

/-- PROBE_MATCH (R442). -/
def execProbeMatch (router : Fin 62) (port : Fin 5) (head : HeadFlit) (t : Word) (s : State) :
    Host.Outcome State Fault Refusal := .next ((s.advanceTo t).probeMatch router port ((headFlit head).extractLsb' 64 64))

end Sys2Proof.Machine
end

