-- ==== Sys2Proof/Machine/Power.lean ====
section
/-!
DEFINITION. Clocks, temperature and power (chapter 23): CS_CLK (R583), thermal throttling (R585, R586), the power cap (R587),
emergency shutdown (R588).
-/

namespace Sys2Proof.Machine

/-! Core-site clocks (R583). -/

/-- FREQ outside 48 to 184 acts as the nearer limit. -/
def freqOf (v : Nat) : Nat := max 48 (min 184 v)

/-- CUR changes: the cycles of the old clock are counted first (R111). Assumption 28 (DEDUCED). -/
def State.setCur (s : State) (t : SiteId) (v : Nat) : State :=
  let cur := s.fld (oCS_CLK t) 23 16
  if cur = v then s
  else
    let k := cpField (s.fld (oCS_BIND t) 11 8)
    let s := if s.bindSt t = bBOUND then
        s.modCp k fun c =>
          { c with cycBase := c.cycBase + (s.now - c.cycSince).toNat * cur * 25 / 1000, cycSince := s.now }
      else s
    s.setFld (oCS_CLK t) 23 16 v

/-- CUR is the lesser of FREQ and CEIL; a follower runs at its leader's CUR. -/
def State.clkEffect (s : State) (t : SiteId) : State :=
  let own := min (freqOf (s.fld (oCS_CLK t) 7 0)) (s.fld (oCS_CLK t) 15 8)
  let k := cpField (s.fld (oCS_BIND t) 11 8)
  if s.bindSt t = bFOLLOWER then
    match s.siteOf k with
    | some l => s.setCur t (s.fld (oCS_CLK l) 23 16)
    | none => s.setCur t own
  else
    let s := s.setCur t own
    if s.bindSt t = bBOUND then
      s.forEach (List.finRange 20) fun u s =>
        if s.bindSt u = bFOLLOWER ∧ s.fld (oCS_BIND u) 11 8 = k.val then s.setCur u own else s
    else s

/-- CEIL of a site changes. -/
def State.setCeil (s : State) (t : SiteId) (v : Nat) : State := (s.setFld (oCS_CLK t) 15 8 v).clkEffect t

/-! Thresholds (PWR_THERM, PWR_CTL). -/

/-- A threshold in °C: a field value out of range acts as the default. -/
def threshold (v lo hi dflt : Nat) : Nat := if lo ≤ v ∧ v ≤ hi then v else dflt
def State.warnAt (s : State) : Nat := threshold (s.fld oPWR_THERM 7 0) 60 105 95
def State.throttleAt (s : State) : Nat := threshold (s.fld oPWR_THERM 15 8) 80 105 100
def State.powerLimit (s : State) : Nat := threshold (s.fld oPWR_CTL 25 16) 100 380 380

/-- The temperature of a sensor in 1/16 °C. -/
def State.temp (s : State) (k : Nat) : Int := (BitVec.ofNat 16 (s.fld (oPWR_TEMP k) 15 0)).toInt
/-- A sensor at or above a temperature in °C. -/
def State.hot (s : State) (c : Nat) (k : Nat) : Bool := decide ((16 * c : Nat) ≤ s.temp k)
/-- A sensor at least 5 °C below THROTTLE. -/
def State.cool (s : State) (k : Nat) : Bool := decide (s.temp k ≤ ((16 * (s.throttleAt - 5) : Nat) : Int))

/-- The sensors of a compute die, and its core sites (R584). -/
def dieSensors (d : Fin 2) : List Nat :=
  ((List.range 10).map fun i => 10 * d.val + i) ++ ((List.range 6).map fun i => 20 + 6 * d.val + i)
def dieSites (d : Fin 2) : List SiteId := (List.finRange 20).filter fun t => t.val / 10 == d.val

/-! Throttling (R586, R587). -/

/-- THROT_L is acting. -/
def State.extActs (s : State) : Bool := s.pwr.throtLow && s.flag oPWR_CTL 0
/-- Steps of R586 are due on a die. -/
def State.dieHot (s : State) (d : Fin 2) : Bool :=
  (dieSensors d).any (s.hot s.throttleAt) || s.extActs || s.flag oPWR_STAT 3
/-- A site that is lowered first: SPARE, or of a partition whose CP_RESV is 0. -/
def State.lowFirst (s : State) (t : SiteId) : Bool :=
  s.bindSt t == bSPARE || (match s.sitePart t with | some n => s.fld (oTCK_PART n) 23 0 == 0 | none => false)
/-- 100 MHz down to 1.2 GHz. -/
def State.ceilDown (s : State) (ts : List SiteId) : State :=
  s.forEach ts fun t s => s.setCeil t (max 48 (s.fld (oCS_CLK t) 15 8 - 4))
/-- 100 MHz up to 4.6 GHz. -/
def State.ceilUp (s : State) (ts : List SiteId) : State :=
  s.forEach ts fun t s => s.setCeil t (min 184 (s.fld (oCS_CLK t) 15 8 + 4))

/-- When the reservation-free sites of a die reached the floor. -/
def State.setSince (s : State) (d : Fin 2) (v : Option Word) : State :=
  { s with pwr := { s.pwr with since := s.pwr.since.set d v } }

/-- One step downward on a die. -/
def State.stepDown (s : State) (d : Fin 2) : State :=
  let atFloor := fun (s : State) (t : SiteId) => s.fld (oCS_CLK t) 15 8 == 48
  let early := (dieSites d).filter s.lowFirst
  if early.all (atFloor s) then
    match s.pwr.since[d] with
    | none => s.setSince d (some s.now)
    | some t0 =>
      if s.now.toNat < t0.toNat + 10000000 ∨ (dieSites d).all (atFloor s) then s
      else (s.ceilDown (dieSites d)).count (cDEV 24)
  else
    let s := (s.ceilDown early).count (cDEV 24)
    s.setSince d (if early.all (atFloor s) then some s.now else none)

/-- One step on a die: down while the condition lasts, up once everything is cool. -/
def State.dieStep (s : State) (d : Fin 2) : State :=
  if s.dieHot d then s.stepDown d
  else
    let s := s.setSince d none
    let full := (dieSites d).all fun t => s.fld (oCS_CLK t) 15 8 == 184
    if (List.range 46).all s.cool && !s.pwr.throtLow && !full then (s.ceilUp (dieSites d)).count (cDEV 24) else s

/-- THROT shows the dies whose ceilings are lowered; EXT shows THROT_L. -/
def State.showThrot (s : State) : State :=
  let low := fun (d : Fin 2) => (dieSites d).any fun t => s.fld (oCS_CLK t) 15 8 != 184
  ((s.setFlag oPWR_STAT 0 (low 0)).setFlag oPWR_STAT 1 (low 1)).setFlag oPWR_STAT 2 s.extActs

/-- An HBM sensor at THROTTLE halves its controller's bandwidth, an IOD sensor every port rate, until it is cool. -/
def State.halves (s : State) : State :=
  let hot := s.hot s.throttleAt
  let iod := (List.range 10).map (32 + ·)
  let port := if iod.any hot then true else if iod.all s.cool then false else s.pwr.portHalf
  let hbm := (List.range 4).foldl (fun m i =>
    if hot (42 + i) || (!s.cool (42 + i) && s.pwr.mscHalf.getLsbD i) then m + 2 ^ i else m) 0
  { s with pwr := { s.pwr with portHalf := port, mscHalf := BitVec.ofNat 4 hbm } }

/-- Both dies step. -/
def State.throttleSteps (s : State) : State := ((s.dieStep 0).dieStep 1).showThrot

/-- A running device: no emergency, RST_L high. -/
def State.powered (s : State) : Bool := s.rstL && !s.pwr.emergency

/-- THROTTLE_STEP: the sensors are read and every 100 µs one step is made. Assumption 82 (DEDUCED). -/
def State.throttleStep (s : State) (temps : List (BitVec 16)) : State :=
  if s.powered then
    (s.forEach (temps.take 46).zipIdx fun (v, k) s => s.setFld (oPWR_TEMP k) 15 0 v.toNat).throttleSteps.halves
  else s

/-- THROTTLE_STEP (R586). -/
def execThrottleStep (temps : List (BitVec 16)) (t : Word) (s : State) : Host.Outcome State Fault Refusal :=
  .next ((s.advanceTo t).throttleStep temps)

/-- THROT_L_CHANGE (R586). -/
def execThrotLChange (low : Bool) (s : State) : Host.Outcome State Fault Refusal :=
  .next ({ s with pwr := { s.pwr with throtLow := low } }).showThrot

/-- POWER_CAP (R587): above LIMIT the steps of R586 begin on both dies; the model makes the first one at once.
Assumption 82 (DEDUCED). -/
def State.powerCap (s : State) (watts : BitVec 16) : State :=
  if s.powered then
    let above := decide (s.powerLimit < watts.toNat)
    let was := s.flag oPWR_STAT 3
    let s := (s.setFld oPWR_STAT 63 48 watts.toNat).setFlag oPWR_STAT 3 above
    if above then
      let s := s.count (cDEV 25)
      if was then s else ((s.stepDown 0).stepDown 1).showThrot
    else s
  else s

/-- POWER_CAP (R587). -/
def execPowerCap (watts : BitVec 16) (s : State) : Host.Outcome State Fault Refusal := .next (s.powerCap watts)

/-- THERMAL_WARN (R585): a sensor reaches WARN. -/
def State.thermalWarn (s : State) (k : Fin 46) (v : BitVec 16) : State :=
  if s.powered then
    let s := s.setFld (oPWR_TEMP k) 15 0 v.toNat
    if s.hot s.warnAt k then
      (s.setFlag oPWR_STAT 4 true).recordOpen (mkRec 1 0x6A 0)
    else s
  else s

/-- THERMAL_WARN (R585). -/
def execThermalWarn (sensor : Fin 46) (temp : BitVec 16) (s : State) : Host.Outcome State Fault Refusal :=
  .next (s.thermalWarn sensor temp)

/-! Emergency shutdown. -/

/-- Every clock stops and every domain but the always-on domain is gated (R588). Assumptions 82 (DEDUCED), 83 (DEDUCED). -/
def State.emergency (s : State) (thermal : Bool) : State :=
  if s.powered then
    let s := s.resetDomains.deviceFail
    let s := if thermal then s.emit (.pin "THERM_TRIP_L" false) else s
    let s := s.emit (.pin "READY" false)
    let s := s.forEach (List.range 30) fun d s => s.setDomain d 2
    { s with rstL := true, pwr := { s.pwr with emergency := true } }
  else s

/-- EMERGENCY_SHUTDOWN (R588). -/
def execEmergencyShutdown (thermal : Bool) (s : State) : Host.Outcome State Fault Refusal := .next (s.emergency thermal)

end Sys2Proof.Machine
end

