-- ==== Sys2Proof/Machine/Tick.lean ====
section
/-!
DEFINITION. The lock tick unit (chapter 02): sources, the filter, coasting and loss, numbering, the commit point, and what
every unit does at a tick (R27 to R48, R323, R388, R433, R438, R452, R521).
-/

namespace Sys2Proof.Machine

/-! States and settings. -/

abbrev tkSTOPPED : Nat := 0
abbrev tkACQUIRING : Nat := 1
abbrev tkLOCKED : Nat := 2
abbrev tkCOASTING : Nat := 3
abbrev tkLOST : Nat := 4

def State.tkState (s : State) : Nat := s.fld oTCK_STAT 2 0
def State.setTk (s : State) (v : Nat) : State := s.setFld oTCK_STAT 2 0 v
/-- TMIN and TMAX in ns, COAST_MAX. -/
def State.tmin (s : State) : Nat := s.fld oTCK_FILT 19 0 * 100
def State.tmax (s : State) : Nat := s.fld oTCK_FILT 39 20 * 100
def State.coastMax (s : State) : Nat := s.fld oTCK_FILT 47 40
def State.edgeTime (s : State) : Nat := (s.reg oTCK_EDGE).toNat
def State.period (s : State) : Nat := s.fld oTCK_PERIOD 26 0
def State.modTick (s : State) (f : TickUnit → TickUnit) : State := { s with tick := f s.tick }

/-! What a tick does. -/

/-- R47: DONE of a partition is tested once in a pound, that is, since the last tick. Assumption 54 (DEDUCED). -/
def State.resvTest (s : State) (n : PartId) : State :=
  if s.tick.tested.getLsbD n ∨ s.tick.pound = false ∨ s.fld (oTCK_PART n) 23 0 = 0 then s
  else
    let s := s.modTick fun t => { t with tested := t.tested ||| BitVec.ofNat 8 (2 ^ n.val) }
    if s.flag (oTCK_PART n) 63 then s
    else (s.count (cPART n 0)).record (mkRec 1 0x64 0 (some n))

/-- R48: a tick clears DONE, but not where software set it in the cycle of the tick. Assumption 54 (DEDUCED). -/
def State.clearDone (s : State) (n : PartId) (t : Nat) : State :=
  let s := if s.flag (oTCK_PART n) 63 ∧ s.tick.doneAt[n] ≠ some (BitVec.ofNat 64 t) then s.setFlag (oTCK_PART n) 63 false else s
  s.modTick fun k => { k with doneAt := k.doneAt.set n none }

/-- R41, R376: tick markers. -/
def State.markers (s : State) (kind : Nat) : State :=
  s.forEach (List.finRange 8) fun u s =>
    if s.portLive u then s.sendFrame u 2 0 s.tickNum (s.portEpoch u) (kind * 32) false s.tickNum [] else s

/-- TICK_OUT (R42). Assumption 83 (DEDUCED). -/
def State.tickOut (s : State) : State :=
  if s.flag oTCK_OUT 32 then
    s.emit (.tickOut (s.edgeTime + 150 + s.fld oTCK_OUT 15 0) (max 100 (s.fld oTCK_OUT 31 16)))
  else s

/-- Bits 63:0 of the digest of G0; 0 when no generation is stored. -/
def State.g0Digest (s : State) : Word :=
  match s.nv.gens with
  | g :: _ => BitVec.ofNat 64 (leNat ((sha3_384 g).take 8))
  | [] => 0

/-- The 517 words of a STATE frame (R453). -/
def State.stateWords (s : State) : List Word :=
  let ep := fun (u : Nat) => s.fld (oPORT_STAT u) 47 32
  let four := fun (u : Nat) =>
    BitVec.ofNat 64 (ep u + ep (u + 1) * 2 ^ 16 + ep (u + 2) * 2 ^ 32 + ep (u + 3) * 2 ^ 48)
  [ BitVec.ofNat 64 s.tickNum, s.reg oTCK_EDGE, s.g0Digest, four 0, four 4 ]
    ++ (List.range 512).map fun i => BitVec.ofNat 64 (s.iseq (i / 64) (i % 64))

/-- R453: the active unit sends TICK, then STATE. -/
def State.tickToTwin (s : State) : State :=
  if s.fld oTWN_STAT 3 0 = 2 ∧ s.linkUp = true then
    let lo := s.tickNum % 2 ^ 32
    (s.dalSend 7 0 lo (leBytes 8 s.tickNum ++ leBytes 8 s.edgeTime)).dalSend 5 0 lo (wordBytes s.stateWords)
  else s

/-- R29: the source in effect changes. -/
def State.applySrc (s : State) (v : Nat) : State :=
  let s := s.setFlag oTCK_STAT 11 true
  let acq := s.tkState = tkACQUIRING
  let s := if acq then s.setFld oTCK_PERIOD 26 0 0 else s
  s.modTick fun t =>
    { t with src := v, srcDue := none
             divs := if h : 1 ≤ v ∧ v ≤ 4 then t.divs.set (v - 1) 0 else t.divs
             anyTick := t.anyTick && !acq
             period := if v = 0 ∧ t.nextPeriod ≠ 0 then t.nextPeriod else t.period
             nextPeriod := if v = 0 then 0 else t.nextPeriod
             phase := if v = 0 then s.now else t.phase }

/-- R38: TICK_LOST. -/
def State.enterLost (s : State) : State :=
  ((s.setTk tkLOST).setFlag oTCK_STAT 10 true).record (mkRec 1 0x64 0xF009 none none 0 (BitVec.ofNat 64 s.period))

/-- Tick T is numbered at time t; kind 0 accepted, 1 coasted, 2 generated in LOST; lose: LOST begins with it. TCK_PERIOD
keeps the low 27 bits of the interval; a source change that waits takes effect at any tick. Assumption 54 (DEDUCED). -/
def State.tickAt (s : State) (t kind : Nat) (num : Option Nat := none) (lose : Bool := false) : State :=
  let T := match num with | some n => n % 2 ^ 48 | none => seqNext s.tickNum
  -- R45: a commit point that has not passed is the acceptance
  let missed := s.tick.commitDone && s.tick.commitLost
  let s := if s.tick.commitDone then s else s.commitAll T false
  let first := !s.tick.anyTick
  let old := s.tickNum
  let s := if s.roleRuns ∧ first = false then s.forEach (List.finRange 9) fun u s => s.countLate u old else s
  let s := s.setFld oTCK_NUM 47 0 T
  let prev := s.edgeTime
  let s := s.setReg oTCK_EDGE (BitVec.ofNat 64 t)
  let s := if kind = 0 ∧ s.tick.lastAccepted = true then s.setFld oTCK_PERIOD 26 0 (t - prev) else s
  let s := s.modTick fun k => { k with lastAccepted := kind == 0, anyTick := true, commitDone := false, commitLost := false }
  let s := match s.tick.srcDue with | some v => s.applySrc v | none => s
  let s := if lose then s.enterLost else s
  -- R47, R48
  let s := s.forEach (List.finRange 8) fun n s => s.resvTest n
  let s := s.forEach (List.finRange 8) fun n s => s.clearDone n t
  let s := s.modTick fun k => { k with tested := 0, pound := true }
  -- R323: a tick that is not committed moves the schedules
  let s := if kind = 2 ∨ missed then s.forEach (List.finRange 9) fun e s => s.modEng e fun g => { g with offset := g.offset + 1 } else s
  let s := ((s.markers kind).tickOut).tickToTwin
  let s := s.forEach (List.finRange 8) fun n s => s.tickInt n
  let s := s.forEach (List.finRange 9) fun e s =>
    if s.ceState e = ceOFF then s else s.modEng e fun g => { g with seq := { g.seq with tickEv := true } }
  let s := s.forEach (List.finRange 9) fun e s => s.slicePound e
  let s := s.niTick.tpTick
  let s := if s.flag oNOC_SNAP 1 then s.snapshot else s
  let s := if s.fld oCFG_STAT 2 0 = 3 then s.setFld oCFG_STAT 27 4 (s.fld oCFG_STAT 27 4 - 1) else s
  { s with twin := { s.twin with hbBad := 0, pinsIgnored := false, mirPound := 0 } }

/-- R37: an edge under TMIN. -/
def State.shortEdge (s : State) : State := (s.count (cDEV 0)).setFlag oTCK_STAT 8 true

/-- R40: the edge replaces the time of the tick generated last. -/
def State.mergeEdge (s : State) (t : Nat) : State :=
  (((s.count (cDEV 2)).setReg oTCK_EDGE (BitVec.ofNat 64 t)).setTk tkLOCKED).modTick fun k => { k with lastAccepted := true }

/-- A candidate edge at time t (R35, R37, R40); a twin tick carries its number (R454). -/
def State.candidate (s : State) (t : Nat) (num : Option Nat := none) : State :=
  let st := s.tkState
  let near := decide (t < s.edgeTime + s.tmin)
  if st = tkSTOPPED then s
  else if st = tkACQUIRING then
    if s.tick.src = 0 then
      let s := ((s.setTk tkLOCKED).modTick fun k => { k with lastAccepted := false }).setFld oTCK_PERIOD 26 0 s.tick.period
      s.tickAt t 0 num
    else if s.tick.anyTick = false then (s.modTick fun k => { k with lastAccepted := false }).tickAt t 0 num
    else if near then s.shortEdge
    else ((s.setTk tkLOCKED).modTick fun k => { k with lastAccepted := true }).tickAt t 0 num
  else if st = tkLOCKED then (if near then s.shortEdge else s.tickAt t 0 num)
  else if near then s.mergeEdge t
  else (s.setTk tkLOCKED).tickAt t 0 num

/-- TICK_EDGE: an edge at an input passes polarity and divider (R28). -/
def State.tickEdge (s : State) (pin : Fin 4) (rising : Bool) (t : Nat) : State :=
  if s.tkState = tkSTOPPED ∨ s.tick.src ≠ pin + 1 ∨ s.flag (oTCK_IN pin) 1 = rising then s
  else
    let n := s.tick.divs[pin] + 1
    if s.fld (oTCK_IN pin) 31 16 < n then (s.modTick fun k => { k with divs := k.divs.set pin 0 }).candidate t
    else s.modTick fun k => { k with divs := k.divs.set pin n }

/-- TIMER_CANDIDATE: the timer's period has elapsed (R31). -/
def State.timerTick (s : State) : State :=
  if s.tkState = tkSTOPPED ∨ s.tick.src ≠ 0 ∨ s.tick.period = 0 then s
  else
    let t := s.tick.phase.toNat + s.tick.period
    let s := (s.advanceTo (BitVec.ofNat 64 t)).candidate t
    if s.tick.src ≠ 0 then s
    else s.modTick fun k =>
      { k with phase := BitVec.ofNat 64 t, period := if k.nextPeriod ≠ 0 then k.nextPeriod else k.period, nextPeriod := 0 }

/-- A coasted tick (R38). -/
def State.coast (s : State) (t : Nat) : State :=
  let n := s.tick.coasted + 1
  let s := (s.count (cDEV 1)).modTick fun k => { k with coasted := n }
  (s.advanceTo (BitVec.ofNat 64 t)).tickAt t 1 none (s.coastMax ≤ n)

/-- TMAX_EXPIRY (R38): no tick for TMAX in LOCKED. -/
def State.tmaxExpiry (s : State) : State :=
  if s.tkState ≠ tkLOCKED then s
  else
    let t := s.edgeTime + s.tmax
    if s.coastMax = 0 then
      let s := (s.advanceTo (BitVec.ofNat 64 t))
      -- the commit point of this tick lies before LOST
      let s := if s.tick.commitDone then s
        else (s.commitAll (seqNext s.tickNum) false).modTick fun k => { k with commitDone := true, commitLost := false }
      s.enterLost.tickAt t 2
    else (((s.setTk tkCOASTING).setFlag oTCK_STAT 9 true).modTick fun k => { k with coasted := 0 }).coast t

/-- COAST_TICK (R38). Assumption 54 (DEDUCED). -/
def State.coastTick (s : State) : State :=
  if s.tkState = tkCOASTING then s.coast (s.edgeTime + s.period) else s

/-- LOST_TICK (R39). Assumptions 45 (DEDUCED), 54 (DEDUCED). -/
def State.lostTick (s : State) : State :=
  if s.tkState ≠ tkLOST then s
  else
    let t := s.edgeTime + s.period
    let s := s.advanceTo (BitVec.ofNat 64 t)
    let s := if s.tick.commitDone then s
      else (s.commitAll (seqNext s.tickNum) true).modTick fun k => { k with commitDone := true, commitLost := true }
    s.tickAt t 2

/-- COMMIT_POINT (R39, R45, R46): 2 µs before the predicted edge. -/
def State.commitPoint (s : State) : State :=
  if s.tkState < tkLOCKED ∨ s.period = 0 ∨ s.tick.commitDone = true then s
  else
    let lost := s.tkState == tkLOST
    let s := s.advanceTo (BitVec.ofNat 64 (s.edgeTime + s.period - 2000))
    (s.commitAll (seqNext s.tickNum) lost).modTick fun k => { k with commitDone := true, commitLost := lost }

/-! Writes of the unit's registers (R28 to R36). -/

/-- TCK_CTL changed from old. Assumption 54 (DEDUCED). -/
def State.tckCtlEffect (s : State) (old : Word) : State :=
  let v := s.fld oTCK_CTL 2 0
  let new := decide (v ≤ 5 ∧ v ≠ s.tick.src)
  if !s.flag oTCK_CTL 3 then
    if bit old 3 then (s.setTk tkSTOPPED).modTick fun k => { k with srcDue := none, commitDone := false, commitLost := false } else s
  else if bit old 3 then
    if !new then s
    else if s.tkState = tkLOCKED then s.modTick fun k => { k with srcDue := some v }
    else s.applySrc v
  else
    let s := ((s.setTk tkACQUIRING).setFld oTCK_PERIOD 26 0 0).modTick fun k =>
      { k with anyTick := false, lastAccepted := false, commitDone := false, commitLost := false, coasted := 0 }
    if new then s.applySrc v
    else
      s.modTick fun k =>
        { k with divs := if h : 1 ≤ k.src ∧ k.src ≤ 4 then k.divs.set (k.src - 1) 0 else k.divs
                 period := if k.src = 0 ∧ k.nextPeriod ≠ 0 then k.nextPeriod else k.period
                 nextPeriod := if k.src = 0 then 0 else k.nextPeriod
                 phase := if k.src = 0 then s.now else k.phase }

/-- TCK_TIMER was written (R31). -/
def State.tckTimerEffect (s : State) : State :=
  let p := s.fld oTCK_TIMER 26 0
  if p < 10000 ∨ 100000000 < p then s
  else
    let runs := s.tkState != tkSTOPPED && s.tick.src == 0
    if s.tick.period = 0 then s.modTick fun k => { k with period := p, phase := if runs then s.now else k.phase }
    else if runs then s.modTick fun k => { k with nextPeriod := p }
    else s.modTick fun k => { k with period := p, nextPeriod := 0 }

/-- DONE of partition n was set now (R48). -/
def State.doneSet (s : State) (n : PartId) : State := s.modTick fun k => { k with doneAt := k.doneAt.set n (some s.now) }

/-- TCK_IN_n was written (R28). -/
def State.tckInEffect (s : State) (n : Fin 4) : State := s.modTick fun k => { k with divs := k.divs.set n 0 }

/-- A write that is refused: the old value stands and an access record is written. -/
def State.refuseWrite (s : State) (i : Initiator) (off : Nat) (old : Word) (recOff : Nat) : State :=
  (s.setReg off old).accessRecord i recOff true

/-- TCK_FILT was written (R36). Assumption 55 (DEDUCED). -/
def State.tckFiltEffect (s : State) (i : Initiator) (old : Word) (recOff : Nat) : State :=
  if s.fld oTCK_FILT 19 0 = 0 ∨ s.fld oTCK_FILT 39 20 ≤ s.fld oTCK_FILT 19 0 then s.refuseWrite i oTCK_FILT old recOff else s

/-- TCK_NUM was written: it takes the value only while STOPPED. -/
def State.tckNumEffect (s : State) (i : Initiator) (old : Word) (recOff : Nat) : State :=
  if s.tkState = tkSTOPPED then s else s.refuseWrite i oTCK_NUM old recOff

/-! The events. -/

/-- TICK_EDGE (R28, R32, R35, R37, R40). -/
def execTickEdge (pin : Fin 4) (rising : Bool) (t : Word) (s : State) : Host.Outcome State Fault Refusal :=
  .next ((s.advanceTo t).tickEdge pin rising t.toNat)

/-- TIMER_CANDIDATE (R31, R35). -/
def execTimerCandidate (s : State) : Host.Outcome State Fault Refusal := .next s.timerTick

/-- TMAX_EXPIRY (R38). -/
def execTmaxExpiry (s : State) : Host.Outcome State Fault Refusal := .next s.tmaxExpiry

/-- COAST_TICK (R38). -/
def execCoastTick (s : State) : Host.Outcome State Fault Refusal := .next s.coastTick

/-- LOST_TICK (R39). -/
def execLostTick (s : State) : Host.Outcome State Fault Refusal := .next s.lostTick

/-- COMMIT_POINT (R45, R46). -/
def execCommitPoint (s : State) : Host.Outcome State Fault Refusal := .next s.commitPoint

/-- CP_RESV_CHECK (R47): CP_RESV after the tick. -/
def execCpResvCheck (n : PartId) (s : State) : Host.Outcome State Fault Refusal :=
  .next (if s.tick.pound = false then s
    else (s.advanceTo (BitVec.ofNat 64 (s.edgeTime + s.fld (oTCK_PART n) 23 0 * 10))).resvTest n)

end Sys2Proof.Machine
end

