-- ==== Sys2Proof/Machine/Twin.lean ====
section
/-!
DEFINITION. Twin operation (chapter 16): roles, election, heartbeats, switch-over, handover, the frames of the Dalnos link and
the bulk copy (R355 to R357, R444 to R468).
-/

namespace Sys2Proof.Machine

/-! Roles (R445). -/

abbrev rSOLO : Nat := 0
abbrev rELECTING : Nat := 1
abbrev rACTIVE : Nat := 2
abbrev rSTANDBY : Nat := 3
abbrev rSTALE : Nat := 4
abbrev rRESYNC : Nat := 5
abbrev rFENCED : Nat := 6

def State.role (s : State) : Nat := s.fld oTWN_STAT 3 0
def State.modTwin (s : State) (f : TwinUnit → TwinUnit) : State := { s with twin := f s.twin }
/-- TWN_CTL.ENABLE. -/
def State.twinOn (s : State) : Bool := s.flag oTWN_CTL 0
/-- The unit of PREFER: 0b01 names unit 1, every other value unit 0. -/
def preferUnit (v : Nat) : Nat := if v = 1 then 1 else 0

/-- SOURCE of the Dalnos link and heartbeat (R528). -/
abbrev srcTwin : Nat := 0x67

/-- Engines follow the role: they run in SOLO and ACTIVE and are STOPPED otherwise (R445). -/
def State.roleEngines (s : State) : State :=
  s.forEach (List.finRange 9) fun e s =>
    if s.roleRuns then
      (if s.ceState e = ceSTOPPED ∧ s.flag (oCE_CTL e) 0 = true ∧ (s.eng e).retired = false then s.setCe e ceRUNNING else s)
    else if s.ceWorks e then s.stopEngine e ceSTOPPED
    else if s.ceState e = ceRECOVERING then s.modEng e fun g => { g with stopDue := true }
    else s

/-- TCK_CTL.SRC is written by the unit itself (R29, R450, R454). -/
def State.setSource (s : State) (v : Nat) : State :=
  let old := s.reg oTCK_CTL
  (s.setFld oTCK_CTL 2 0 v).tckCtlEffect old

/-- TAKE_SRC: 5, 6 and 7 act as 0. -/
def State.takeSrc (s : State) : Nat := let v := s.fld oTWN_CTL 9 7; if v < 5 then v else 0

/-- R450: the unit becomes ACTIVE: its tick source, an epoch higher by 1 on every port, its engines.
Assumption 62 (DEDUCED). -/
def State.becomeActive (s : State) : State :=
  let s := (s.setRole rACTIVE).setSource s.takeSrc
  let s := s.modTwin fun w => { w with mirrorOn := false, mirrorNext := false, bypass := false, bulk := [], bulkSent := 0,
                                       handover := none, inSync := false }
  let s := s.forEach (List.finRange 8) fun u s => s.newEpoch u (s.portEpoch u + 1)
  s.roleEngines

/-! Taking over (R458, R466). -/

/-- The highest number of each endpoint among entries. -/
def topSeqs (es : List (Nat × JEntry)) : List (Nat × Nat) :=
  es.foldl (fun l x =>
    match l.find? (fun h => h.1 = x.2.ep) with
    | some h => if seqAfter x.2.seq h.2 then (x.2.ep, x.2.seq) :: l.filter (fun h => h.1 ≠ x.2.ep) else l
    | none => (x.2.ep, x.2.seq) :: l) []

/-- R458 step 4, R466: the mirrored entries pass to this unit; at a handover those not acknowledged stay SENT.
Assumption 61 (DEDUCED). -/
def State.takeEntries (s : State) (handover : Bool) : State :=
  s.forEach (List.finRange 9) fun u s =>
    let part := (s.jn u).mirPayload
    let es := s.entries u
    let s := s.forEach es fun x s =>
      if x.2.state = jHELD then s
      else if part.contains x.1 then s.bypassEntry u x.1
      else s.modEntry u x.1 fun e => if handover then { e with state := jSENT, sent := s.now } else { e with state := jRESEND }
    s.modJn u fun j => { j with mirEntry := [], mirPayload := [], paySent := [], mirDone := if handover then j.slots.filter fun i => !part.contains i else [],
                                sentHi := topSeqs (es.filter fun x => !part.contains x.1) }

/-- R458 step 5: a staged payload that no entry names stays sealed for its tick, or goes when that tick's commit point has
passed. The frames of R453 do not carry its endpoint, tick and program: free values. Assumption 60 (DESIGN CHOICE). -/
def State.takeStaged (s : State) : State :=
  let held := s.twin.heldPay
  let s := s.modTwin fun w => { w with heldPay := [] }
  s.forEach held fun h s =>
    if hu : h.1 < 9 then
      let u : UnitId := ⟨h.1, hu⟩
      match (s.jn u).pool.find? fun p => p.1.doff = h.2 with
      | some (p, _) =>
        let w := s.freeVal.toNat
        let a := s.freeStep.freeVal
        let t := s.freeStep.freeStep.freeVal.toNat % 2 ^ 48
        let s := s.freeStep.freeStep.freeStep
        if s.commitPassed t then s.poolDrop u p
        else
          let prog : Prog := ⟨⟨w / 64 % 8, by omega⟩, BitVec.ofNat 16 (w / 512), Cap.null, a, false, 0, false⟩
          s.modEng u fun g => { g with sealedCmds := g.sealedCmds ++ [⟨16, prog, w % 64, t, g.offset, [p], g.nextFetch⟩] }
      | none => s
    else s

/-- Every CP is told (R458 step 6, R467). -/
def State.lkpEvent (s : State) : State := s.forEach (List.finRange 16) fun k s => s.setPend k 6

/-- SWITCH_OVER (R458). -/
def State.switchOver (s : State) : State :=
  let was := s.role
  let s := if was = rFENCED then s.clearFail else s
  let s := (s.becomeActive.setFlag oTWN_STAT 13 true).takeEntries false
  (s.takeStaged.lkpEvent).record (mkRec 4 srcTwin 0xF00B none none 0 (BitVec.ofNat 64 was) (BitVec.ofNat 64 rACTIVE))

/-- HANDOVER_SWITCH on the unit that takes over (R466): its twin is a standby in service from then on, so mirroring goes on
(R22). -/
def State.handoverTake (s : State) : State :=
  (((s.becomeActive.takeEntries true).takeStaged).modTwin fun w => { w with mirrorOn := true }).lkpEvent

/-! Becoming standby. -/

/-- The unit gives up what its journal holds and receives the bulk copy (R461, R465). -/
def State.enterResync (s : State) : State :=
  let s := s.forEach (List.finRange 9) fun u s =>
    let s := s.forEach (s.jn u).slots fun i s => s.freeEntry u i
    (s.modJn u fun j => { j with pool := [], retained := [], mirEntry := [], mirPayload := [], mirDone := [], paySent := [], rdWait := [], sentHi := [],
                                 aborts := [], cut := [] }).showJnl u
  let s := s.forEach (List.finRange 9) fun u s => s.modEng u fun g => { g with sealedCmds := [] }
  let s := s.modTwin fun w =>
    { w with bulkIn := [], heldPay := [], rdTags := [], inSync := false, mirrorOn := false, mirrorNext := false, bypass := false,
             handover := none }
  let s := if s.role = rFENCED then s.clearFail else s
  ((s.setFld oTWN_STAT 47 40 0).setRole rRESYNC).roleEngines.setSource 5

/-- A role without engines and with complete copies (R465 step 4, R466). -/
def State.enterStandby (s : State) : State :=
  let s := s.modTwin fun w => { w with inSync := true, mirrorOn := false, mirrorNext := false, bypass := false, handover := none }
  ((s.setRole rSTANDBY).roleEngines).setSource 5

/-- HANDOVER_SWITCH on the unit that hands over (R466, R467): its entries and its staged payloads are now the copies.
Assumption 62 (DEDUCED). -/
def State.handoverGive (s : State) : State :=
  let s := s.enterStandby.modTwin fun w => { w with partner := rACTIVE }
  s.forEach (List.finRange 9) fun u s =>
    let staged := ((s.eng u).sealedCmds.map fun k => k.payloads).flatten
    let s := s.modEng u fun g => { g with sealedCmds := [] }
    let s := s.modJn u fun j => { j with mirEntry := [], mirPayload := [], mirDone := [], paySent := [] }
    s.modTwin fun w => { w with heldPay := w.heldPay ++ staged.map fun p => (u.val, p.doff) }

/-- The copies are incomplete from now on. -/
def State.enterStale (s : State) : State := (s.modTwin fun w => { w with inSync := false }).setRole rSTALE

/-! Mirroring stops (R357). -/

/-- Payloads asked of the twin will not come (R355). -/
def State.dropReads (s : State) : State :=
  let s := s.forEach (List.finRange 9) fun u s => s.forEach (s.jn u).rdWait fun i s => s.dataLost u i
  s.modTwin fun w => { w with rdTags := [] }

/-- MIRROR_BYPASS: WRITTEN entries become READY and UNMIRRORED, and later ones too until the standby has resynchronised. -/
def State.mirrorBypass (s : State) : State :=
  if s.role ≠ rACTIVE ∨ s.twin.mirrorOn = false then s
  else
    let s := s.modTwin fun w => { w with mirrorOn := false, mirrorNext := false, bypass := true, bulk := [] }
    s.forEach (List.finRange 9) fun u s =>
      if s.mirrorSet u then
        let s := s.forEach (s.entries u) fun x s =>
          if x.2.state = jWRITTEN ∨ (s.jn u).mirEntry.contains x.1 = true then s.bypassEntry u x.1 else s
        let s := s.modJn u fun j => { j with mirEntry := [], mirPayload := [], mirDone := [], paySent := [] }
        (s.count (cUNIT u 11)).setFlag (oJNL_STAT u) 1 true
      else s

/-- R468: a handover in progress is abandoned when a path is lost. -/
def State.abandonHandover (s : State) : State :=
  match s.twin.handover with
  | some _ => (s.modTwin fun w => { w with handover := none }).accessRecord .pf0 oTWN_CMD true
  | none => s

/-! The bulk copy (R465). -/

/-- What the copy carries. -/
def State.bulkImage (s : State) : BulkImage where
  entries := ((List.finRange 9).map fun u => (s.entries u).map fun x => (u.val, x.1, x.2.words)).flatten
  payloads := ((List.finRange 9).map fun u => (s.jn u).pool.map fun p => (u.val, p.1.doff, s.payloadBytes p.1)).flatten
  oseqs := (List.range 576).map fun i => s.oseq (i / 64) (i % 64)
  iseqs := (List.range 512).map fun i => s.iseq (i / 64) (i % 64)
  epochs := (List.range 8).map fun u => s.fld (oPORT_STAT u) 47 32

/-- R465 steps 1 to 3 on the active unit: the digests are compared; when they agree, mirroring starts at the next commit point
and the copy is sent. The twin's digest reaches this unit by no frame of R453: whether they agree is a free value.
Assumption 59 (DESIGN CHOICE). -/
def State.startCopy (s : State) : State :=
  let agree := s.freeVal.getLsbD 0
  let s := s.freeStep.modTwin fun w => { w with bulkSent := 1 }
  if agree then
    let keys := ((List.finRange 9).map fun u => (s.jn u).slots.map fun i => 65536 * u.val + i).flatten
    let img := s.bulkImage
    let s := s.modTwin fun w => { w with mirrorNext := true, bulk := keys }
    let s := s.setFld oTWN_STAT 47 40 0
    s.forEach ((Config.bulkEncode img).zipIdx) fun (c, i) s => s.dalSend 8 0 i c
  else s.setFlag oTWN_STAT 11 true

/-- A payload of the copy is placed, unless one is held there. -/
def State.bulkPayload (s : State) (u doff : Nat) (bs : List Byte) : State :=
  if hu : u < 9 then
    let v : UnitId := ⟨u, hu⟩
    if s.poolFree v doff bs.length then
      let s := { s with mem := s.mem.putRaws (journalBase + doff) (bytesWords bs) }
      (s.modJn v fun j => { j with pool := (⟨doff, bs.length⟩, 1) :: j.pool }).modTwin fun w => { w with heldPay := (u, doff) :: w.heldPay }
    else s
  else s

/-- An entry that names a payload in the pool uses it: a staged payload becomes the entry's. -/
def State.useHeld (s : State) (u : UnitId) (e : JEntry) : State :=
  if e.keeps = false then s
  else if s.twin.heldPay.contains (u.val, e.doff) then
    s.modTwin fun w => { w with heldPay := w.heldPay.filter (· ≠ (u.val, e.doff)) }
  else s.poolUse u e.payload

/-- An entry of the twin takes its slot; its endpoint's numbers follow (R454). -/
def State.storeEntry (s : State) (u : UnitId) (i : Nat) (e : JEntry) : State :=
  let s := s.putEntry u i e
  let s := s.modJn u fun j => { j with slots := j.slots.filter (· ≠ i) ++ [i], lastSlot := i }
  let s := if seqAfter (seqNext e.seq) (s.oseq u e.ep) then s.setFld (oJNL_OSEQ u e.ep) 47 0 (seqNext e.seq) else s
  (s.useHeld u e).showJnl u

/-- The copy is complete on the joining unit: what it carried stands, but for what came live.
Assumption 59 (DESIGN CHOICE). -/
def State.applyBulk (s : State) (m : BulkImage) : State :=
  let s := s.forEach m.payloads fun p s => s.bulkPayload p.1 p.2.1 p.2.2
  let live := (List.finRange 9).map fun u => (s.jn u).slots
  let s := s.forEach m.entries fun x s =>
    if hu : x.1 < 9 then
      let u : UnitId := ⟨x.1, hu⟩
      if x.2.1 < 65536 ∧ !(s.jn u).slots.contains x.2.1 then s.storeEntry u x.2.1 (JEntry.ofWords x.2.2) else s
    else s
  -- entries that came live were committed after those of the copy
  let s := s.forEach (List.finRange 9) fun u s =>
    let l := live.getD u []
    s.modJn u fun j => { j with slots := (j.slots.filter fun i => !l.contains i) ++ l }
  let s := s.forEach (List.range 576) fun i s =>
    let v := m.oseqs.getD i 0 % 2 ^ 48
    if seqAfter v (s.oseq (i / 64) (i % 64)) then s.setFld (oJNL_OSEQ (i / 64) (i % 64)) 47 0 v else s
  let s := s.forEach (List.range 512) fun i s =>
    let v := m.iseqs.getD i 0 % 2 ^ 48
    if seqAfter v (s.iseq (i / 64) (i % 64)) then s.setFld (oJNL_ISEQ (i / 64) (i % 64)) 47 0 v else s
  s.forEach (List.finRange 8) fun u s =>
    let v := m.epochs.getD u 0 % 65536
    if isAfter 16 v (s.portEpoch u) then s.setFld (oPORT_STAT u) 47 32 v else s

/-- RESYNC_COMPLETE (R465): the joining unit is STANDBY; the active unit's twin is in step. -/
def State.resyncDone (s : State) : State :=
  if s.role = rRESYNC then
    let m := Config.bulkDecode s.twin.bulkIn
    ((s.applyBulk m).modTwin fun w => { w with bulkIn := [] }).setFld oTWN_STAT 47 40 100 |>.enterStandby
  else if s.role = rACTIVE ∧ s.twin.bulkSent ≠ 0 ∧ s.linkUp = true then
    (s.setFld oTWN_STAT 47 40 100).modTwin fun w => { w with partner := rSTANDBY }
  else s

/-! Heartbeats (R455 to R457). -/

/-- CRC-8 with polynomial 0x07 over bits 63:8, bit 63 first. -/
def crc8 (w : Word) : Nat :=
  (List.range 56).foldl (fun c i =>
    let d := 2 * c % 256
    if c.testBit 7 != w.getLsbD (63 - i) then d ^^^ 7 else d) 0

/-- The heartbeat word of R455: without clocks or power it names the last role. -/
def State.hbWord (s : State) : Word :=
  let role := if s.rstL && s.pwrok && !s.pwr.emergency then s.role else s.twin.lastRole
  let w := BitVec.ofNat 64 (0xD5 * 2 ^ 56 + s.fld oTWN_STAT 5 5 * 2 ^ 55 + role % 8 * 2 ^ 52
    + (if s.twin.deviceFail then 2 ^ 51 else 0) + (if s.linkUp then 2 ^ 50 else 0) + (if s.twin.inSync then 2 ^ 49 else 0)
    + s.tickNum % 2 ^ 40 * 256)
  w ||| BitVec.ofNat 64 (crc8 w)

/-- HEARTBEAT_SEND: the word goes out on the pins, and on the link while it is up; it needs VDD_AUX only (R456). -/
def State.hbSend (s : State) : State :=
  if s.auxOn = false then s
  else
    let w := s.hbWord
    let s := s.emit (.heartbeat .pins w)
    if s.linkUp then s.dalSend 6 0 (w.toNat % 2 ^ 32) (leBytes 8 w.toNat) else s

/-- TWIN_FAILURE_DECLARE (R357, R457, R468); fail: by a word with DEVICE_FAIL. Assumption 62 (DEDUCED). -/
def State.declareFailed (s : State) (fail : Bool) : State :=
  let r := s.role
  if r = rSTANDBY then s.switchOver
  else if r = rACTIVE then (s.abandonHandover.mirrorBypass.dropReads).modTwin fun w => { w with partner := 0, bulkSent := 0, bulk := [] }
  else if r = rSTALE ∧ fail then s.recordOpen (mkRec 1 srcTwin 0)
  else s

/-- R449: what an electing unit makes of its twin's role. Assumption 60 (DESIGN CHOICE). -/
def State.elect (s : State) (their : Nat) : State :=
  if s.role ≠ rELECTING then s
  else if their = rACTIVE then s.enterResync
  else if their = rELECTING then
    -- PREFER of the twin reaches this unit by no word: a free value
    let mine := s.fld oTWN_CTL 6 5
    let theirs := s.freeVal.toNat % 4
    let s := s.freeStep
    let me := s.fld oTWN_STAT 5 5
    let s := if mine = theirs then s else s.setFlag oTWN_STAT 11 true
    let win := if mine = theirs then preferUnit mine else 0
    if me = win then s.becomeActive else s.enterResync
  else s

/-- HEARTBEAT_RECEIVE (R444, R449, R456, R457, R465). -/
def State.hbReceive (s : State) (path : HbPath) (w : Word) : State :=
  let s := if path = .link then s.modTwin fun t => { t with rxSeq := (t.rxSeq + 1) % 2 ^ 48 } else s
  if path = .pins ∧ s.twin.pinsIgnored = true then s
  else if bits w 63 56 ≠ 0xD5 ∨ bits w 7 0 ≠ crc8 w then
    if path = .link then s
    else
      let s := (s.count (cDEV 4)).modTwin fun t => { t with hbBad := t.hbBad + 1 }
      if s.twin.hbBad = 17 then (s.modTwin fun t => { t with pinsIgnored := true }).record (mkRec 1 srcTwin 4) else s
  else if bits w 55 55 = s.fld oTWN_STAT 5 5 then
    (((s.count (cDEV 5)).record (mkRec 1 srcTwin 5)).setRole rSOLO).roleEngines
  else
    let their := bits w 54 52
    let s := s.modTwin fun t =>
      { t with partner := their, partnerSync := bit w 49,
               missPins := if path = .pins then 0 else t.missPins, missLink := if path = .link then 0 else t.missLink,
               bulkSent := if their = rRESYNC then t.bulkSent else 0 }
    let s := if path = .pins then s.setFlag oTWN_STAT 7 true else s
    if s.twinOn = false then s
    else
      let s := s.elect their
      let s := if bit w 51 then s.declareFailed true else s
      if s.role = rACTIVE ∧ their = rRESYNC ∧ s.twin.bulkSent = 0 ∧ s.linkUp = true then s.startCopy else s

/-- HEARTBEAT_MISS (R457, R462): a period without a valid word. The twin is declared failed when both paths have missed 4 in
a row while the link has not been lost; a lost link and lost pins together are no declaration (R462).
Assumption 62 (DEDUCED). -/
def State.hbMiss (s : State) (path : HbPath) : State :=
  if s.twinOn = false then s
  else
    let s := s.modTwin fun t =>
      { t with missPins := if path = .pins then t.missPins + 1 else t.missPins,
               missLink := if path = .link then t.missLink + 1 else t.missLink }
    let s := if path = .pins ∧ s.twin.missPins = 4 then
        (((s.setFlag oTWN_STAT 10 true).setFlag oTWN_STAT 7 false).recordOpen (mkRec 1 srcTwin 0)).abandonHandover
      else s
    let mine := if path = .pins then s.twin.missPins else s.twin.missLink
    let other := if path = .pins then s.twin.missLink else s.twin.missPins
    if mine = 4 ∧ 4 ≤ other ∧ s.linkUp = true then s.declareFailed false else s

/-! The link (R451, R462). -/

/-- The width of the link on working lanes (R451). -/
def dalWidth (lanes : BitVec 16) : Nat :=
  if lanes = 0xFFFF then 3
  else if lanes &&& 0x00FF = 0x00FF ∨ lanes &&& 0xFF00 = 0xFF00 then 2
  else if lanes &&& 0x000F = 0x000F ∨ lanes &&& 0xF000 = 0xF000 then 1
  else 0

/-- DALNOS_LINK_UP: the link trains; sequence numbers begin anew when it was down. Assumption 61 (DEDUCED). -/
def State.dalUp (s : State) (lanes : BitVec 16) (delay : Nat) : State :=
  if dalWidth lanes = 0 ∨ s.domainOn 29 = false then s
  else
    let was := s.linkUp
    let s := (s.setFlag oTWN_STAT 6 true).setFld oTWN_STAT 34 32 (dalWidth lanes)
    s.modTwin fun w =>
      if was then { w with linkDelay := delay }
      else { w with linkDelay := delay, txSeq := 0, rxSeq := 0, replay := [], missLink := 0 }

/-- DALNOS_LINK_LOSS: no switch-over; the active unit applies R357. A standby becomes STANDBY_STALE while the pins are healthy;
with both paths lost it stays STANDBY. -/
def State.dalLoss (s : State) : State :=
  if s.linkUp = false then s
  else
    let s := s.abandonHandover.mirrorBypass
    let s := ((s.setFlag oTWN_STAT 6 false).setFld oTWN_STAT 34 32 0).setFlag oTWN_STAT 9 true
    let s := s.dropReads.modTwin fun w => { w with mirrorNext := false, bulk := [], bulkSent := 0 }
    let pins := decide (s.twin.missPins < 4)
    if s.role = rRESYNC ∨ (s.role = rSTANDBY ∧ pins = true) then s.enterStale else s

/-! Commands (R448, R463, R464, R466). -/

/-- R466: the first tick whose commit point comes at least 20 µs from now. -/
def State.handoverTick (s : State) : Nat :=
  let p := s.period
  let k := if p = 0 then 1
    else
      let need := s.now.toNat + 22000 - s.edgeTime
      max (if s.tick.commitDone then 2 else 1) ((need + p - 1) / p)
  (s.tickNum + k) % 2 ^ 48

/-- Both paths to the twin are healthy. -/
def State.pathsGood (s : State) : Bool := s.linkUp && s.flag oTWN_STAT 7 && decide (s.twin.missPins < 4 ∧ s.twin.missLink < 4)

/-- TWN_CMD was written. Assumption 63 (DEDUCED). -/
def State.twnCommand (s : State) (i : Initiator) (cmd recOff : Nat) : State :=
  let r := s.role
  let refuse := s.accessRecord i recOff true
  match cmd with
  | 1 => if r = rSTANDBY ∨ r = rELECTING then s.switchOver else refuse
  | 2 => if r = rELECTING ∨ (rSTANDBY ≤ r ∧ r ≤ rFENCED) then s.switchOver else refuse
  | 3 => if (r = rSTALE ∨ r = rFENCED) ∧ s.linkUp = true ∧ s.twin.partner = rACTIVE then s.enterResync else refuse
  | 4 =>
    if r = rACTIVE ∧ s.twin.partner = rSTANDBY ∧ s.pathsGood = true then
      s.modTwin fun w => { w with handover := some s.handoverTick }
    else refuse
  | 5 => if r = rACTIVE then (s.deviceFail.setRole rFENCED).roleEngines else refuse
  | _ => s

/-- HANDOVER_SWITCH (R466): after tick T, on either unit. -/
def State.handoverSwitch (s : State) : State :=
  match s.twin.handover with
  | some t =>
    if s.role = rACTIVE ∧ seqAfter t s.tickNum = false then s.handoverGive else s
  | none => if s.role = rSTANDBY ∧ s.twin.partner = rACTIVE ∧ s.linkUp = true then s.handoverTake else s

/-- TWN_CTL.ENABLE changed, or start-up completes (R449, TWN_CTL). Assumption 62 (DEDUCED). -/
def State.twinEnable (s : State) : State :=
  if s.twinOn then (s.setRole rELECTING).roleEngines else (s.setRole rSOLO).roleEngines

/-! Dalnos frames (R452, R453). -/

end Sys2Proof.Machine

namespace Sys2Proof

open Machine (bits crc32c wordBytes)

def DalFrame.lseq (f : DalFrame) : Nat := bits f.h0 63 16
def DalFrame.unitj (f : DalFrame) : Nat := bits f.h0 15 12
def DalFrame.ty (f : DalFrame) : Nat := bits f.h0 7 4
def DalFrame.len (f : DalFrame) : Nat := bits f.h1 47 34
def DalFrame.arg (f : DalFrame) : Nat := bits f.h1 31 0

/-- The frame is well formed. -/
def DalFrame.good (f : DalFrame) : Bool :=
  f.crc == crc32c (wordBytes [f.h0, f.h1] ++ f.payload) && bits f.h0 3 0 == 1 && bits f.h0 11 8 == 0
    && bits f.h1 63 48 == 0 && bits f.h1 33 32 == 0 && f.len == f.payload.length && decide (f.len ≤ 8192 ∧ f.ty ≤ 10)
    && decide (f.unitj ≤ 8)

end Sys2Proof

namespace Sys2Proof.Machine

/-- A frame of a type arrives: checked, in order, then acted on; a CRC error or a gap sends LNAK (R453). -/
def State.dalTake (s : State) (f : DalFrame) (ty : Nat) (act : State → State) : State :=
  let lnak := s.dalSend 0xA 0 (s.twin.rxSeq % 2 ^ 32) []
  if s.linkUp = false ∨ f.ty ≠ ty then s
  else if f.good = false then lnak
  else if ty = 0 ∨ ty = 0xA then act s
  else if f.lseq = s.twin.rxSeq then act (s.modTwin fun w => { w with rxSeq := (w.rxSeq + 1) % 2 ^ 48 })
  else if seqAfter f.lseq s.twin.rxSeq then lnak
  else s

/-- The unit stores mirror traffic. -/
def State.takesMirror (s : State) : Bool := s.role == rSTANDBY || s.role == rRESYNC

/-- The unit that a mirror frame names. -/
def dalUnit (f : DalFrame) : UnitId := ⟨f.unitj % 9, Nat.mod_lt _ (by decide)⟩

/-- The payload of an entry is held, or it needs none. -/
def State.hasPayload (s : State) (u : UnitId) (i : Nat) : Bool :=
  let e := s.entry u i
  !e.keeps || (s.jn u).pool.any fun p => p.1 = e.payload

/-- R453: the standby acknowledges the latest entry up to which it holds everything. -/
def State.sendMack (s : State) (u : UnitId) : State :=
  let done := (s.jn u).slots.takeWhile fun i => s.hasPayload u i
  let s := s.modJn u fun j => { j with mirPayload := j.slots.filter fun i => !s.hasPayload u i }
  match done.getLast? with
  | some i => s.dalSend 3 u i []
  | none => s

/-- DAL_PAYLOAD (R356): a staged payload is stored in the pool. -/
def State.dalPayloadIn (s : State) (f : DalFrame) : State :=
  s.dalTake f 1 fun s =>
    let u := dalUnit f
    let p : Payload := ⟨f.arg % 2 ^ 30, f.len⟩
    if s.takesMirror = false ∨ p.doff % 64 ≠ 0 ∨ p.doff < (s.poolArea u).1
        ∨ (s.poolArea u).1 + (s.poolArea u).2 < p.doff + p.len then s
    else
      let waits := !(s.jn u).mirPayload.isEmpty
      let s := { s with mem := s.mem.putRaws (journalBase + p.doff) (bytesWords f.payload) }
      let s := s.modJn u fun j => { j with pool := (p, 1) :: j.pool.filter fun q => q.1.doff ≠ p.doff }
      if waits && (s.entries u).any fun x => x.2.keeps && x.2.doff == p.doff then s.sendMack u
      else (s.modTwin fun w => { w with heldPay := (u.val, p.doff) :: w.heldPay.filter (· ≠ (u.val, p.doff)) }).showJnl u

/-- DAL_ENTRY (R356): a journal entry is stored and acknowledged. -/
def State.dalEntryIn (s : State) (f : DalFrame) : State :=
  s.dalTake f 2 fun s =>
    let u := dalUnit f
    if s.takesMirror = false ∨ f.len ≠ 64 ∨ 65536 ≤ f.arg then s
    else (s.storeEntry u f.arg (JEntry.ofWords (bytesWords f.payload))).sendMack u

/-- DAL_MACK (R356, R465): entries up to the named one are acknowledged: WRITTEN becomes READY, and a copied entry is
mirrored. -/
def State.dalMackIn (s : State) (f : DalFrame) : State :=
  s.dalTake f 3 fun s =>
    let u := dalUnit f
    let sl := (s.jn u).slots
    if s.role ≠ rACTIVE ∨ sl.contains f.arg = false then s
    else
      let upTo := sl.takeWhile (· ≠ f.arg) ++ [f.arg]
      let s := s.forEach upTo fun i s =>
        let copied := s.twin.bulk.contains (65536 * u.val + i)
        let e := s.entry u i
        if e.state = jWRITTEN ∨ (copied ∧ e.flag 3 = true) then
          s.modEntry u i fun e =>
            { e with state := if e.state = jWRITTEN then jREADY else e.state,
                     flags := if copied then e.flags &&& ~~~(8 : Byte) else e.flags }
        else s
      let s := s.modJn u fun j =>
        { j with mirEntry := j.mirEntry.filter fun i => !upTo.contains i, mirPayload := j.mirPayload.filter fun i => !upTo.contains i,
                 mirDone := j.mirDone.filter (fun i => !upTo.contains i) ++ upTo }
      s.modTwin fun w => { w with bulk := w.bulk.filter fun k => !upTo.any fun i => k == 65536 * u.val + i }

/-- DAL_FREE (R356): the entries that an acknowledgement freed. -/
def State.dalFreeIn (s : State) (f : DalFrame) : State :=
  s.dalTake f 4 fun s =>
    let u := dalUnit f
    if s.takesMirror = false ∨ f.len ≠ 2 * f.arg then s
    else
      s.forEach (List.range f.arg) fun k s =>
        let i := leNat ((f.payload.drop (2 * k)).take 2)
        if (s.jn u).slots.contains i then s.freeEntry u i else s

/-- DAL_STATE (R453, R465, R467, R468). -/
def State.dalStateIn (s : State) (f : DalFrame) : State :=
  s.dalTake f 5 fun s =>
    if s.role < rSTANDBY ∨ rRESYNC < s.role ∨ f.len ≠ 4136 then s
    else
      let ws := bytesWords f.payload
      let w := fun i => ws.getD i 0
      let s := s.modTwin fun t => { t with twinTick := bits (w 0) 47 0, twinDigest := some (w 2) }
      let s := s.forEach (List.finRange 8) fun u s =>
        let v := bits (w (3 + u.val / 4)) (16 * (u.val % 4) + 15) (16 * (u.val % 4))
        if isAfter 16 v (s.portEpoch u) then s.setFld (oPORT_STAT u) 47 32 v else s
      let s := s.forEach (List.range 512) fun i s => s.setFld (oJNL_ISEQ (i / 64) (i % 64)) 47 0 (bits (w (5 + i)) 47 0)
      if w 2 = s.g0Digest then s
      else
        let s := s.setFlag oTWN_STAT 11 true
        if s.role = rSTALE then s else s.enterStale

/-- DAL_TICK (R454): a candidate tick with its number. -/
def State.dalTickIn (s : State) (f : DalFrame) : State :=
  s.dalTake f 7 fun s =>
    if s.role < rSTANDBY ∨ rRESYNC < s.role ∨ f.len ≠ 16 ∨ s.tick.src ≠ 5 then s
    else
      let ws := bytesWords f.payload
      let t := (ws.getD 1 0).toNat + s.twin.linkDelay
      (s.advanceTo (BitVec.ofNat 64 t)).candidate t (some (bits (ws.getD 0 0) 47 0))

/-- DAL_BULK (R465): a chunk of the copy; how far it brings the copy is not stated. -/
def State.dalBulkIn (s : State) (f : DalFrame) : State :=
  s.dalTake f 8 fun s =>
    if s.role ≠ rRESYNC then s
    else
      let pct := s.freeVal.toNat % 101
      (s.freeStep.setFld oTWN_STAT 47 40 pct).modTwin fun w => { w with bulkIn := w.bulkIn ++ [f.payload] }

/-- DAL_RDREQ (R355): the copy of a payload goes back; none when it is not held or cannot be read. Assumption 61 (DEDUCED). -/
def State.dalRdreqIn (s : State) (f : DalFrame) : State :=
  s.dalTake f 9 fun s =>
    let w := (bytesWords f.payload).getD 0 0
    let u : UnitId := ⟨bits w 35 32 % 9, Nat.mod_lt _ (by decide)⟩
    match (s.jn u).pool.find? fun p => p.1.doff = bits w 29 0 with
    | some (p, _) => if s.payloadOk p then s.dalSend 9 0 f.arg (s.payloadBytes p) else s.dalSend 9 0 f.arg []
    | none => s.dalSend 9 0 f.arg []

/-- DAL_RDRSP (R355): the payload is placed and its entry can be sent, or it is lost. Assumption 61 (DEDUCED). -/
def State.dalRdrspIn (s : State) (f : DalFrame) : State :=
  s.dalTake f 9 fun s =>
    match s.twin.rdTags.find? fun t => t.1 = f.arg with
    | none => s
    | some (_, u, i) =>
      let s := s.modTwin fun w => { w with rdTags := w.rdTags.filter fun t => t.1 ≠ f.arg }
      if hu : u < 9 then
        let v : UnitId := ⟨u, hu⟩
        let e := s.entry v i
        if (s.jn v).rdWait.contains i = false then s
        else if f.payload.length = e.len ∧ f.payload ≠ [] then
          let s := { s with mem := s.mem.putRaws (journalBase + e.doff) (bytesWords f.payload) }
          s.modJn v fun j => { j with rdWait := j.rdWait.filter (· ≠ i) }
        else s.dataLost v i
      else s

/-- The frames of the 4 MiB replay buffer, oldest first (R453). -/
def State.replayBuffer (s : State) : List DalFrame :=
  (s.twin.replay.foldl (fun (a : List DalFrame × Nat) f =>
    if a.2 + f.payload.length + 20 ≤ 4194304 then (f :: a.1, a.2 + f.payload.length + 20) else (a.1, 4194304)) ([], 0)).1

/-- DAL_LNAK (R453): the frames from the named one are sent again in order. -/
def State.dalLnakIn (s : State) (f : DalFrame) : State :=
  s.dalTake f 0xA fun s =>
    let l := s.replayBuffer.dropWhile fun g => g.lseq % 2 ^ 32 ≠ f.arg
    s.forEach l fun g s => s.emit (.dal g)

/-! The commands. -/

/-- HEARTBEAT_SEND (R455). -/
def execHeartbeatSend (s : State) : Host.Outcome State Fault Refusal := .next s.hbSend
/-- HEARTBEAT_RECEIVE (R457). -/
def execHeartbeatReceive (path : HbPath) (w : Word) (t : Word) (s : State) : Host.Outcome State Fault Refusal :=
  .next ((s.advanceTo t).hbReceive path w)
/-- HEARTBEAT_MISS (R457). -/
def execHeartbeatMiss (path : HbPath) (s : State) : Host.Outcome State Fault Refusal := .next (s.hbMiss path)
/-- JOIN_WAIT_EXPIRY (R449). -/
def execJoinWaitExpiry (s : State) : Host.Outcome State Fault Refusal :=
  .next (if s.role = rELECTING ∧ s.flag oTWN_CTL 1 = true then s.becomeActive else s)
/-- HANDOVER_SWITCH (R466). -/
def execHandoverSwitch (s : State) : Host.Outcome State Fault Refusal := .next s.handoverSwitch
/-- OWN_GNT_ASSERT (R463). -/
def execOwnGntAssert (s : State) : Host.Outcome State Fault Refusal :=
  let s := s.setFlag oTWN_STAT 8 true
  .next (if s.role = rSTANDBY ∨ s.role = rELECTING then s.switchOver else s)
/-- DALNOS_LINK_LOSS (R462). -/
def execDalnosLinkLoss (s : State) : Host.Outcome State Fault Refusal := .next s.dalLoss
/-- DALNOS_LINK_UP (R451). -/
def execDalnosLinkUp (lanes : BitVec 16) (delay : Nat) (s : State) : Host.Outcome State Fault Refusal :=
  .next (s.dalUp lanes delay)
/-- DAL_PAYLOAD (R356). -/
def execDalPayload (fr : DalFrame) (s : State) : Host.Outcome State Fault Refusal := .next (s.dalPayloadIn fr)
/-- DAL_ENTRY (R356). -/
def execDalEntry (fr : DalFrame) (s : State) : Host.Outcome State Fault Refusal := .next (s.dalEntryIn fr)
/-- DAL_MACK (R356). -/
def execDalMack (fr : DalFrame) (s : State) : Host.Outcome State Fault Refusal := .next (s.dalMackIn fr)
/-- DAL_FREE (R356). -/
def execDalFree (fr : DalFrame) (s : State) : Host.Outcome State Fault Refusal := .next (s.dalFreeIn fr)
/-- DAL_STATE (R453). -/
def execDalState (fr : DalFrame) (s : State) : Host.Outcome State Fault Refusal := .next (s.dalStateIn fr)
/-- DAL_TICK (R454). -/
def execDalTick (fr : DalFrame) (s : State) : Host.Outcome State Fault Refusal := .next (s.dalTickIn fr)
/-- DAL_BULK (R465). -/
def execDalBulk (fr : DalFrame) (s : State) : Host.Outcome State Fault Refusal := .next (s.dalBulkIn fr)
/-- DAL_RDREQ (R355). -/
def execDalRdreq (fr : DalFrame) (s : State) : Host.Outcome State Fault Refusal := .next (s.dalRdreqIn fr)
/-- DAL_RDRSP (R355). -/
def execDalRdrsp (fr : DalFrame) (s : State) : Host.Outcome State Fault Refusal := .next (s.dalRdrspIn fr)
/-- DAL_LNAK (R453). -/
def execDalLnak (fr : DalFrame) (s : State) : Host.Outcome State Fault Refusal := .next (s.dalLnakIn fr)
/-- DAL_IDLE (R453): it carries nothing. -/
def execDalIdle (fr : DalFrame) (s : State) : Host.Outcome State Fault Refusal := .next (s.dalTake fr 0 fun s => s)
/-- RESYNC_COMPLETE (R465). -/
def execResyncComplete (s : State) : Host.Outcome State Fault Refusal := .next s.resyncDone

end Sys2Proof.Machine
end

