-- ==== Sys2Proof/Machine/Service.lean ====
section
/-!
DEFINITION. What the Lockkeeper does when a configuration field changes, by a generation or by PF0 in DEFAULT: pairs and withdrawn CPs (R283, R289), teardown of a partition (R475, R476), and every other control.
-/

namespace Sys2Proof.Machine

/-! Pairs and withdrawn CPs. -/

/-- CMP_PAIR.ENABLE was cleared: both copies stand at the last verified checkpoint, the follower becomes a spare. -/
def State.pairOff (s : State) (n : PairId) : State :=
  let s := if s.pairRuns n then s.pairRollback n else s
  let s := s.dropFollower n bSPARE
  let s := match s.cmpOf n with
    | some c =>
      -- a comparator under test goes on with it and serves no pair
      let s := s.setFld (oCMP_UNIT c) 7 4 0xF
      if s.fld (oCMP_UNIT c) 2 0 = uSERVICE then s.setFld (oCMP_UNIT c) 2 0 uSPARE else s
    | none => s
  ({ s with pairs := s.pairs.set n Pair.reset }).setPairSt n pOFF |>.setFld (oCMP_PSTAT n) 35 32 0xF

/-- CMP_PAIR_n changed from old. Assumption 40 (DEDUCED). -/
def State.pairCtl (s : State) (n : PairId) (old : Word) : State :=
  let new := s.reg (oCMP_PAIR n)
  let moved := bits old 35 32 != bits new 35 32
  if bit old 63 && (!bit new 63 || moved) then
    let s := ((s.setReg (oCMP_PAIR n) old).pairOff n).setReg (oCMP_PAIR n) new
    if bit new 63 then s.pairOn n else s
  else if bit new 63 && !bit old 63 then s.pairOn n
  else s

/-- CMP_CTL.WITHDRAW changed: a withdrawn CP's site becomes a spare; a CP that returns takes a spare (R17, R18), here the
lowest. Assumption 84 (DESIGN CHOICE). -/
def State.withdraw (s : State) (old : Word) : State :=
  s.forEach (List.finRange 16) fun k s =>
    let was := bit old (16 + k.val)
    let is_ := s.flag oCMP_CTL (16 + k.val)
    if is_ && !was then
      match s.siteOf k with
      | some t => ((s.clearSite t).setBindSt t bSPARE).setFld (oCS_BIND t) 19 16 0xF
      | none => s
    else if was && !is_ && (s.siteOf k).isNone then
      match (List.finRange 20).find? s.spareFree with
      | some t =>
        let s := s.bindTo t bBOUND k (s.partOf k)
        (match s.partOf k with | some n => s.custToCp n k | none => s)
      | none => s
    else s

/-! Partitions. -/

/-- Every register of R271 at zero (R476). -/
def CpRegs.zero : CpRegs :=
  { CpRegs.init Cap.null with g := Vector.replicate 32 TWord.raw0, p := 0, ps := 0 }

/-- A CP of a partition that goes: it stops, its site is cleared and becomes a spare. -/
def State.cpLeaves (s : State) (k : CpId) : State :=
  let s := if (s.sparingSite k).isSome then s.spareDone k else s
  let s := s.forEach (List.finRange 10) fun n s =>
    if s.pairCp n = k ∧ s.pairSt n ≠ pOFF then (s.pairOff n).setPairSt n (if s.flag (oCMP_PAIR n) 63 then pFORMING else pOFF)
    else s
  let s := match s.siteOf k with
    | some t => ((s.clearSite t).setBindSt t bSPARE).setFld (oCS_BIND t) 19 16 0xF
    | none => s
  s.setCp k { Cp.reset with regs := CpRegs.zero, ckpt := CpRegs.zero }

/-- Teardown of partition n, while its registers still name what it owns (R337, R395, R475 to R477, R505).
Assumption 64 (DEDUCED). -/
def State.teardown (s : State) (n : PartId) : State :=
  let frames := s.mappedFrames n
  let cps := s.partCps n
  let s := s.setPartState n ptCLEARING
  let s := s.forEach (List.finRange 9) fun e s => s.cancelWhere e 0 fun p => p.part = n
  let s := s.forEach cps fun k s => s.cpLeaves k
  let s := (s.setFld (oPRT_STAT n) 31 16 0).setStartDue n false
  let s := s.forEach (List.range 256) fun i s => if s.slotOwner i = n.val then s.clearSlot i else s
  let s := s.forEach (List.finRange 9) fun e s =>
    if s.cfg.cust.any fun im => im.kind == 4 && im.part == n.val && im.engines.getLsbD e then s.engCust e none else s
  let s := { s with
    cfg := { s.cfg with cust := s.cfg.cust.filter fun im => im.part != n.val }
    ringWait := s.ringWait.set n []
    pendWait := s.pendWait.set n 0 }
  let s := s.setFld (oERR_PIDX n) 31 16 (s.fld (oERR_PIDX n) 15 0)
  (s.queueClear n frames).closeSession (.part n)

/-- CS_BIND.PART shows the partition of the CP that a site serves. -/
def State.showParts (s : State) : State :=
  s.forEach (List.finRange 20) fun t s =>
    if s.bindSt t = bBOUND ∨ s.bindSt t = bFOLLOWER ∨ s.bindSt t = bSPARING then
      s.setFld (oCS_BIND t) 19 16 (match s.partOf (cpField (s.fld (oCS_BIND t) 11 8)) with | some n => n.val | none => 0xF)
    else s

/-- PRT_CTL_n changed from old: the partition comes into being, or is torn down (R471, R475). -/
def State.partCtl (s : State) (n : PartId) (old : Word) : State :=
  let new := s.reg (oPRT_CTL n)
  if bit new 63 && !bit old 63 then (if s.partState n = ptNONE then s.setPartState n ptLOADING else s)
  else if bit old 63 && !bit new 63 then
    (if s.partState n = ptNONE ∨ s.partState n = ptCLEARING then s
     else ((s.setReg (oPRT_CTL n) old).teardown n).setReg (oPRT_CTL n) new)
  else s

/-! Other controls. -/

/-- Key slots whose owner changed are emptied (R395). -/
def State.ownersChanged (s : State) (off : Nat) (old : Word) : State :=
  let k := (off - oCIP_KOWN 0) / 8
  s.forEach (List.range 16) fun j s =>
    if bits old (4 * j + 3) (4 * j) ≠ s.fld off (4 * j + 3) (4 * j) then s.clearSlot (16 * k + j) else s

/-- A core site by number. -/
def siteAt (i : Nat) : SiteId := ⟨i % 20, Nat.mod_lt _ (by decide)⟩
/-- A partition by number. -/
def partAt (i : Nat) : PartId := ⟨i % 8, Nat.mod_lt _ (by decide)⟩

/-- What follows from a control field that has changed, whoever changed it; the location already holds the new value. -/
def State.ctlEffect (s : State) (off : Nat) (old : Word) : State :=
  if s.reg off = old then s
  else if off = oTCK_CTL then s.tckCtlEffect old
  else if off = oTCK_TIMER then s.tckTimerEffect
  else if inArr off (oTCK_IN 0) 8 4 then s.tckInEffect ⟨(off - oTCK_IN 0) / 8 % 4, Nat.mod_lt _ (by decide)⟩
  else if inArr off (oPRT_CTL 0) 8 8 then (s.partCtl (partAt ((off - oPRT_CTL 0) / 8)) old).showParts
  else if inArr off (oPRT_L3MASK 0) 8 8 then s.l3Unlock
  else if off = oTWN_CTL then
    (if bit old 0 = s.flag oTWN_CTL 0 then s else s.twinEnable)
  else if 0x100000 ≤ off ∧ off < 0x240000 then
    let t := siteAt ((off - 0x100000) / 0x10000)
    let x := (off - 0x100000) % 0x10000
    if x = 0x200 then (if bit old 0 = s.flag off 0 then s else s.enableChange (.l2 t) (s.flag off 0))
    else if x = 0x210 then s.modSite t fun q => { q with l2 := q.l2.unlock (s.l2Locked t) }
    else if x = 0x500 then s.clkEffect t
    else s
  else if off = oL3_CTL then (if bit old 0 = s.flag off 0 then s else s.enableChange .l3 (s.flag off 0))
  else if off = oCMP_CTL then s.withdraw old
  else if inArr off (oCMP_PAIR 0) 8 10 then s.pairCtl ⟨(off - oCMP_PAIR 0) / 8 % 10, Nat.mod_lt _ (by decide)⟩ old
  else if 0x280000 ≤ off ∧ off < 0x310000 then
    let e := unitAt ((off - 0x280000) / 0x10000)
    if (off - 0x280000) % 0x10000 = 0 then
      -- R339: a generation's RUN has no effect on a retired engine and leaves no record
      let s := if (s.eng e).retired then s.setFlag off 0 false else s
      s.ceCtlEffect .lkp e old (s.reg off &&& 1) off
    else s
  else if 0x310000 ≤ off ∧ off < 0x390000 then
    let u := portAt ((off - 0x310000) / 0x10000)
    if (off - 0x310000) % 0x10000 = 0 then s.portCtlEffect u old 0 else s
  else if off = oTOW_CTL then
    let s := s.landsFrom (s.setReg oTOW_CTL old)
    if bit old 0 = s.flag oTOW_CTL 0 then s
    else
      let s := if s.flag oTOW_CTL 0 then s.dropRetained 8 else s
      s.ceRefresh 8
  else if inArr off (oPRT_RDT 0) 8 8 then s.rlbClear (partAt ((off - oPRT_RDT 0) / 8))
  else if inArr off (oJNL_PORT 0) 8 9 then
    let u := unitAt ((off - oJNL_PORT 0) / 8)
    if s.mirrorSet u = s.flag off 0 then s.mirrorChanged u (bit old 0) else s
  else if inArr off (oCIP_KOWN 0) 8 16 then s.ownersChanged off old
  else if off = oPWR_CTL then s.showThrot
  else if off = oNOC_LINK then s.spareLinks
  else s

end Sys2Proof.Machine
end

