-- ==== Sys2Proof/Machine/Generation.lean ====
section
/-!
DEFINITION. Configuration generations (R491, R492, R519 to R523): images and signatures, the state that a generation produces,
every rule under which a commit is refused, applying a generation, and the commands of CFG_CMD.
-/

namespace Sys2Proof.Machine

/-! States of CFG_STAT.STATE and results. -/

abbrev gSTABLE : Nat := 0
abbrev gCHECKING : Nat := 1
abbrev gPENDING : Nat := 2
abbrev gPROBATION : Nat := 3
abbrev gROLLING : Nat := 4
abbrev gDEFAULT : Nat := 5
abbrev resSIGNATURE : Nat := 1
abbrev resSVN : Nat := 2
abbrev resFORMAT : Nat := 3
abbrev resRECORD : Nat := 4
abbrev resRULE : Nat := 5
abbrev resBUSY : Nat := 6
abbrev resNOOLDER : Nat := 7

def State.cfgState (s : State) : Nat := s.fld oCFG_STAT 2 0

/-- A refusal: RESULT, OFFSET, PART. -/
structure GenRefusal where
  result : Nat
  off : Nat
  part : Nat
  deriving DecidableEq, Repr

/-- The answer shown in CFG_STAT. -/
def State.setResult (s : State) (r : GenRefusal) : State :=
  ((s.setFld oCFG_STAT 35 32 r.result).setFld oCFG_STAT 63 40 r.off).setFld oCFG_STAT 39 36 r.part

/-- An answer that names no register and no partition. -/
def State.setPlain (s : State) (result : Nat) : State := s.setResult ⟨result, 0, 0xF⟩

/-! Signature blocks (R491, R492). -/

/-- The public key and the SVN of a block. -/
def blkKey (b : List Byte) : List Byte := (b.drop 0x80).take 2592
def blkSvn (b : List Byte) : Nat := leAt b 8 4
/-- DIGEST. -/
def blkDigest (b : List Byte) : List Byte := (b.drop 0x10).take 48

/-- R492 but for the SVN: a block of this KIND over these bytes, by an allowed signer. -/
def signedBy (kind : Nat) (allowed : Nat → List Byte → Bool) (body b : List Byte) : Bool :=
  leAt b 0 4 == 0x53479600 && leAt b 6 2 == kind && leAt b 0x0C 4 == body.length && blkDigest b == sha3_384 body
    && allowed (leAt b 4 2) (blkKey b)
    && Config.mldsaVerify (blkKey b) (b.take 0x80) (ascii "KR9600-IMG") ((b.drop 0xAA0).take 4627)

/-- R492, R493: the SVN is not below the minimum of the KIND, and its high half is zero. -/
def State.svnOk (s : State) (kind svn : Nat) : Bool :=
  decide (svn < 65536 ∧ s.nv.svn.toList.getD (kind - 1) 0 ≤ svn)

/-- The digest of a public key equals that of a stored key. -/
def keyIs (stored : Option (List Byte)) (k : List Byte) : Bool :=
  match stored with
  | some o => sha3_384 o == sha3_384 k
  | none => false

/-- The signers of R492: image key, device owner, owner of partition n. -/
def byImageKey (signer : Nat) (k : List Byte) : Bool := signer == 1 && sha3_384 k == Config.selaufenImageKeyDigest
def State.byOwner (s : State) (signer : Nat) (k : List Byte) : Bool := signer == 2 && keyIs s.nv.dev.owner k
def State.byPart (s : State) (n signer : Nat) (k : List Byte) : Bool :=
  signer == 0x10 + n && (if h : n < 8 then keyIs s.nv.parts[n].owner k else false)

/-- The signature of a microcode image (R238). -/
def State.mcSigned (s : State) (im : McImage) : Bool :=
  signedBy 2 (fun g k => if im.kind % 2 = 1 then byImageKey g k else s.byOwner g k || s.byPart im.part g k) im.bytes im.block

/-! Generation images (R519). -/

/-- A generation. -/
structure Gen where
  id : Nat
  svn : Nat
  probation : Nat
  ovrLimit : Nat
  /-- header fields are in range and unlisted bytes zero -/
  clean : Bool
  recs : List (Word × Word)
  cust : List McImage
  body : List Byte
  block : List Byte
  deriving DecidableEq, Repr

/-- The customer images from a place in an image on, and what follows them. -/
def custParse : Nat → List Byte → Option (List McImage × List Byte)
  | 0, bs => some ([], bs)
  | n + 1, bs =>
    match mcParse bs with
    | some im =>
      match custParse n (bs.drop (mcLength bs)) with
      | some (l, t) => some (im :: l, t)
      | none => none
    | none => none

/-- A generation image read by its header; none when it cannot be read. Assumption 75 (DEDUCED). -/
def genParse (bs : List Byte) : Option Gen :=
  let count := leAt bs 0x10 4
  let n := leAt bs 0x1A 2
  if leAt bs 0 4 ≠ 0x43479600 ∨ leAt bs 4 2 ≠ 1 ∨ bs.length < 64 + 16 * count + sigLen ∨ 16 < n then none
  else
    match custParse n (bs.drop (64 + 16 * count)) with
    | none => none
    | some (ims, rest) =>
      if rest.length < sigLen then none
      else
        let prob := leAt bs 0x14 4
        some { id := leAt bs 8 4, svn := leAt bs 0x0C 4, probation := prob, ovrLimit := leAt bs 0x18 2
               clean := decide (1 ≤ prob ∧ prob < 2 ^ 24) && zeroBytes ((bs.drop 6).take 2) && zeroBytes ((bs.drop 0x1C).take 36)
               recs := (List.range count).map fun i =>
                 (BitVec.ofNat 64 (leAt bs (64 + 16 * i) 8), BitVec.ofNat 64 (leAt bs (72 + 16 * i) 8))
               cust := ims, body := bs.take (bs.length - rest.length), block := rest.take sigLen }

/-- The bytes of a generation that a slot keeps. -/
def Gen.bytes (g : Gen) : List Byte := g.body ++ g.block

/-! The state that a generation produces (R519, R520). -/

/-- RO fields with reset G that are configuration: ACTIVE links, removed router ports, active routes. The other RO fields
with reset G show what the device keeps itself. -/
def netConfig (off : Nat) : Nat :=
  if off = oNOC_LINK then fmask 30 16
  else if 0x81000 ≤ off ∧ off < 0xBF000 ∧ off % 0x1000 = 0 then fmask 20 16
  else if 0xC0000 ≤ off ∧ off < 0xC0000 + 0x800 * 75 ∧ 0x100 ≤ off % 0x800 ∧ off % 0x800 < 0x358 then fmask 63 63 ||| fmask 47 0
  else 0

/-- The bits of a location that applying a generation writes. Assumption 76 (DEDUCED). -/
def appliedMask (off : Nat) : Word :=
  match regFields off with
  | some fs => BitVec.ofNat 64 ((gMask fs &&& accMask fs [.rwl, .rwk]) ||| (gMask fs &&& netConfig off))
  | none => 0

/-- The fields of reset G take a value. -/
def applyTo (off : Nat) (old v : Word) : Word := (old &&& ~~~appliedMask off) ||| (v &&& appliedMask off)

/-- Every field of reset G at its value in the generation. Assumption 76 (DEDUCED). -/
def State.produce (s : State) (recs : List (Word × Word)) : State :=
  let s := { s with regs := s.regs.map fun (e : Nat × Word) => (e.1, applyTo e.1 e.2 (regReset e.1)) }
  s.forEach recs fun r s => s.setReg r.1.toNat (applyTo r.1.toNat (s.reg r.1.toNat) r.2)

/-- A record names a register that has a field with reset G, and holds the reset values of every other bit. -/
def recordOk (r : Word × Word) : Bool :=
  decide (r.1.toNat < 2 ^ 24) && (match regFields r.1.toNat with
    | some fs => gMask fs != 0 && (r.2 ^^^ regReset r.1.toNat) &&& ~~~(BitVec.ofNat 64 (gMask fs)) == 0
    | none => false)

/-! The rules of a commit. The receiver is the state that the generation would produce. -/

/-- A register, and perhaps a partition, that breaks a rule. -/
def breaks (c : Bool) (off : Nat) (part : Nat := 0xF) : Option (Nat × Nat) := if c then some (off, part) else none

/-- The first of a list of findings. -/
def firstOf (l : List (Option (Nat × Nat))) : Option (Nat × Nat) := l.findSome? id

/-- TMIN × 100 ns − 2 µs in units of 10 ns. -/
def State.poundMin (s : State) : Nat := s.fld oTCK_FILT 19 0 * 10 - 200
/-- A non-zero sum of work in units of 10 ns exceeds the shortest pound less the commit guard. -/
def State.tooLong (s : State) (w : Nat) : Bool := decide (w ≠ 0 ∧ s.poundMin < w)

/-- R324, R49, R325: the work of an engine's partitions, in ps times 147. -/
def State.engineWork (s : State) (e : Nat) : Nat :=
  ((List.range 8).map fun n =>
    147 * (80000 * s.fld (oCE_RESV e n) 43 32 + 6000 * s.fld (oCE_RESV e n) 63 44) + s.fld (oCE_RESV e n) 31 8 * 1024 * 1000).sum

/-- Bytes that a unit's partitions reserve per pound. -/
def State.resvKib (s : State) (e : Nat) : Nat := ((List.range 8).map fun n => s.fld (oCE_RESV e n) 31 8).sum

/-- R364, R325: the net rate of a unit in MB/s. -/
def State.netRate (s : State) (u : Nat) : Nat :=
  if u = 8 then
    let v := s.fld oTOW_CTL 47 32
    if 1 ≤ v ∧ v ≤ 132 then v else 1
  else
    (match s.fld (oPORT_CTL u) 5 3 with | 0 => 6250 | 1 => 2900 | 2 => 1150 | 3 => 140 | _ => 0)
      * (match s.fld (oPORT_CTL u) 2 1 with | 0 => 1 | 1 => 2 | 2 => 4 | _ => 0)

/-- The endpoints of a unit have more than one owner. -/
def State.manyOwners (s : State) (u : Nat) : Bool :=
  (((List.range 64).map fun ep => s.epOwner u ep).filter (· < 8)).dedup.length > 1

/-- R316, R320, R325: one channel engine. -/
def State.engineRules (s : State) (e : Nat) : Option (Nat × Nat) :=
  let w := s.engineWork e
  let kib := s.resvKib e
  firstOf [
    breaks (w ≠ 0 && decide (147 * 10000 * s.poundMin < w)) (oCE_RESV e 0),
    breaks (kib ≠ 0 && decide (s.netRate e * s.fld oTCK_FILT 19 0 < kib * 1024 * 10)) (oCE_RESV e 0),
    breaks (!s.flag (oCE_CTL e) 8 && s.manyOwners e) (oCE_CTL e),
    (List.range 16).findSome? fun n =>
      let v := s.reg (oCE_CDISP e n)
      breaks (bit v 63 && !(decide (0x1800 ≤ bits v 13 0 ∧ bits v 13 0 < 0x2000))) (oCE_CDISP e n),
    (List.range 64).findSome? fun ep =>
      let v := s.reg (oCE_PACE e ep)
      breaks (bit v 63 && (!(decide (1 ≤ bits v 13 0 ∧ bits v 13 0 ≤ 8192)) || decide (8 ≤ s.epOwner e ep))) (oCE_PACE e ep)]

/-- R589: the taps of a lane. Assumption 75 (DEDUCED). -/
def State.lane (s : State) (off : Nat) : Option (Nat × Nat) :=
  breaks (decide (63 < s.fld off 5 0 + s.fld off 13 8 + s.fld off 21 16 ∨ s.fld off 13 8 < 32)) off

/-- R366, R589: one port. -/
def State.portRules (s : State) (u : Nat) : Option (Nat × Nat) :=
  let v := s.reg (oPORT_CTL u)
  if bit v 0 = false then none
  else
    firstOf [
      breaks (decide (3 < bits v 5 3 ∨ bits v 2 1 = 3 ∨ bits v 7 6 = 3 ∨ (bits v 5 3 = 0 ∧ bits v 7 6 ≠ 2))) (oPORT_CTL u),
      (List.range (2 ^ bits v 2 1)).findSome? fun k => s.lane (oPORT_LANE u k)]

/-- R348: one unit's staging pool. -/
def State.poolRules (s : State) (u : Nat) : Option (Nat × Nat) :=
  let size := s.fld (oJNL_POOL u) 41 32
  let base := s.fld (oJNL_POOL u) 9 0
  let meets := (List.range u).any fun q =>
    decide (s.fld (oJNL_POOL q) 9 0 < base + size ∧ base < s.fld (oJNL_POOL q) 9 0 + s.fld (oJNL_POOL q) 41 32
      ∧ 0 < size ∧ 0 < s.fld (oJNL_POOL q) 41 32)
  breaks (decide (951 < base + size ∨ size * 1024 < (s.fld (oTCK_PORT u) 1 0 + 4) * s.resvKib u) || meets) (oJNL_POOL u)

/-- R418: the transform units. Assumption 75 (DEDUCED). -/
def State.shareRules (s : State) : Option (Nat × Nat) :=
  let twice := fun (k : XfKind) => (List.range 8).any fun i => decide (1 < (List.range 8).countP fun n => (s.dedicated k n).testBit i)
  let empty := fun (k : XfKind) => (List.range 8).all fun i => (List.range 8).any fun n => (s.dedicated k n).testBit i
  let cip := fun (n : Nat) => s.fld (oCIP_PART n) 47 32
  let cmz := fun (n : Nat) => s.fld (oCMZ_PART n) 47 32
  firstOf [
    breaks (twice .pipe) (oCIP_PART 0),
    breaks (twice .clane || twice .dlane) (oCMZ_PART 0),
    (List.range 8).findSome? fun n => breaks (cip n ≠ 0 && empty .pipe) (oCIP_PART n) n,
    (List.range 8).findSome? fun n => breaks (cmz n ≠ 0 && (empty .clane || empty .dlane)) (oCMZ_PART n) n,
    breaks (s.tooLong ((List.range 8).map cip).sum) (oCIP_PART 0),
    breaks (s.tooLong ((List.range 8).map cmz).sum) (oCMZ_PART 0),
    (List.range 256).findSome? fun i =>
      let n := s.slotOwner i
      breaks (decide (n < 8) && s.dedicated .pipe n == 0 && cip n == 0) (oCIP_KOWN (i / 16)) n]

/-- R428: the route tables. -/
def State.routeRules (s : State) : Option (Nat × Nat) :=
  s.niEntries.findSome? fun e =>
    firstOf [breaks (!s.routeOk e.1 e.2 (s.reg (oNI e.1 (0x100 + 8 * e.2)))) (oNI e.1 (0x100 + 8 * e.2)),
             breaks (!s.routeOk e.1 e.2 (s.reg (oNI e.1 (0x400 + 8 * e.2)))) (oNI e.1 (0x400 + 8 * e.2))]

/-- The link that a route crosses, and the router from which it crosses. -/
def routeLink : Nat → Nat → Nat → Option (Nat × Nat)
  | 0, _, _ => none
  | fuel + 1, r, route =>
    if route % 8 = 0 then none
    else
      match neighbour r (route % 8) with
      | some r' => routeLink fuel r' (route / 8)
      | none => (linkAt r (route % 8)).map fun l => (l.1, r)

/-- FLITS of all buckets of an interface. -/
def State.niFlits (s : State) (i : Nat) : Nat := ((List.range 8).map fun p => s.fld (oNI i (0x40 + 8 * p)) 19 0).sum

/-- R434: the tokens of each link in each direction. Assumption 75 (DEDUCED). -/
def State.tokenRules (s : State) : Option (Nat × Nat) :=
  let nis := (List.range 75).filter fun i => s.niFlits i ≠ 0
  let uses := nis.map fun i =>
    (i, (((s.niEntries.filter fun e => e.1 == i).filterMap fun e =>
      let v := s.reg (oNI e.1 (0x100 + 8 * e.2))
      if bit v 63 then routeLink 16 (niRouter i) (bits v 47 0) else none).dedup))
  (List.range 15).findSome? fun l =>
    [(linkEnds l).1, (linkEnds l).2.2.1].findSome? fun r =>
      let on := uses.filter fun u => u.2.contains (l, r)
      let sum := (on.map fun u => s.niFlits u.1).sum
      breaks (sum ≠ 0 && decide (1150 * (s.fld oTCK_FILT 19 0 - 20) < 10 * sum))
        (match on.head? with | some u => oNI u.1 0x40 | none => 0)

/-- R283: pairs. -/
def State.pairRules (s : State) : Option (Nat × Nat) :=
  let on := (List.range 10).filter fun n => s.flag (oCMP_PAIR n) 63
  let lcp := fun (n : Nat) => s.fld (oCMP_PAIR n) 35 32
  let good := (List.finRange 20).countP fun t => s.fld (oCS_BIND t) 2 0 ≠ 0
  let out := onesIn (s.reg oCMP_CTL) 31 16
  firstOf [
    on.findSome? fun n => breaks (s.flag oCMP_CTL (16 + lcp n) || on.any fun m => decide (m < n) && lcp m == lcp n) (oCMP_PAIR n),
    breaks (decide (on ≠ [] ∧ good < on.length + (16 - out))) oCMP_CTL]

/-- R248, R515: locked ways. -/
def State.lockRules (s : State) : Option (Nat × Nat) :=
  let usable := fun (c : CacheRef) => 16 - (List.range 16).countP fun w => s.wayRetired c w
  firstOf [
    (List.finRange 20).findSome? fun (t : SiteId) =>
      let n := onesIn (s.reg (oL2_LOCK t)) 15 0
      breaks (decide (12 < n ∨ usable (.l2 t) < n)) (oL2_LOCK t),
    (List.range 8).findSome? fun n =>
      let v := s.reg (oPRT_L3MASK n)
      breaks (!l3maskOk v || (List.finRange 32).any fun k => decide (usable (.l3 k) < onesIn v 31 16)) (oPRT_L3MASK n) n]

/-- The pages of a completion ring are mapped and writable (R331). -/
def State.ringMapped (s : State) (n : PartId) : Bool :=
  let ring := s.reg (oPRT_CRING n)
  let base := bits ring 63 12 * 4096
  let size := 32 * 2 ^ bits ring 4 0
  (List.range ((base + size - 1) / 2 ^ 21 - base / 2 ^ 21 + 1)).all fun i =>
    match s.xlate n (BitVec.ofNat 64 ((base / 2 ^ 21 + i) * 2 ^ 21)) true with
    | .ok _ _ => decide (base + size ≤ 2 ^ 64)
    | _ => false

/-- R44, R49, R330, R331, R471: one partition. -/
def State.partRules (s : State) (n : PartId) : Option (Nat × Nat) :=
  let cps := s.fld (oPRT_CTL n) 15 0
  let others := (List.range 8).filter (· ≠ n.val)
  if s.flag (oPRT_CTL n) 63 then
    let frames := s.mappedFrames n
    let foreign := (((List.finRange 8).filter fun m => m ≠ n ∧ s.flag (oPRT_CTL m) 63).map s.mappedFrames).flatten
    let busy := s.clearing.toList.flatten
    let ring := s.reg (oPRT_CRING n)
    firstOf [
      breaks (cps == 0 || others.any fun m => s.fld (oPRT_CTL m) 15 0 &&& cps != 0) (oPRT_CTL n) n,
      breaks (s.fld oCMP_CTL 31 16 &&& cps != 0) (oPRT_CTL n) n,
      breaks (match s.xlate n 0 false with | .ok _ _ => false | _ => true) (oPRT_RDT n) n,
      breaks (!decide frames.Nodup || frames.any fun f => foreign.contains f || busy.contains f) (oPRT_RDT n) n,
      breaks (!cps.testBit (bits ring 11 8)) (oPRT_CRING n) n,
      breaks (!(decide (6 ≤ bits ring 4 0 ∧ bits ring 4 0 ≤ 16)) || !s.ringMapped n) (oPRT_CRING n) n,
      breaks (!cps.testBit (s.fld (oTCK_PART n) 43 40) || s.tooLong (s.fld (oTCK_PART n) 23 0)) (oTCK_PART n) n]
  else
    firstOf [
      breaks (cps != 0) (oPRT_CTL n) n,
      breaks (s.fld (oPRT_RDT n) 63 48 != 0) (oPRT_RDT n) n,
      (List.range 9).findSome? fun u => breaks (s.ownsUnit n u) (oCE_EPOWN u 0) n,
      (List.range 256).findSome? fun i => breaks (s.slotOwner i == n.val) (oCIP_KOWN (i / 16)) n,
      breaks (s.reg (oCIP_PART n) != 0) (oCIP_PART n) n,
      breaks (s.reg (oCMZ_PART n) != 0) (oCMZ_PART n) n,
      (List.range 75).findSome? fun i => breaks (s.fld (oNI i (0x40 + 8 * n.val)) 19 0 != 0) (oNI i (0x40 + 8 * n.val)) n]

/-- R239, R474, R477: what depends on the state now. -/
def State.changeRules (now next : State) (cust : List McImage) : Option (Nat × Nat) :=
  let engImage := fun (l : List McImage) (e : UnitId) => l.reverse.find? fun im => im.kind == 4 && im.engines.getLsbD e
  firstOf [
    (List.finRange 8).findSome? fun n =>
      let st := now.partState n
      breaks (next.flag (oPRT_CTL n) 63 && st != ptNONE && st != ptLOADING
        && now.fld (oPRT_CTL n) 15 0 != next.fld (oPRT_CTL n) 15 0) (oPRT_CTL n) n,
    (List.finRange 9).findSome? fun u =>
      (now.entries u).findSome? fun e =>
        let o := next.epOwner u e.2.ep
        breaks (decide (o < 8) && o != now.epOwner u e.2.ep) (oCE_EPOWN u (e.2.ep / 16)) o,
    (List.finRange 9).findSome? fun e =>
      breaks (engImage now.cfg.cust e != engImage cust e && now.ceState e != ceOFF && now.ceState e != ceSTOPPED) (oCE_CTL e),
    cust.findSome? fun im =>
      breaks (im.kind == 4 && (List.range 9).any fun e => im.engines.getLsbD e && !next.ownsUnit im.part e) 0 im.part]

/-- Every rule. Assumption 75 (DEDUCED). -/
def State.commitRules (now next : State) (cust : List McImage) : Option (Nat × Nat) :=
  firstOf [
    (List.range 9).findSome? next.engineRules, (List.range 8).findSome? next.portRules,
    (if next.flag oTWN_CTL 0 then (List.range 16).findSome? fun k => next.lane (oTWN_LANE k) else none),
    (List.range 9).findSome? next.poolRules, next.shareRules, next.routeRules, next.tokenRules, next.pairRules, next.lockRules,
    (List.finRange 8).findSome? next.partRules, now.changeRules next cust]

/-- R520 step 2: the checks in their order. Assumption 75 (DEDUCED). -/
def State.checkGen (s : State) (bs : List Byte) : Except GenRefusal Gen :=
  match genParse bs with
  | none => .error ⟨resFORMAT, 0, 0xF⟩
  | some g =>
    if !signedBy 3 s.byOwner g.body g.block then .error ⟨resSIGNATURE, 0, 0xF⟩
    else if !s.svnOk 3 (blkSvn g.block) || g.svn != blkSvn g.block then .error ⟨resSVN, 0, 0xF⟩
    else
      match g.cust.find? fun im => im.kind % 2 == 1 || !s.mcSigned im with
      | some im => .error ⟨resSIGNATURE, 0, im.part⟩
      | none =>
        match g.cust.find? fun im => !s.svnOk 2 (blkSvn im.block) with
        | some im => .error ⟨resSVN, 0, im.part⟩
        | none =>
          match g.cust.find? fun im => !im.fits with
          | some im => .error ⟨resFORMAT, 0, im.part⟩
          | none =>
            if !g.clean then .error ⟨resFORMAT, 0, 0xF⟩
            else
              match g.recs.find? fun r => !recordOk r with
              | some r => .error ⟨resRECORD, r.1.toNat % 2 ^ 24, 0xF⟩
              | none =>
                match s.commitRules (s.produce g.recs) g.cust with
                | some (off, part) => .error ⟨resRULE, off, part⟩
                | none => .ok g

/-! Applying a generation (R474, R475, R520). -/

/-- The customer images of a generation come into force (R239, R516). -/
def State.applyCust (s : State) (cust : List McImage) : State :=
  let was := s.cfg.cust
  let s := { s with cfg := { s.cfg with cust := cust } }
  let s := s.forEach (List.finRange 20) fun t s =>
    let st := s.bindSt t
    if st = bBOUND ∨ st = bFOLLOWER ∨ st = bSPARING then
      match s.partOf (cpField (s.fld (oCS_BIND t) 11 8)) with
      | some n => (match s.custFor n with | some im => s.siteCust t im | none => s.siteNoCust t)
      | none => s
    else s
  s.forEach (List.finRange 9) fun e s =>
    let f := fun (l : List McImage) => l.reverse.find? fun im => im.kind == 4 && im.engines.getLsbD e
    if f was = f cust then s else s.engCust e (f cust)

/-- A frame that a commit takes from partition n: V of its descriptor is cleared (R73, R474). -/
def State.unmap (s : State) (n : PartId) (f : Nat) : State :=
  s.forEach (List.range (s.rdtLen n)) fun rn s =>
    match s.xlate n (BitVec.ofNat 64 (rn * 2 ^ 21)) false with
    | .ok pa d =>
      if pa / 2 ^ 21 = f then (s.dmaStore none (.raw (s.rdtAddr n rn) (insBits d 63 63 0))).rlbInval n rn else s
    | _ => s

/-- R340, R363: CE_RESV, CE_EPOWN, JNL_PORT. -/
def waitsForCommit (off : Nat) : Bool :=
  inArr off (oJNL_PORT 0) 8 9
    || (0x280000 ≤ off && off < 0x310000
        && (inArr ((off - 0x280000) % 0x10000) 0x200 8 8 || inArr ((off - 0x280000) % 0x10000) 0x300 8 4))

/-- R340, R363: while the lock tick unit runs, what these registers held applies up to the first commit point after the
commit's tick boundary. Assumption 41 (DEDUCED). -/
def State.holdCfg (s old : State) (changed : List Nat) : State :=
  if s.fld oTCK_STAT 2 0 = 0 then s
  else
    let keep := fun (h : List (Nat × Word)) off => if h.any (fun x => x.1 == off) then h else alIns h off (old.reg off)
    { s with heldCfg := (changed.filter fun off => waitsForCommit off).foldl keep s.heldCfg }

/-- Every field with reset G is written and what follows from it happens. Assumptions 55 (DEDUCED), 76 (DEDUCED). -/
def State.applyGen (s : State) (recs : List (Word × Word)) (cust : List McImage) : State :=
  let will := s.produce recs
  let s := s.forEach (List.finRange 8) fun n s =>
    if s.flag (oPRT_CTL n) 63 && !will.flag (oPRT_CTL n) 63 && s.partState n != ptNONE && s.partState n != ptCLEARING
    then s.teardown n else s
  let lost := fun (n : PartId) =>
    if s.flag (oPRT_CTL n) 63 && will.flag (oPRT_CTL n) 63 then
      (s.mappedFrames n).filter fun f => !(will.mappedFrames n).contains f
    else []
  let gone := (List.finRange 8).map fun n => (n, lost n)
  let s := s.forEach gone fun g s => s.forEach g.2 fun f s => s.unmap g.1 f
  let old := s
  let s := (s.produce recs).applyCust cust
  let changed := (s.regs.map (·.1)).filter fun off => old.reg off != s.reg off
  let s := s.holdCfg old changed
  let s := s.forEach changed fun off s =>
    if off = oTCK_FILT then s.tckFiltEffect .lkp (old.reg off) off else s.ctlEffect off (old.reg off)
  s.forEach gone fun g s => s.queueClear g.1 g.2

/-- CFG_GEN_k show the slots, and the directory is written. -/
def State.showGens (s : State) : State :=
  let s := s.forEach (List.range 4) fun k s =>
    s.setReg (oCFG_GEN k) (match (s.nv.gens[k]?).bind genParse with
      | some g => BitVec.ofNat 64 (2 ^ 63 + g.svn % 65536 * 2 ^ 32 + g.id)
      | none => 0)
  s.mramTwice nvDirectory 0x40000 4096

/-- G0's digest extends slot 3, its customer images' digests slots 5 to 12 (R499); its SVN is the one now loaded. -/
def State.genLoaded (s : State) (g : Gen) : State :=
  let s := s.extendSlot 3 (blkDigest g.block)
  let s := s.forEach g.cust fun im s => s.extendSlot (5 + im.part) (blkDigest im.block)
  { s with nv := { s.nv with svnNow := s.nv.svnNow.set 2 g.svn }, overruns := 0, ovrLimit := g.ovrLimit }

/-- A generation enters probation. -/
def State.probationStart (s : State) (g : Gen) : State :=
  ((s.setFld oCFG_STAT 27 4 g.probation).setCfgState gPROBATION)

/-- The record of a refusal or a rollback (R527). -/
def State.genRecord (s : State) (sev : Fin 8) (id : Nat) : State :=
  s.record (mkRec sev 0x65 0xF00D none none 0 (s.reg oCFG_STAT) (BitVec.ofNat 64 id))

/-- The first customer image of a generation that R238 refuses, with the result code of the check it fails: the signature,
the SVN, the layout and microwords, an engine whose port the named partition does not own. -/
def State.custFailed (s : State) (g : Gen) : Option (Nat × McImage) :=
  let next := s.produce g.recs
  let foreign := fun (im : McImage) => im.kind == 4 && (List.range 9).any fun e => im.engines.getLsbD e && !next.ownsUnit im.part e
  let first := fun (code : Nat) (bad : McImage → Bool) => (g.cust.find? bad).map fun im => (code, im)
  ((first resSIGNATURE fun im => im.kind % 2 == 1 || !s.mcSigned im).or (first resSVN fun im => !s.svnOk 2 (blkSvn im.block))).or
    ((first resFORMAT fun im => !im.fits).or (first resRULE foreign))

/-- R238: the record that names the failed check of a customer image, when the Lockkeeper turns a generation's image away:
at a commit, at start-up and in a rollback alike. -/
def State.custRefused (s : State) (bs : List Byte) : State :=
  match (genParse bs).bind s.custFailed with
  | some (code, im) => s.record (mkRec 1 0x65 0xF00F none none 0 (BitVec.ofNat 64 code) (BitVec.ofNat 64 im.kind))
  | none => s

/-- R238: the records of the generations of a list that are turned away before the first that passes the checks. -/
def State.refusedFirst (s : State) (gens : List (List Byte)) : State :=
  s.forEach (gens.takeWhile fun b => match s.checkGen b with | .ok _ => false | .error _ => true) fun b s => s.custRefused b

/-- GEN_ID in the header of an image. -/
def imageId (bs : List Byte) : Nat := leAt bs 8 4

/-- A core site is being spared: a commit waits (R282). -/
def State.sparingNow (s : State) : Bool := (List.finRange 20).any fun t => s.bindSt t == bSPARING

/-- CFG_CHECK_DONE (R520 steps 2 to 4). -/
def State.checkDone (s : State) : State :=
  if s.cfgState ≠ gCHECKING then s
  else
    match s.checkGen s.cfg.image with
    | .error r =>
      (((s.setResult r).setCfgState s.cfg.prev).genRecord 1 (imageId s.cfg.image)).custRefused s.cfg.image
    | .ok _ =>
      let s := { s with cfg := { s.cfg with since := s.now } }
      (s.setPlain 0).setCfgState gPENDING

/-- GENERATION_APPLY: the tick boundary 20 µs after PENDING, or 20 µs after it while STOPPED. -/
def State.genApply (s : State) : State :=
  let due := s.cfg.since.toNat + 20000
  if s.cfgState ≠ gPENDING ∨ s.sparingNow = true then s
  else if (if s.tkState = tkSTOPPED then s.now.toNat else s.edgeTime) < due then s
  else
    match genParse s.cfg.image with
    | none => s
    | some g =>
      let s := s.applyGen g.recs g.cust
      let s := { s with nv := { s.nv with gens := (g.bytes :: s.nv.gens).take 4, probation := true, probLost := 0 } }
      ((s.genLoaded g).showGens).probationStart g

/-- The generation in force is STABLE. -/
def State.genStable (s : State) : State :=
  let s := { s with nv := { s.nv with probation := false, probLost := 0 } }
  (s.setFld oCFG_STAT 27 4 0).setCfgState gSTABLE

/-- R522: the first older generation that passes the checks, those after it, and the last refusal. -/
def State.pickOlder (s : State) (last : GenRefusal) : List (List Byte) → Option (Gen × List (List Byte)) × GenRefusal
  | [] => (none, last)
  | b :: rest =>
    match s.checkGen b with
    | .ok g => (some (g, rest), last)
    | .error r => s.pickOlder r rest

/-- ROLLBACK_APPLY (R522): G1, else G2, else G3 comes into force, STABLE at once. Assumption 78 (DEDUCED). -/
def State.rollbackNow (s : State) : State :=
  if s.cfgState ≠ gROLLING ∨ s.sparingNow = true then s
  else
    let id := match s.nv.gens with | b :: _ => imageId b | [] => 0
    let pick := s.pickOlder ⟨resNOOLDER, 0, 0xF⟩ (s.nv.gens.drop 1)
    let s := s.refusedFirst (s.nv.gens.drop 1)
    match pick with
    | (some (g, rest), _) =>
      let s := s.applyGen g.recs g.cust
      let s := { s with nv := { s.nv with gens := g.bytes :: rest } }
      (((s.genLoaded g).showGens.setPlain 0).genStable).genRecord 4 g.id
    | (none, r) =>
      let s := { s with nv := { s.nv with gens := s.nv.gens.take 1 } }
      ((s.showGens.setResult r).genStable).genRecord 1 id

/-! CFG_CMD. -/

/-- The bytes that CFG_SRC names; none of them when the range is not one of 1 to 2,048 KiB of storage, or holds poison.
Assumption 76 (DEDUCED). -/
def State.srcImage (s : State) : List Byte :=
  let len := s.fld oCFG_SRC 63 52 * 1024
  let pa := s.fld oCFG_SRC 51 6 * 64
  if len = 0 ∨ 2048 * 1024 < len ∨ storageEnd < pa + len ∨ (s.mem.poison.any fun w => decide (pa ≤ w ∧ w < pa + len)) then []
  else s.mem.bytes pa len

/-- Bytes written as RAW words from an address on. -/
def State.putImage (s : State) (pa : Nat) (bs : List Byte) : State :=
  s.forEach (bytesWords bs).zipIdx fun (w, i) s => s.dmaStore none (.raw (pa + 8 * i) w)

/-- The unsigned image of the current register values (R520): free values stand for what the owner fills in. -/
def State.captured (s : State) : List Byte :=
  let recs := s.regs.filter fun e => (e.2 ^^^ regReset e.1) &&& appliedMask e.1 != 0
  let f := s.freeVal
  let g := s.freeStep.freeVal
  leBytes 4 0x43479600 ++ leBytes 2 1 ++ leBytes 2 0 ++ leBytes 4 f.toNat ++ leBytes 4 (f.toNat / 2 ^ 32) ++ leBytes 4 recs.length
    ++ leBytes 4 g.toNat ++ leBytes 2 (g.toNat / 2 ^ 32) ++ List.replicate 38 0
    ++ (recs.map fun e => leBytes 8 e.1 ++ leBytes 8 (applyTo e.1 (regReset e.1) e.2).toNat).flatten

/-- CAPTURE. Assumption 77 (DEDUCED). -/
def State.capture (s : State) : State :=
  let bs := s.captured
  let pa := s.fld oCFG_SRC 51 6 * 64
  if s.cfgState ≠ gDEFAULT then s
  else if s.fld oCFG_SRC 63 52 * 1024 < bs.length ∨ storageEnd < pa + bs.length then s.setPlain resFORMAT
  else ((s.freeStep.freeStep).putImage pa bs).setPlain 0

/-- R516, R492: the check of a Selaufen image that CFG_SRC names. Assumption 77 (DEDUCED). -/
def State.checkSelaufen (s : State) (bs : List Byte) : Except Nat McImage :=
  match mcParse bs with
  | none => .error resFORMAT
  | some im =>
    if im.kind % 2 = 0 then .error resFORMAT
    else if !s.mcSigned im then .error resSIGNATURE
    else if !s.svnOk 2 (blkSvn im.block) then .error resSVN
    else .ok im

/-- STORE_SELAUFEN: the image takes effect at the next start-up. Assumption 77 (DEDUCED). -/
def State.storeSelaufen (s : State) : State :=
  match s.checkSelaufen s.srcImage with
  | .error r => s.setPlain r
  | .ok im =>
    let bs := im.bytes ++ im.block
    let s := { s with nv := { s.nv with newImages := (im.kind, bs) :: s.nv.newImages.filter fun e => e.1 ≠ im.kind } }
    (s.mramWrite (nvImages + (if im.kind = 1 then 0 else 0x80000)) bs.length).setPlain 0

/-- COMMIT: the image is copied and the checks begin; BUSY in every other state and before READY (R524). -/
def State.commit (s : State) : State :=
  if (s.cfgState = gSTABLE ∨ s.cfgState = gDEFAULT) ∧ s.fld oCFG_START 3 0 = 5 then
    let bs := s.srcImage
    let s := { s with cfg := { s.cfg with image := bs, prev := s.cfgState } }
    (s.mramWrite (nvGenSlot s.nv.gens.length) bs.length).setCfgState gCHECKING
  else s.setPlain resBUSY

/-- ROLLBACK. -/
def State.rollbackCmd (s : State) : State :=
  if s.cfgState = gSTABLE ∨ s.cfgState = gPROBATION then
    (if s.nv.gens.length ≤ 1 then s.setPlain resNOOLDER else s.setCfgState gROLLING)
  else s

/-- CFG_CMD.CMD was written. Assumption 77 (DEDUCED). -/
def State.cfgCommand (s : State) (cmd : Nat) : State :=
  match cmd with
  | 1 => s.commit
  | 2 => if s.cfgState = gPROBATION then s.genStable else s
  | 3 => s.rollbackCmd
  | 4 => s.capture
  | 5 => s.storeSelaufen
  | _ => s

/-- CFG_CHECK_DONE. -/
def execCfgCheckDone (s : State) : Host.Outcome State Fault Refusal := .next s.checkDone
/-- GENERATION_APPLY. -/
def execGenerationApply (s : State) : Host.Outcome State Fault Refusal := .next s.genApply
/-- ROLLBACK_APPLY. -/
def execRollbackApply (s : State) : Host.Outcome State Fault Refusal := .next s.rollbackNow
/-- PROBATION_EXPIRY (R521): TICKS_LEFT has reached 0. -/
def execProbationExpiry (s : State) : Host.Outcome State Fault Refusal :=
  .next (if s.cfgState = gPROBATION ∧ s.fld oCFG_STAT 27 4 = 0 then s.genStable else s)

end Sys2Proof.Machine
end

