-- ==== Sys2Proof/Machine/Lockkeeper.lean ====
section
/-!
DEFINITION. The Lockkeeper mailbox (chapter 22, R570).
-/

namespace Sys2Proof.Machine

/-- Every domain of R437. -/
def allDomains : List Domain :=
  ((List.finRange 20).map Domain.site) ++ ((List.finRange 9).map Domain.unit) ++ ((List.finRange 8).map Domain.pipe)
    ++ ((List.finRange 8).map Domain.clane) ++ ((List.finRange 8).map Domain.dlane) ++ [.dalnos]

/-- POWER_DOWN: the final high-water record, DEVICE_FAIL, and every domain that R437 allows closes. -/
def State.powerDown (s : State) : State :=
  s.hwmPersist.deviceFail.forEach allDomains fun d s => s.domainClose d

/-- SPARE_CP: bad argument, refused, or begun; it completes with the sparing. -/
def State.lkpSpareCp (s : State) (tag : Byte) : State :=
  let a := s.reg (oLKP_ARG 0)
  if bits a 63 4 ≠ 0 then s.lkpDone 3 tag
  else
    let k := cpField (bits a 3 0)
    match s.siteOf k with
    | some t =>
      if (s.cp k).inService then
        { ((s.setFlag oLKP_STAT 0 true).rollback k).freezeSite k t with lkpSpare := some (k, tag) }
      else s.lkpDone 4 tag
    | none => s.lkpDone 4 tag

/-- LKP_CMD was written: TAG in bits 15:8, CODE in bits 7:0. Assumption 63 (DEDUCED). -/
def State.lkpCommand (s : State) (i : Initiator) (v : Word) (recOff : Nat) : State :=
  let tag := BitVec.ofNat 8 (bits v 15 8)
  if s.flag oLKP_STAT 0 then s.accessRecord i recOff true
  else
    match bits v 7 0 with
    | 1 => s.lkpSpareCp tag
    | 2 => s.powerDown.lkpDone 0 tag
    | 3 => (s.setReg (oLKP_RES 0) (s.reg (oLKP_ARG 0))).lkpDone 0 tag
    | _ => s.lkpDone 2 tag

end Sys2Proof.Machine
end

