-- ==== Sys2Proof/Machine/RegWrite.lean ====
section
/-!
DEFINITION. Reads and writes of register locations by PF0, the Lockkeeper, virtual functions and CPs (R8 to R12, R478 to
R480, R562 to R565, R571, R572), with the effect that a write has on the unit behind the register.
-/

namespace Sys2Proof.Machine

/-- R535, R538: what a read does: word 0 of a ring record is seen, and reading an index lets the next record signal. -/
def State.readEffect (s : State) (off : Nat) : State :=
  if off = oERR_IDX then { s with err := { s.err with signalled := false } }
  else if inArr off 0x70100 8 8 then
    { s with err := { s.err with
        viewSignalled := s.err.viewSignalled &&& ~~~(BitVec.ofNat 8 (2 ^ ((off - 0x70100) / 8))) } }
  else if 0x78000 ≤ off ∧ off < 0x80000 ∧ off % 64 = 0 then
    { s with err := { s.err with readPos := (off - 0x78000) / 64 :: s.err.readPos } }
  else if 0x74000 ≤ off ∧ off < 0x78000 ∧ off % 64 = 0 then
    { s with err := { s.err with viewRead := (off - 0x74000) / 64 :: s.err.viewRead } }
  else s

/-! What answers (R438, R509, R563). -/

/-- The device runs: out of reset, no emergency shutdown, firmware verified (R490, R507, R588). Assumption 80 (DEDUCED). -/
def State.running (s : State) : Bool := s.rstL && !s.pwr.emergency && s.fld oESF_STAT 7 6 != 3

/-- CFG_START.STAGE is READY. Assumption 80 (DEDUCED). -/
def State.ready (s : State) : Bool := s.fld oCFG_START 3 0 == 5

/-- The blocks that answer before READY: GLB, LKP, ESF, CFG, ERR, PWR. -/
def earlyBlock (off : Nat) : Bool :=
  off < 0x20000 || (0x40000 ≤ off && off < 0x60000) || (0x70000 ≤ off && off < 0x80000) || (0x3E0000 ≤ off && off < 0x3F0000)

/-- PF0 BAR0 responds at an offset. Assumption 80 (DEDUCED). -/
def State.answers (s : State) (off : Nat) : Bool := s.running && (s.ready || earlyBlock off)

/-- The block of a location lies in a closed domain, and the location is not one that always answers.
Assumption 80 (DEDUCED). -/
def State.closedLoc (s : State) (off : Nat) : Bool :=
  let shut := fun (ni : Nat) => s.fld (oNI ni 0) 1 0 != 0
  if 0x100000 ≤ off ∧ off < 0x240000 then
    let x := (off - 0x100000) % 0x10000
    shut ((off - 0x100000) / 0x10000) && x != 0x300 && x != 0x400 && x != 0x500 && x != 0x508
  else if 0x280000 ≤ off ∧ off < 0x310000 then shut (56 + (off - 0x280000) / 0x10000) && (off - 0x280000) % 0x10000 != 8
  else if 0x310000 ≤ off ∧ off < 0x390000 then shut (56 + (off - 0x310000) / 0x10000) && (off - 0x310000) % 0x10000 != 8
  else if 0x390000 ≤ off ∧ off < 0x3A0000 then shut 64
  else false

/-! Reads. -/

/-- A read of a PF0 BAR0 location (R8, R562); recOff is the offset that an access record names. -/
def State.regReadAt (s : State) (i : Initiator) (off recOff : Nat) : State × Word :=
  if s.answers off = false then (s, 0)
  else if (regFields off).isSome && !s.closedLoc off then (s.readEffect off, s.readLoc off)
  else (s.accessRecord i recOff false, 0)

/-- A read by an initiator that addresses PF0 BAR0 itself. -/
def State.regRead (s : State) (i : Initiator) (off : Nat) : State × Word := s.regReadAt i off off

/-! Effects. -/

/-- ERR_IDX.TAIL was written (R532, R533). -/
def State.errTail (s : State) (i : Initiator) (old : Word) (recOff : Nat) : State :=
  if 512 < s.ringUsed then s.refuseWrite i oERR_IDX old recOff else s.spillDrain (s.fld oERR_SPILLSTAT 20 0)

/-- ERR_PIDX_n.TAIL was written (R537). -/
def State.viewTail (s : State) (i : Initiator) (n : PartId) (old : Word) (recOff : Nat) : State :=
  if 32 < s.viewUsed n then s.refuseWrite i (oERR_PIDX n) old recOff else s

/-- PCI_HNOTE_n was written (R556). -/
def State.hostNotice (s : State) (i : Initiator) (n : PartId) (v : Word) (recOff : Nat) : State :=
  let k := cpField (bits v 3 0)
  if s.partOf k = some n ∧ (s.cp k).inService = true then s.setPend k 5 else s.accessRecord i recOff true

/-- PCI_MSG_n was written (R554, R557). -/
def State.partMessage (s : State) (i : Initiator) (n : PartId) (v : Word) (recOff : Nat) : State :=
  let by_ := match i with | .cp k => s.partOf k == some n && (s.cr k).sys | _ => false
  let vec := bits v 7 0
  if by_ && bit v 11 && decide (vec < 248) then s.raiseMsix 0 (64 + 248 * n.val + vec)
  else if by_ && !bit v 11 && decide (4 ≤ vec) then s.raiseMsix (vfFn n) vec
  else s.accessRecord i recOff true

/-- The unit, site, port, pair or partition of an offset in an array. -/
def arrAt (off base stride n : Nat) (h : 0 < n) : Fin n := ⟨(off - base) / stride % n, Nat.mod_lt _ h⟩

/-- The effect of a write on the unit behind the register: old is what stood there, v what was written to writable bits. The
location already holds the new value. -/
def State.regEffect (s : State) (i : Initiator) (off : Nat) (old v : Word) (recOff : Nat) : State :=
  if off = oLKP_CMD then s.lkpCommand i v recOff
  else if off = oTCK_CTL then s.tckCtlEffect old
  else if off = oTCK_TIMER then s.tckTimerEffect
  else if off = oTCK_FILT then s.tckFiltEffect i old recOff
  else if off = oTCK_NUM then s.tckNumEffect i old recOff
  else if inArr off (oTCK_PART 0) 8 8 ∧ bit v 63 = true then s.doneSet (partAt ((off - oTCK_PART 0) / 8))
  else if inArr off (oTCK_IN 0) 8 4 then s.tckInEffect (arrAt off (oTCK_IN 0) 8 4 (by decide))
  else if inArr off (oPRT_L3MASK 0) 8 8 then s.l3maskEffect i (partAt ((off - oPRT_L3MASK 0) / 8)) old recOff
  else if off = oPRT_CMD then s.prtCommand i (partAt (bits v 10 8)) (bits v 2 0) recOff
  else if inArr off (oPRT_CRIDX 0) 16 8 then
    let n := partAt ((off - oPRT_CRIDX 0) / 16)
    s.ringDrain n s.ringWait[n].length
  else if inArr off (oPRT_DB 0) 8 8 then s.doorbell (partAt ((off - oPRT_DB 0) / 8)) (BitVec.ofNat 8 (bits v 7 0))
  else if off = oCFG_CMD then s.cfgCommand (bits v 3 0)
  else if off = oTWN_CMD then s.twnCommand i (bits v 3 0) recOff
  else if off = oERR_IDX then s.errTail i old recOff
  else if inArr off (oERR_PIDX 0) 8 8 then s.viewTail i (partAt ((off - oERR_PIDX 0) / 8)) old recOff
  else if off = oNOC_ROUTE then (if bit v 8 then s.routeArmed i recOff else s.setFlag oNOC_ROUTE 8 (s.flag oNOC_ROUTE 9))
  else if off = oNOC_SNAP then (if bit v 0 then s.snapshot else s)
  else if inArr off (oPROBE 0 0) 0x100 8 then s.probeRestart (arrAt off (oPROBE 0 0) 0x100 8 (by decide))
  else if 0x100000 ≤ off ∧ off < 0x240000 then
    let t := siteAt ((off - 0x100000) / 0x10000)
    let x := (off - 0x100000) % 0x10000
    if x = 0x200 then s.cacheCtlEffect i (.l2 t) old v recOff
    else if x = 0x210 then s.l2LockEffect i t old recOff
    else if x = 0x500 then s.clkEffect t
    else s
  else if off = oL3_CTL then s.cacheCtlEffect i .l3 old v recOff
  else if inArr off (oCMP_PAIR 0) 8 10 then
    let n : PairId := arrAt off (oCMP_PAIR 0) 8 10 (by decide)
    let s := s.ctlEffect off old
    if bit v 60 then s.repairEffect i n recOff else s
  else if 0x280000 ≤ off ∧ off < 0x310000 then
    let e := unitAt ((off - 0x280000) / 0x10000)
    let x := (off - 0x280000) % 0x10000
    if x = 0 then s.ceCtlEffect i e old v recOff else if x = 0x10 then s.cancelWrite i e v recOff else s
  else if 0x310000 ≤ off ∧ off < 0x390000 ∧ (off - 0x310000) % 0x10000 = 0 then
    s.portCtlEffect (portAt ((off - 0x310000) / 0x10000)) old v
  else if inArr off (oJNL_HOLD 0) 8 9 then
    let u := unitAt ((off - oJNL_HOLD 0) / 8)
    s.forEach ((List.range 64).filter fun ep => bit old ep && bit v ep) fun ep s => s.resumeEndpoint u ep
  else if inArr off (oPCI_HNOTE 0) 8 8 then s.hostNotice i (partAt ((off - oPCI_HNOTE 0) / 8)) v recOff
  else if inArr off (oPCI_MSG 0) 8 8 then s.partMessage i (partAt ((off - oPCI_MSG 0) / 8)) v recOff
  else s.ctlEffect off old

/-! Writes. -/

/-- R10: the bits of a location that the hardware sets in the cycle of a write, from s to t: those that become set, and a
capture that a higher severity renews (R536). -/
def hardSet (s t : State) (off : Nat) : Word :=
  (t.reg off &&& ~~~s.reg off &&& BitVec.ofNat 64 (accMask ((regFields off).getD []) [.w1c]))
    ||| (if off = oERR_CAP ∧ t.reg (oERR_WORST 0) ≠ s.reg (oERR_WORST 0) then 2 else 0)

/-- A write of a PF0 BAR0 location; recOff is the offset that an access record names. -/
def State.regWriteAt (s : State) (i : Initiator) (off : Nat) (v : Word) (recOff : Nat) : State :=
  if s.answers off = false then s
  else
    match regFields off with
    | none => s.accessRecord i recOff true
    | some fs =>
      if s.closedLoc off then s.accessRecord i recOff true
      else
        let allow := s.allowMask i off
        let old := s.reg off
        let s' := if writeRefused fs allow (s.seenBy i off) v (viaView i) then s.accessRecord i recOff true else s
        (s'.setReg off (writeValue fs allow (s'.reg off) v ||| hardSet s s' off)).regEffect i off old (v &&& allow) recOff

/-- A write by an initiator that addresses PF0 BAR0 itself. -/
def State.regWrite (s : State) (i : Initiator) (off : Nat) (v : Word) : State := s.regWriteAt i off v off

/-! The view of VF_n (R478, R479, R509, R571, R572). -/

/-- A read of VF_n's view by the VF or by a CP through its register window. Assumption 80 (DEDUCED). -/
def State.viewRead (s : State) (n : PartId) (i : Initiator) (x : Nat) : State × Word :=
  let closed := (match i with | .vf _ => true | _ => false) && s.partState n == ptNONE
  if s.running = false then (s, 0)
  else if closed then (s.accessRecord i x false, 0)
  else if x = 0x20 then (s, s.pcie.vwin[n])
  else
    match s.viewLoc n x with
    | none => (s.accessRecord i x false, 0)
    | some off =>
      let r := s.regReadAt i off x
      (r.1, s.viewFilter n off r.2)

/-- A write of VF_n's view. The VF's writes take no effect in NONE and CLEARING (R475, R487). -/
def State.viewWrite (s : State) (n : PartId) (i : Initiator) (x : Nat) (v : Word) : State :=
  let st := s.partState n
  let closed := (match i with | .vf _ => true | _ => false) && (st == ptNONE || st == ptCLEARING)
  if s.running = false then s
  else if closed then s.accessRecord i x true
  else if x = 0x20 then
    let s := if v.toNat % 2 ^ 18 ≠ 0 then s.accessRecord i x true else s
    { s with pcie := { s.pcie with vwin := s.pcie.vwin.set n (v &&& ~~~0x3FFFF#64) } }
  else
    match s.viewLoc n x with
    | none => s.accessRecord i x true
    | some off => s.regWriteAt i off v x

/-- The view offset of a PF0 BAR0 location that VF_n's view shows: the inverse of R571 for writable locations.
Assumption 10 (DEDUCED). -/
def viewX (n off : Nat) : Option Nat :=
  if off = oPRT_DB n then some 0
  else if off = oPCI_HNOTE n then some 8
  else if off = oPRT_CRIDX n then some 0x10
  else if off = oERR_PIDX n then some 0x18
  else if off = oPCI_MSG n then some 0x28
  else if (viewTable n).contains off then some (0x1000 + 8 * (viewTable n).idxOf off)
  else if inArr off (oCIP_KOWN 0) 8 16 then some (0x1080 + (off - oCIP_KOWN 0))
  else if inArr off (oCIP_KLOAD 0) 8 4 then some (0x1100 + (off - oCIP_KLOAD 0))
  else if inArr off 0x20040 8 5 then some (0x2000 + (off - 0x20000))
  else if 0x100000 ≤ off ∧ off < 0x240000 then
    let t := (off - 0x100000) / 0x10000
    let w := (off - 0x100000) % 0x10000
    if w < 0x1000 then some (0x10000 + 0x2000 * t + w)
    else if 0x8000 ≤ w ∧ w < 0x8200 then some (0x11000 + 0x2000 * t + (w - 0x8000)) else none
  else if 0x280000 ≤ off ∧ off < 0x310000 then
    let x := (off - 0x280000) % 0x10000
    if x < 0x1000 then some (0x40000 + 0x4000 * ((off - 0x280000) / 0x10000) + x) else none
  else if 0x310000 ≤ off ∧ off < 0x390000 then
    let x := (off - 0x310000) % 0x10000
    if x < 0x100 then some (0x41000 + 0x4000 * ((off - 0x310000) / 0x10000) + x) else none
  else if inArr off (oJNL_STAT 0) 8 9 then some (0x42010 + 0x4000 * ((off - oJNL_STAT 0) / 8))
  else if inArr off (oJNL_HOLD 0) 8 9 then some (0x42018 + 0x4000 * ((off - oJNL_HOLD 0) / 8))
  else if 0x400000 ≤ off ∧ off < 0x405000 then some (0x80000 + (off - 0x400000))
  else if 0x430000 ≤ off ∧ off < 0x431200 then some (0x90000 + (off - 0x430000))
  else if cPART n 0 ≤ off ∧ off < cPART n 0 + 0x80 then some (0x92000 + (off - cPART n 0))
  else none

/-- A write of a register named by its PF0 offset: a VF and a CP reach it through their view. Assumption 10 (DEDUCED). -/
def State.rowWrite (s : State) (i : Initiator) (off : Nat) (v : Word) : State :=
  let through := fun (n : PartId) => match viewX n off with | some x => s.viewWrite n i x v | none => s.accessRecord i off true
  match i with
  | .vf n => through n
  | .cp k => (match s.partOf k with | some n => through n | none => s)
  | _ => s.regWrite i off v

/-- A write at an offset of the initiator's own space: PF0 BAR0, or the view of its partition. Assumption 10 (DEDUCED). -/
def State.ownWrite (s : State) (i : Initiator) (off : Nat) (v : Word) : State :=
  match i with
  | .vf n => s.viewWrite n i off v
  | .cp k => (match s.partOf k with | some n => s.viewWrite n i off v | none => s)
  | _ => s.regWrite i off v

/-- A read at an offset of the initiator's own space; its answer is the response. -/
def State.ownRead (s : State) (i : Initiator) (off : Nat) : State :=
  let r := match i with
    | .vf n => s.viewRead n i off
    | .cp k => (match s.partOf k with | some n => s.viewRead n i off | none => (s, 0))
    | _ => s.regRead i off
  { r.1 with resp := .word r.2 }

end Sys2Proof.Machine
end

