-- ==== Sys2Proof/Machine/Pairing.lean ====
section
/-!
DEFINITION. Core sparing and the running of pairs (chapter 10): comparison and release, sparing and its completion,
comparators, debug halts and re-pairing. A store into the register window that waits in a pair takes effect here.
-/

namespace Sys2Proof.Machine

/-- An output of CP_k is released; a register store goes to its view (R285, R480). -/
def State.releaseOut (s : State) (k : CpId) (h : Held) : State :=
  match h with
  | .reg x v => (match s.partOf k with | some n => s.viewWrite n (.cp k) x v | none => s)
  | _ => s.release k h

/-- The site that leads a pair whose members are under core-site self-test (R288). -/
def State.testedLeader (s : State) (n : PairId) : Option SiteId :=
  (List.finRange 20).find? fun t =>
    s.bindSt t == bTESTING && s.fld (oCS_BIND t) 11 8 == s.pairCp n && s.follower n != some t

/-- Both members are bound again as they were before their test. -/
def State.endTest (s : State) (n : PairId) : State :=
  let leader := s.testedLeader n
  let s := match leader with | some t => s.setBindSt t bBOUND | none => s
  match s.follower n with | some u => s.setBindSt u bFOLLOWER | none => s

/-- The pair breaks: what the buffer holds is released as it stands (R294), and the leader runs single.
Assumption 40 (DEDUCED). -/
def State.breakPair (s : State) (n : PairId) (st : Nat) : State :=
  let k := s.pairCp n
  let h := s.pairs[n].dsb
  -- members that were under test (R288) leave it
  let s := if s.pairs[n].testing then s.endTest n else s
  let s := s.forEach h fun h s => s.releaseOut k h
  let s := if h = [] then s else s.setFlag (oCMP_PSTAT n) 9 true
  let s := (s.modPair n fun p =>
    { p with log := [], logMark := 0, ivals := [], disagreed := 0, testing := false, copying := false, repairDue := false }).setDsb n []
  ((s.setFld (oCMP_PSTAT n) 48 36 0).setPairSt n st).modCp k fun c => { c with syncWait := none, syncGo := false }

/-- R278: the spare for a failing site, with the donor step where it is allowed; the donor's pair is left DEGRADED.
Assumption 39 (DEDUCED). -/
def State.chooseSpare (s : State) (old : SiteId) : State × Option SiteId :=
  match s.freeSpare old with
  | some t => (s, some t)
  | none =>
    match (List.finRange 10).find? fun (n : PairId) => s.flag (oCMP_PAIR n) 61 && (s.follower n).isSome with
    | some n =>
      let t := s.follower n
      ((s.breakPair n pDEGRADED).dropFollower n bSPARE, t)
    | none => (s, none)

/-! Sparing (R277 to R282, R289). -/

/-- CORE_SPARING (R277 to R281): the site is frozen and the spare chosen. A member of a pair rolls back with it, and the
follower takes over (R289). Assumption 39 (DEDUCED). -/
def State.spareStart (s : State) (k : CpId) (lost : Bool) : State :=
  let c := s.cp k
  let s := match s.siteOf k with
    | some t => if c.checkstop && c.checkstopCore then s.freezeSite k t else s
    | none => s
  match s.sparingSite k with
  | none => s
  | some t =>
    if c.spareTo.isSome then s
    else
      match s.pairOf k with
      | some n =>
        let s := s.pairRollback n
        match s.follower n with
        | some u => s.modCp k fun c => { c with spareTo := some u, ckptLost := false, frozen := true }
        | none => s
      | none =>
        let r := (s.rollback k).chooseSpare t
        match r.2 with
        | some u => r.1.modCp k fun c => { c with spareTo := some u, ckptLost := lost, frozen := true }
        | none =>
          -- a command of the host that finds no spare is refused (R570)
          match s.lkpSpare with
          | some (j, tag) =>
            if j = k ∧ c.checkstop = false then
              { ((s.setBindSt t bBOUND).modCp k fun c => { c with frozen := false }).lkpDone 4 tag with lkpSpare := none }
            else r.1.outOfService k t
          | none => r.1.outOfService k t

/-- CORE_SPARING. -/
def execCoreSparing (k : CpId) (lost : Bool) (s : State) : Host.Outcome State Fault Refusal := .next (s.spareStart k lost)

/-! Comparison (R284 to R288). -/

/-- What a signature covers of an output: kind, address, data and tag (R287). -/
def Held.sig : Held → List Nat
  | .store o _ => [0, o.pa, o.data.toNat, o.bytes.toNat, match o.tag with | some t => t.toNat | none => 64,
      match o.col with | some c => c.toNat | none => 4]
  | .line op la => [1, la, match op with | .inval => 0 | .clean => 1 | .flush => 2]
  | .reg x v => [2, x, v.toNat]
  | .heal o _ t v _ => [3, o.pa, o.data.toNat, t.toNat, v.toNat]

/-- The same output with other data bits. -/
def Held.flip (h : Held) (x : Word) : Held :=
  match h with
  | .store o p => .store { o with data := o.data ^^^ x } p
  | .line op la => .line op (la ^^^ x.toNat)
  | .reg a v => .reg a (v ^^^ x)
  | .heal o p t v c => .heal { o with data := o.data ^^^ x } p t v c

/-- The registers of R271 as numbers. -/
def CpRegs.sig (r : CpRegs) : List Nat :=
  let tw := fun (w : TWord) => w.data.toNat + 2 ^ 64 * (w.col ++ w.tag).toNat + (if w.poison then 2 ^ 72 else 0)
  let cap := fun (c : Cap) => c.pair.1.data.toNat + 2 ^ 64 * c.pair.2.data.toNat
  r.g.toList.map tw ++ r.fe.toList.map tw ++ r.c.toList.map cap ++ [cap r.trapCap, cap r.feCap, r.p.toNat]
    ++ [r.pc, r.ps, r.tsp, r.tvec, r.feVec, r.feStat, r.evpend, r.wdog, r.escv, r.cardb, r.colctl, r.axen].map BitVec.toNat
    ++ [r.rs.length, r.shE.length, r.shG.length] ++ (r.rs ++ r.shE ++ r.shG).map BitVec.toNat
    ++ r.escVec.toList.map fun v => match v with | some w => w.toNat | none => 2 ^ 64

/-- R287: the signature of an interval's outputs and, in full-compare mode, of the registers at its end.
Assumption 86 (DESIGN CHOICE). -/
def intervalSig (full : Bool) (outs : List Held) (r : CpRegs) : BitVec 128 :=
  Config.pairSignature ((outs.map Held.sig).flatten ++ if full then [Config.registerDigest r.sig] else [])

/-- The follower's outputs and registers, where they differ from the leader's. -/
def diffOuts (d : CopyDiff) (l : List Held) : List Held :=
  match d with
  | .output i x => l.modify i fun h => h.flip x
  | _ => l
def diffRegs (d : CopyDiff) (r : CpRegs) : CpRegs :=
  match d with
  | .reg i x => r.setG i { r.gr i with data := (r.gr i).data ^^^ x }
  | _ => r

/-- R285, R287: the comparator finds both copies' signatures of an interval equal. -/
def State.pairAgrees (s : State) (n : PairId) (v : Ival) (d : CopyDiff) : Bool :=
  let outs := s.pairs[n].dsb.take v.outs
  let full := s.flag (oCMP_PAIR n) 62
  intervalSig full outs v.regs == intervalSig full (diffOuts d outs) (diffRegs d v.regs)

/-- R288: the copies disagree: rollback, and the fourth disagreement in an interval sends both sites to self-test. -/
def State.pairDisagree (s : State) (n : PairId) : State :=
  let k := s.pairCp n
  let d := s.pairs[n].disagreed + 1
  let s := (s.countSite k 19).setFlag (oCMP_PSTAT n) 8 true
  let s := (s.pairRollback n).modPair n fun p => { p with disagreed := d }
  if 4 ≤ d then
    let s := s.modPair n fun p => { p with testing := true }
    let s := match s.siteOf k with | some t => s.setBindSt t bTESTING | none => s
    match s.follower n with | some u => s.setBindSt u bTESTING | none => s
  else s

/-- R285: the oldest interval is verified: its outputs go out in program order, its log entries are done with. A follower
that R276 retires leaves at this checkpoint. -/
def State.pairVerify (s : State) (n : PairId) (v : Ival) (rest : List Ival) (out : CpId → Held × Nat → State → State) : State :=
  let k := s.pairCp n
  let dsb := s.pairs[n].dsb
  let s := s.forEach ((dsb.take v.outs).zipIdx) (out k)
  let s := (s.modPair n fun p =>
    { p with verified := v.regs, verArith := v.arith, ivals := rest, log := p.log.drop v.logs, logMark := p.logMark - v.logs,
             disagreed := 0, attempts := 0 }).setDsb n (dsb.drop v.outs)
  let s := s.setFld (oCMP_PSTAT n) 48 36 (s.fld (oCMP_PSTAT n) 48 36 - v.count)
  match s.follower n with
  | some u => if (s.site u).spareDue then (s.modSite u fun x => { x with spareDue := false }).followerFails n else s
  | none => s

/-- PAIR_INTERVAL_COMPARE (R285, R287, R288): the oldest interval that waits. In SUSPECT nothing is released (R292).
Assumption 40 (DEDUCED). -/
def State.pairCompare (s : State) (n : PairId) (d : CopyDiff) : State :=
  match s.pairs[n].ivals with
  | [] => s
  | v :: rest =>
    if s.pairSt n = pSUSPECT then (if s.pairAgrees n v d then s else s.setFlag (oCMP_PSTAT n) 8 true)
    else if s.pairSt n ≠ pPAIRED ∨ s.pairs[n].testing = true then s
    else if s.pairAgrees n v d then s.pairVerify n v rest fun k h s => s.releaseOut k h.1
    else s.pairDisagree n

/-- PAIR_INTERVAL_COMPARE. -/
def execPairIntervalCompare (n : PairId) (d : CopyDiff) (s : State) : Host.Outcome State Fault Refusal :=
  .next (s.pairCompare n d)

/-- PAIR_SELF_TEST_DONE (R288, R289). -/
def State.pairTested (s : State) (n : PairId) (leaderOk followerOk : Bool) : State :=
  let k := s.pairCp n
  if !s.pairs[n].testing then s
  else
    let s := s.modPair n fun p => { p with testing := false, disagreed := 0 }
    let leader := s.testedLeader n
    let s := s.endTest n
    if leaderOk then (if followerOk then s.doCheckstop k false else s.followerFails n)
    else
      let s := if followerOk then s else
        (match s.follower n with | some u => s.repairAdd 3 u 0 2 2 | none => s).dropFollower n bFAILED |>.setPairSt n pDEGRADED
      match leader with
      | some t => s.freezeSite k t
      | none => s

/-- PAIR_SELF_TEST_DONE. -/
def execPairSelfTestDone (n : PairId) (leaderOk followerOk : Bool) (s : State) : Host.Outcome State Fault Refusal :=
  .next (s.pairTested n leaderOk followerOk)

/-! Comparators and debug (R290 to R295). -/

/-- COMPARATOR_SUSPECT (R292). -/
def State.cmpSuspect (s : State) (c : CompId) : State :=
  let n := s.fld (oCMP_UNIT c) 7 4
  if s.fld (oCMP_UNIT c) 2 0 ≠ uSERVICE then s
  else
    let s := (s.count (cDEV 23)).setFld (oCMP_UNIT c) 2 0 uTESTING
    if h : n < 10 then (if s.pairSt ⟨n, h⟩ = pPAIRED then s.setPairSt ⟨n, h⟩ pSUSPECT else s) else s

/-- COMPARATOR_SUSPECT. -/
def execComparatorSuspect (c : CompId) (s : State) : Host.Outcome State Fault Refusal := .next (s.cmpSuspect c)

/-- COMPARATOR_TEST_DONE (R291, R292). -/
def State.cmpTested (s : State) (c : CompId) (pass : Bool) : State :=
  if s.fld (oCMP_UNIT c) 2 0 ≠ uTESTING then s
  else
    let v := s.fld (oCMP_UNIT c) 7 4
    if h : v < 10 then
      let n : PairId := ⟨v, h⟩
      let suspect := s.pairSt n = pSUSPECT
      if pass then
        let s := s.cmpBind c n
        if suspect then (s.pairRollback n).setPairSt n pPAIRED
        else s
      else
        let s := ((s.setFld (oCMP_UNIT c) 2 0 uFAILED).setFld (oCMP_UNIT c) 7 4 0xF).repairAdd 4 c 0 2 2
        match s.spareCmp with
        | some d => s.cmpTest d n
        | none =>
          let s := s.setFld (oCMP_PSTAT n) 35 32 0xF
          if suspect then (s.pairRollback n).breakPair n pUNCOMPARED
          else
            let s := s.modPair n fun p => { p with repairDue := false }
            if s.pairSt n = pFORMING then s.setPairSt n pUNCOMPARED else s
    else if pass then s.setFld (oCMP_UNIT c) 2 0 uSPARE
    else (s.setFld (oCMP_UNIT c) 2 0 uFAILED).repairAdd 4 c 0 2 2

/-- COMPARATOR_TEST_DONE. -/
def execComparatorTestDone (c : CompId) (pass : Bool) (s : State) : Host.Outcome State Fault Refusal :=
  .next (s.cmpTested c pass)

/-- A store of the buffer is released poisoned (R78, R297). -/
def State.releasePoisoned (s : State) (k : CpId) (h : Held) : State :=
  match h with
  | .store o _ =>
    let s := s.releaseOut k h
    let s := { s with mem := s.mem.setPoison (o.pa - o.pa % 8) true }
    s.record (mkRec 5 (s.srcOf k) 0xF002 (s.partOf k) (some k) (BitVec.ofNat 64 (o.pa - o.pa % 8)))
  | _ => s.releaseOut k h

/-- PAIR_LOG_ECC_ERROR (R293, R297): behind an unverified interval both copies roll back; an entry of an interval that is
verified, and now released, goes out poisoned. Assumption 40 (DEDUCED). -/
def State.pairEcc (s : State) (n : PairId) (verified : Bool) (entry : Nat) : State :=
  if !s.pairRuns n then s
  else if verified then
    match s.pairs[n].ivals with
    | v :: rest =>
      if entry < v.outs then
        s.pairVerify n v rest fun k h s => if h.2 = entry then s.releasePoisoned k h.1 else s.releaseOut k h.1
      else s
    | [] => s
  else s.pairRollback n

/-- PAIR_LOG_ECC_ERROR. -/
def execPairLogEccError (n : PairId) (verified : Bool) (entry : Nat) (s : State) : Host.Outcome State Fault Refusal :=
  .next (s.pairEcc n verified entry)

/-- Debug and test access is open: by lifecycle, or by a session of the device's or the partition's scope (R482, R501,
R502). -/
def State.debugOpen (s : State) (part : Option PartId) : Bool :=
  decide (s.fld oESF_STAT 3 0 ≤ 1) || s.flag oESF_STAT 11
    || (match part with
        | some n => s.flag oESF_STAT (12 + n)
        | none => false)

/-- DEBUG_HALT (R294, R297): while a leader is spared the halt waits for the end of the sparing. Assumption 39 (DEDUCED). -/
def State.debugHaltAt (s : State) (t : SiteId) : State :=
  let k := cpField (s.fld (oCS_BIND t) 11 8)
  let pair := (List.finRange 10).find? fun (n : PairId) => s.fld (oCMP_PAIR n) 35 32 == k && s.pairRuns n && !s.pairs[n].testing
  if !s.debugOpen (s.sitePart t) then s
  else if s.bindSt t = bBOUND then
    let s := match pair with | some n => s.breakPair n pBROKEN | none => s
    s.modCp k fun c => { c with debugHalt := true }
  else if s.bindSt t = bSPARING ∨ (s.bindSt t = bFOLLOWER ∧ (s.cp k).spareTo = some t) then
    s.modCp k fun c => { c with haltDue := true }
  else if s.bindSt t = bFOLLOWER then
    match pair with
    | some n => s.breakPair n pBROKEN
    | none => s
  else s

/-- DEBUG_HALT. -/
def execDebugHalt (t : SiteId) (s : State) : Host.Outcome State Fault Refusal := .next (s.debugHaltAt t)

/-- PAIR_REPAIR_COPY_DONE (R295). -/
def execPairRepairCopyDone (n : PairId) (s : State) : Host.Outcome State Fault Refusal :=
  .next (if s.pairs[n].copying then s.pairForm n else s)

end Sys2Proof.Machine
end

