-- ==== Sys2Proof/Machine/Boot.lean ====
section
/-!
DEFINITION. Start-up (R489, R490, R508 to R513, R516, R523, R580) and the retirement of ageing resources (R514, R515).
-/

namespace Sys2Proof.Machine

/-! STAGE. -/

def State.stage (s : State) : Nat := s.fld oCFG_START 3 0
def State.setStage (s : State) (v : Nat) : State := s.setFld oCFG_START 3 0 v

/-- Start-up ends with STAGE FAILED: a record of SEV FATAL (R510, R527). -/
def State.startFailed (s : State) (source : Nat) : State := (s.setStage 0xF).recordOpen (mkRec 6 source 0)

/-! COLD_RESET: Esfort's part. -/

/-- The SVN of an image whose block no command carries: a free value not below the minimum of its KIND.
Assumption 73 (DEDUCED). -/
def State.svnLoaded (s : State) (kind : Nat) : State :=
  let low := s.nv.svn.toList.getD (kind - 1) 0
  ({ s with nv := { s.nv with svnNow := s.nv.svnNow.setIfInBounds (kind - 1) (low + s.freeVal.toNat % (65536 - low)) } }).freeStep

/-- A lifecycle change takes effect; RETURN erases keys and seeds (R501). Assumption 70 (DEDUCED). -/
def State.lifeTakes (s : State) : State :=
  match s.nv.lifeNext with
  | none => s
  | some t =>
    let s := { s with nv := { s.nv with lifecycle := t, lifeNext := none } }
    if t = 3 then (s.forEach allScopes fun sc s => s.eraseScope sc).storeKeys else s

/-- What Esfort does at every start-up (R488 to R490, R499, R501, R505). -/
def State.esfStart (s : State) (b : BootIn) : State :=
  let s := s.lifeTakes.esfFuses
  let s := s.forEach (List.range 16) fun k s => s.setSlot k (List.replicate 48 0)
  let s := s.forEach allScopes fun sc s => s.setFlag oESF_STAT (sessionBit sc) false
  let s := { s with esf := { s.esf with chal := Vector.replicate 10 none, boundary := false } }
  let s := s.extendKeys
  let s := if s.lifecycle ≤ 1 then s.openSession .dev 3 else s
  if b.fwStoreOk then ((s.setFld oESF_STAT 7 6 1).extendSlot 0 b.fwDigest).svnLoaded 1
  else if b.fwFlashOk then ((s.setFld oESF_STAT 7 6 2).extendSlot 0 b.fwDigest).svnLoaded 1
  else s.setFld oESF_STAT 7 6 3

/-- The repair map is applied before self-test, or none of it when neither copy verifies (R511, R513). -/
def State.repairLoad (s : State) (b : BootIn) : State :=
  if b.repairOk then (s.extendSlot 4 b.repairDigest).svnLoaded 4
  else { s with nv := { s.nv with repair := [], passes := Vector.replicate 20 0 } }

/-- COLD_RESET (R508): RST_L rises with VDD_AUX and PWROK; the straps are sampled. Assumption 73 (DEDUCED). -/
def State.coldReset (s : State) (b : BootIn) : State :=
  if s.rstL = true ∨ s.auxOn = false ∨ s.pwrok = false then s
  else
    let s := { s with rstL := true, towPresent := b.towPresent, smbAddr := b.smbAddr }
    let s := (s.setFlag oTWN_STAT 5 b.unitId).clearFail
    let s := s.setRegs (oGLB_SERIAL 0) [Config.serial 0, Config.serial 1]
    let s := s.esfStart b
    if s.fld oESF_STAT 7 6 = 3 then s
    else
      let s := if b.fwStoreOk then s else s.record (mkRec 1 0x66 0xF00F none none 0 1 1)
      (s.repairLoad b).setStage 2

/-- COLD_RESET. -/
def execColdReset (b : BootIn) (s : State) : Host.Outcome State Fault Refusal := .next (s.coldReset b)

/-- HBM_TRAINING_DONE (R510): storage is zero, or start-up fails. Assumptions 8 (DESIGN CHOICE), 73 (DEDUCED). -/
def State.hbmTrained (s : State) (ok : BitVec 4) : State :=
  if s.running = false ∨ s.stage ≠ 2 then s
  else if ok = 0xF then { s with mem := Mem.empty, cfg := { s.cfg with hbmOk := true } }
  else s.startFailed (0x40 + (((List.range 4).find? fun n => !ok.getLsbD n).getD 0))

/-- HBM_TRAINING_DONE. -/
def execHbmTrainingDone (ok : BitVec 4) (s : State) : Host.Outcome State Fault Refusal := .next (s.hbmTrained ok)

/-! Self-test (R512, R513). -/

/-- The map retires an instance of a KIND. -/
def State.mapped (s : State) (kind inst : Nat) : Bool :=
  s.nv.repair.any fun e => decide (e.kind.toNat = kind ∧ e.inst.toNat = inst) && e.action == 2

/-- A failing resource joins the map. -/
def State.mapFailed (s : State) (kind inst : Nat) (ok : Bool) : State :=
  if ok || s.mapped kind inst then s else s.repairAdd kind inst 0 2 1

/-- R513: a core site passes or fails; after three successive passes an entry that is not the factory's goes. -/
def State.sitePassed (s : State) (t : SiteId) (ok : Bool) : State :=
  let ours := fun (e : RepairEntry) => decide (e.kind.toNat = 3 ∧ e.inst.toNat = t.val) && e.origin != 0
  let n := if ok && s.nv.repair.any ours then s.nv.passes[t] + 1 else 0
  if 3 ≤ n then
    { s with nv := { s.nv with repair := s.nv.repair.filter fun e => !ours e, passes := s.nv.passes.set t 0 } }
  else { s with nv := { s.nv with passes := s.nv.passes.set t n } }

/-- Every outcome of self-test enters the map; a changed map is written to both copies. -/
def State.selfTestMap (s : State) (r : SelfTestResult) : State :=
  let old := s.nv.repair
  let s := s.forEach (List.finRange 20) fun t s => s.sitePassed t (r.siteOk.getLsbD t)
  let had := s.nv.repair.length
  let s := { s with nv := { s.nv with repair := s.nv.repair ++ r.newEntries } }
  let s := s.forEach (List.range 20) fun i s => s.mapFailed 3 i (r.siteOk.getLsbD i)
  let s := s.forEach (List.range 12) fun i s => s.mapFailed 4 i (r.compOk.getLsbD i)
  let s := s.forEach (List.range 15) fun i s => s.mapFailed 5 i (r.linkOk.getLsbD i)
  let s := s.forEach (List.range 8) fun i s =>
    ((s.mapFailed 8 i (r.pipeOk.getLsbD i)).mapFailed 9 i (r.claneOk.getLsbD i)).mapFailed 10 i (r.dlaneOk.getLsbD i)
  let s := s.setFld oCFG_START 55 48 (min 255 (s.nv.repair.length - had))
  let s := s.setFld oCFG_START 47 40 ((List.range 20).countP fun i => r.siteOk.getLsbD i)
  if s.nv.repair = old then s else s.mramTwice nvRepair 0x40000 (64 + 8 * s.nv.repair.length + sigLen)

/-- R17, R582: 16 good sites are bound, the others are spares; FAILED sites are gated. That the lowest good sites are bound,
to CP_0 on, is the model's choice. Assumption 84 (DESIGN CHOICE). -/
def State.bindSites (s : State) : State :=
  let good : List SiteId := (List.finRange 20).filter fun t => !s.mapped 3 t
  let s := s.forEach (List.finRange 20) fun t s =>
    if s.mapped 3 t then ((s.setBindSt t bFAILED).setDomain t 2).setFld (oNI t 0) 1 0 2 else s
  s.forEach good.zipIdx fun (p : SiteId × Nat) s => let t := p.1; let i := p.2; if i < 16 then s.bindTo t bBOUND (cpField i) none else s.setBindSt t bSPARE

/-- Comparators, links and transform units after self-test. -/
def State.otherUnits (s : State) : State :=
  let s := s.forEach (List.range 12) fun c s => s.setFld (oCMP_UNIT c) 2 0 (if s.mapped 4 c then uFAILED else uSPARE)
  let s := s.forEach (List.range 15) fun l s =>
    if s.mapped 5 l then
      ((s.setFlag oNOC_LINK l true).portRemoved (linkEnds l).1 (linkEnds l).2.1).portRemoved (linkEnds l).2.2.1 (linkEnds l).2.2.2
    else s
  let s := s.spareLinks
  s.forEach (List.range 8) fun i s =>
    ((s.setFlag oCIP_STAT i (s.mapped 8 i)).setFlag oCMZ_STAT i (s.mapped 9 i)).setFlag oCMZ_STAT (8 + i) (s.mapped 10 i)

/-- The check of R238 that an image fails: signature, SVN, format. -/
def State.selaufenImage (s : State) (kind : Nat) (bs : List Byte) : Except Nat McImage :=
  match s.checkSelaufen bs with
  | .error r => .error r
  | .ok im => if im.kind = kind ∧ im.fits = true then .ok im else .error resFORMAT

/-- R238, R516: the image stored for this start-up, else the one in use before; a failing one leaves a record. -/
def State.pickImage (s : State) (kind : Nat) (bs : List Byte) : State × Option McImage :=
  let bad := fun (s : State) (r : Nat) =>
    s.record (mkRec 1 0x65 0xF00F none none 0 (BitVec.ofNat 64 r) (BitVec.ofNat 64 kind))
  let own := fun (s : State) =>
    match s.selaufenImage kind bs with
    | .ok im => (s, some im)
    | .error r => (bad s r, none)
  match s.nv.newImages.find? fun e => e.1 = kind with
  | some (_, nbs) =>
    match s.selaufenImage kind nbs with
    | .ok im => (s, some im)
    | .error r => own (bad s r)
  | none => own s

/-- The Selaufen CP image goes to every core site that is not FAILED, the CE image to the nine engines (R516). -/
def State.loadMicrocode (s : State) (cp ce : List Byte) : State :=
  let a := s.pickImage 1 cp
  let s := match a.2 with
    | some im =>
      (a.1.forEach (List.finRange 20) fun t s =>
        if s.bindSt t = bFAILED then s
        else (s.modSite t fun x => { x with seq := x.seq.load 0 0x3000 (imageWords im) }).setFld (oSITE t 0x100) 47 32 im.serial.toNat)
      |>.extendSlot 1 (blkDigest im.block)
    | none => a.1
  let b := s.pickImage 3 ce
  let s := match b.2 with
    | some im =>
      (b.1.forEach (List.finRange 9) fun e s =>
        (s.modEng e fun g => { g with seq := g.seq.load 0 0x1800 (imageWords im) }).setFld (oCE e 0x100) 47 32 im.serial.toNat)
      |>.extendSlot 2 (blkDigest im.block)
    | none => b.1
  let svns := [a.2, b.2].filterMap fun x => x.map fun im => blkSvn im.block
  match svns with
  | v :: t => { s with nv := { s.nv with svnNow := s.nv.svnNow.set 1 (t.foldl min v) } }
  | [] => s

/-- SELF_TEST_DONE (R512, R513, R516). Assumption 73 (DEDUCED). -/
def State.selfTested (s : State) (r : SelfTestResult) : State :=
  if s.running = false ∨ s.stage ≠ 2 ∨ s.cfg.hbmOk = false then s
  else
    let s := s.selfTestMap r
    if r.arrayLost then s.startFailed 0x65
    else
      ((s.bindSites.otherUnits).loadMicrocode r.cpImage r.ceImage).setStage 4

/-- SELF_TEST_DONE. -/
def execSelfTestDone (r : SelfTestResult) (s : State) : Host.Outcome State Fault Refusal := .next (s.selfTested r)

/-! READY (R508, R523, R568). -/

/-- The generation chosen at start-up comes into force. -/
def State.startGen (s : State) (g : Gen) (gens : List (List Byte)) : State :=
  let s := s.applyGen g.recs g.cust
  ({ s with nv := { s.nv with gens := gens } }).genLoaded g

/-- R522, R523: G0, with a full probation when power was lost in it once; an older one when it was lost twice.
Assumption 73 (DEDUCED). -/
def State.pickGen (s : State) : State :=
  let lost := s.nv.probLost + 1
  match s.nv.gens with
  | [] => s
  | g0 :: older =>
    if s.nv.probation = true ∧ 2 ≤ lost then
      let pick := s.pickOlder ⟨resNOOLDER, 0, 0xF⟩ older
      let s := s.refusedFirst older
      match pick with
      | (some (g, rest), _) => (((s.startGen g (g.bytes :: rest)).setPlain 0).genStable).genRecord 4 g.id
      | (none, r) =>
        match s.checkGen g0 with
        | .ok g => (((s.startGen g [g0]).setResult r).genStable).genRecord 1 g.id
        | .error r => ((s.setResult r).genRecord 1 (imageId g0)).custRefused g0
    else
      match s.checkGen g0 with
      | .ok g =>
        let s := s.startGen g (g0 :: older)
        if s.nv.probation then ({ s with nv := { s.nv with probLost := lost } }).probationStart g else s.genStable
      | .error r =>
        let pick := s.pickOlder r older
        let s := s.refusedFirst (g0 :: older)
        match pick with
        | (some (g, rest), _) => (((s.startGen g (g.bytes :: rest)).setResult r).genStable).genRecord 4 g.id
        | (none, r) => (s.setResult r).genRecord 1 (imageId g0)

/-- STARTUP_READY (R508): G0 and the high-water record are in force, ports train, the twin election begins.
Assumption 73 (DEDUCED). -/
def State.becomeReady (s : State) : State :=
  if s.running = false ∨ s.stage ≠ 4 then s
  else
    let s := s.pickGen.showGens.hwmLoad
    let src := s.fld oTCK_CTL 2 0
    let s := if src ≤ 5 then s.modTick fun k => { k with src := src } else s
    let s := s.twinEnable
    (s.setStage 5).emit (.pin "READY" true)

/-- STARTUP_READY. -/
def execStartupReady (s : State) : Host.Outcome State Fault Refusal := .next s.becomeReady

/-! Ageing (R514, R515). -/

/-- A line of a cache is written back and leaves the array for good. -/
def State.retireLine (s : State) (c : CacheRef) (set way : Nat) : State :=
  match s.entryAt c set way with
  | none => s
  | some l =>
    let s := match c with
      | .l2 t => if l.resv then s else s.l2Leave t true l
      | .l3 _ => if l.resv then s else s.l3Leave true l
      | _ => s
    s.setArray c ((s.arrayOf c).mod (waysOf c) set fun x => ⟨x.ways.modify way fun _ => none, x.plru⟩)

/-- A row of an SRAM array has aged: its line goes as CFLS has it, a spare row is mapped. Assumption 74 (DEDUCED). -/
def State.rowAged (s : State) (c : CacheRef) (row set way : Nat) : State :=
  let s := if s.lockedIn c way then
      (match s.entryAt c set way with
       | some l =>
         let s := match c with
           | .l2 t => s.l2Leave t true l
           | .l3 _ => s.l3Leave true l
           | _ => s
         s.killWay c set way l.la
       | none => s)
    else s.retireLine c set way
  ((s.count (cDEV 22)).record (mkRec 1 (cacheSource c) 22)).repairAdd 1 (cacheNo c) row 1 2

/-- A way of a cache has aged: every line of it leaves and the way is used no more. Assumption 74 (DEDUCED). -/
def State.wayAged (s : State) (c : CacheRef) (way : Nat) : State :=
  if s.wayRetired c way then s
  else
    let locked := s.lockedIn c way
    let s := s.forEach ((s.arrayOf c).map (·.1)) fun set s => s.retireLine c set way
    let s := s.repairAdd 2 (cacheNo c) way 2 2
    if locked then (s.count (cacheCounter c 18 6)).record (mkRec 1 (cacheSource c) (cacheCode c 18 6))
    else s.recordOpen (mkRec 1 (cacheSource c) 0)

/-- A transform unit has aged. -/
def State.unitAged (s : State) (k : XfKind) (i : Nat) : State :=
  if (s.retiredUnits k).testBit i then s else (s.retireUnit k i 2).record (mkRec 1 (xfSource k) (xfCounter k))

/-- AGEING_THRESHOLD (R514). Assumption 74 (DEDUCED). -/
def State.aged (s : State) (ev : AgeEvent) : State :=
  if s.running = false ∨ s.ready = false then s
  else
    match ev with
    | .siteDelay t => s.modSite t fun x => { x with spareDue := true }
    | .siteRetries t => s.modSite t fun x => { x with spareDue := true }
    | .sramRow c row set way => s.rowAged c row set way
    | .cacheWay c way => s.wayAged c way
    | .hbmRow n row => ((s.count (cMSC n 3)).record (mkRec 1 (0x40 + n) 3)).repairAdd 7 n row 1 2
    | .linkReplays l => s.failLink l
    | .serdes u lane => (s.recordOpen (mkRec 1 (srcPort u) 0)).repairAdd 6 u lane 1 2
    | .pipe i => s.unitAged .pipe i
    | .clane i => s.unitAged .clane i
    | .dlane i => s.unitAged .dlane i

/-- AGEING_THRESHOLD. -/
def execAgeingThreshold (ev : AgeEvent) (s : State) : Host.Outcome State Fault Refusal := .next (s.aged ev)

end Sys2Proof.Machine
end

