-- ==== Sys2Proof/Machine/Flags.lean ====
section
/-!
DEFINITION. The flags of PS and the arithmetic exceptions (R86, R166 to R168, R176, R178 to R181): which flags an
operation raises, how they become sticky, and when a trap becomes pending.
-/

namespace Sys2Proof.Machine

/-- The exceptions of one operation, in the bit positions of AXEN: 0 NX, 1 UF, 2 OF, 3 DZ, 4 NV, 9 DOV, 10 DD. -/
abbrev Exc := BitVec 11

abbrev xNX : Exc := 0x001
abbrev xUF : Exc := 0x002
abbrev xOF : Exc := 0x004
abbrev xDZ : Exc := 0x008
abbrev xNV : Exc := 0x010
abbrev xDOV : Exc := 0x200
abbrev xDD : Exc := 0x400

/-- PS bits 4:0 and 9 are sticky; decimal data has no flag. -/
def raiseFlags (ps : Word) (x : Exc) : Word := ps ||| (x &&& 0x21F).setWidth 64

/-- R178, R181: an operation completes with its flags set; an enabled exception makes an arithmetic trap pending unless
one is pending already. -/
def State.raiseExc (s : State) (k : CpId) (pc : Word) (insn : BitVec 32) (x : Exc) : State :=
  let s := s.modRegs k fun r => { r with ps := raiseFlags r.ps x }
  let on := x &&& ((s.cr k).axen.setWidth 11)
  if on = 0 ∨ (s.cp k).arith.isSome then s
  else
    s.modCp k fun c =>
      { c with arith := some ⟨pc, insn, on, 0⟩, regs := { c.regs with evpend := insBits c.regs.evpend 1 1 1 } }

/-- The body of an arithmetic instruction: registers and exceptions (R178). -/
def arithBody (k : CpId) (insn : BitVec 32) (f : CpRegs → Except Stop (CpRegs × Exc)) :
    Word → State → State × Option Stop :=
  fun pc s =>
    match poisonLast CpRegs.clean f (s.cr k) with
    | .ok (r, x) => ((s.modRegs k fun _ => r).raiseExc k pc insn x, none)
    | .error e => (s, some e)

/-- An arithmetic instruction of format R. -/
def arithInsn (s : State) (k : CpId) (i : Instr) (pr : Pred) (f : CpRegs → Except Stop (CpRegs × Exc)) :
    Host.Outcome State Fault Refusal :=
  s.retire k .plain (insnWord i) i.legal pr (arithBody k (insnWord i) f)

end Sys2Proof.Machine
end

