-- ==== Sys2Proof/Machine/Barrier.lean ====
section
/-!
DEFINITION. How a CP reaches storage: the check order of R75, word loads through the read barrier with self-healing (R151,
R152), word stores through the card-marking write barrier (R146 to R149), byte and halfword access (R77), and the register
window (R480).
-/

namespace Sys2Proof.Machine

/-- Orders 1 to 5 of R75 for an access of n bytes with an alignment: the physical address and the descriptor. -/
def State.access (s : State) (k : CpId) (cap : Cap) (perm : BitVec 12) (ea : Word) (n align : Nat) (isStore : Bool) :
    Except Stop (Nat × Word) :=
  if ea.toNat % align ≠ 0 then .error (alignFault ea)
  else
    match cap.check ea n perm with
    | some c => .error (capFault c ea)
    | none => s.cpXlate k ea isStore

/-- R61: the word a CP reads; a reserved tag is a machine check. -/
def State.readWord (s : State) (k : CpId) (pa : Nat) : Except Stop TWord :=
  let w := (s.cpMem k).word pa
  if tagReserved w.tag then .error (machineCheck 2 pa) else .ok w

/-- R79: a word that is used at once must not be poisoned. -/
def State.useWord (s : State) (k : CpId) (pa : Nat) : Except Stop TWord := do
  let w ← s.readWord k pa
  if w.poison then .error (machineCheck 1 pa) else .ok w

/-- R64, R82: capability halves arrive in g registers as RAW. -/
def asG (w : TWord) : TWord := if w.tag = tagCAPL ∨ w.tag = tagCAPH then { w with tag := tagRAW } else w

/-- The caches and the RLB see a load (R72, R246, R259). -/
def State.touchLoad (s : State) (k : CpId) (ea : Word) (pa : Nat) (d : Word) : State :=
  (s.touchRlb k ea).cacheLoad (s.siteOf k) (s.partOf k) (policyOf d) (lineOf pa)

/-- The descriptor of a pointer's target region when RN < LEN and V = 1 (R147, R151). -/
def State.targetRegion (s : State) (k : CpId) (ea : Word) : Except Stop (Option Word) :=
  match s.partOf k with
  | none => .ok none
  | some n =>
    match s.rlbXlate k n ea false with
    | .ok _ d => .ok (some d)
    | .region _ => .ok none
    | .bad pa => .error (machineCheck 3 pa)
    | .absent => .error .absent

/-- The caches and the RLB see the loads of n words from an effective address on. -/
def State.touchWords (s : State) (k : CpId) (ea : Word) (n : Nat) : State :=
  s.forEach (List.range n) fun i s =>
    let a := ea + BitVec.ofNat 64 (8 * i)
    match s.cpXlate k a false with
    | .ok (pa, d) => s.touchLoad k a pa d
    | .error _ => s

/-- Qualify a fault as found in a read-barrier access or in a card write (R205). -/
def Stop.inBarrier : Stop → Stop
  | .fault f => .fault { f with barrier := true }
  | x => x
def Stop.inCard : Stop → Stop
  | .fault f => .fault { f with card := true }
  | x => x

/-- Change the error of a computation. -/
def qualify {α : Type} (q : Stop → Stop) : Except Stop α → Except Stop α
  | .ok a => .ok a
  | .error e => .error (q e)

/-! Stores. -/

/-- A store of selected bytes of a RAW word (R77): data at its place, byte mask. -/
def byteStore (pa : Nat) (ea : Word) (n : Nat) (v : Word) : StoreOut :=
  let k := ea.toNat % 8
  ⟨pa - pa % 8, v <<< (8 * k), BitVec.ofNat 8 ((2 ^ n - 1) * 2 ^ k), some tagRAW, none, true⟩

/-- R75 orders 6 and 7 for byte and halfword accesses. -/
def State.rawWord (s : State) (k : CpId) (ea : Word) (pa : Nat) : Except Stop TWord := do
  let w ← s.readWord k (pa - pa % 8)
  if w.tag ≠ tagRAW then .error (.mk 0x06 3 ea 4)
  else if w.poison then .error (machineCheck 1 (pa - pa % 8)) else .ok w

/-- The byte in the card table for a slot (R147). -/
def CpRegs.cardOf (r : CpRegs) (slot : Word) : Word := (r.cardb &&& ~~~0xFFF#64) + (slot >>> 9)

/-- R146, R147: the card write that a store of w to slot S calls for. -/
def State.cardFor (s : State) (k : CpId) (slot : Word) (slotDesc : Word) (w : TWord) : Except Stop (Option Held) := do
  let r := s.cr k
  if !(s.ptrClass k w.tag && bit r.cardb 0) then .ok none
  else
    match ← s.targetRegion k w.data with
    | none => .ok none
    | some d =>
      if bit d 62 ∨ bits slotDesc 61 58 ≤ bits d 61 58 then .ok none
      else
        let card := r.cardOf slot
        qualify Stop.inCard do
          let (pa, cd) ← s.access k r.c[12] pSTORE card 1 1 true
          let _ ← s.rawWord k card pa
          .ok (some (.store (byteStore pa card 1 1) (policyOf cd)))

/-- The RLB sees a store of w to a slot, the target region that the write barrier looks up, and the card (R72, R147). -/
def State.touchStore (s : State) (k : CpId) (slot : Word) (w : TWord) (card : Option Held) : State :=
  let s := s.touchRlb k slot
  if s.ptrClass k w.tag && bit (s.cr k).cardb 0 then
    let s := s.touchRlb k w.data
    if card.isSome then s.touchRlb k ((s.cr k).cardOf slot) else s
  else s

/-- Add a card write when there is one. -/
def State.holdCard (s : State) (k : CpId) (c : Option Held) : State :=
  match c with
  | some h => s.hold k h
  | none => s

/-- R59, R62, R149: store a tagged word at a translated slot; the card write comes first. -/
def State.storeAt (s : State) (k : CpId) (slot : Word) (pa : Nat) (d : Word) (w : TWord) : Except Stop State := do
  let card ← s.cardFor k slot d w
  .ok (((s.touchStore k slot w card).holdCard k card).hold k (.store (.ofWord pa w) (policyOf d)))

/-- A word store through a capability, as STW (R75, R103). -/
def State.storeWord (s : State) (k : CpId) (cap : Cap) (ea : Word) (w : TWord) : Except Stop State := do
  let (pa, d) ← s.access k cap pSTORE ea 8 8 true
  s.storeAt k ea pa d w

/-! Loads. -/

/-- R151: follow forwarding pointers from p; fuel bounds the hops. Assumption 20 (DEDUCED). -/
def State.followFwd (s : State) (k : CpId) (slot : Word) (w : TWord) : Nat → Nat → TWord → Except Stop TWord
  | 0, _, p => .ok p
  | fuel + 1, hops, p => do
    match ← s.targetRegion k p.data with
    | none => .ok p
    | some d =>
      if bit d 62 = false then .ok p
      else
        let f ← qualify Stop.inBarrier do
          let (pa, _) ← s.access k (s.cr k).c[12] pLOAD p.data 8 8 false
          s.useWord k pa
        if f.tag ≠ tagFWD then .error (.escape ⟨10, 6, false, w, .ofRaw slot⟩)
        else if 4 < hops + 1 then .error (.escape ⟨10, 3, false, w, .ofRaw slot⟩)
        else s.followFwd k slot w fuel (hops + 1) { w with data := f.data }

/-- R151: the word that the read barrier delivers for w loaded from a slot with descriptor d. Assumption 21 (DEDUCED). -/
def State.readBarrier (s : State) (k : CpId) (slot d : Word) (w : TWord) : Except Stop TWord :=
  if bit (s.cr k).colctl 0 = false ∨ w.poison ∨ s.ptrClass k w.tag = false ∨ bit d 62 then .ok w
  else s.followFwd k slot w 6 0 w

/-- The caches and the RLB see what the read barrier reads: the target's region, and the forwarding words of a condemned
one. Fuel bounds the hops. -/
def State.touchFwd (s : State) (k : CpId) : Nat → TWord → State
  | 0, _ => s
  | fuel + 1, p =>
    match s.cpXlate k p.data false with
    | .ok (pa, d) =>
      if bit d 62 then (s.touchLoad k p.data pa d).touchFwd k fuel ((s.cpMem k).word pa) else s.touchRlb k p.data
    | .error _ => s

/-- Those of the load of w from a slot with descriptor d. -/
def State.touchBarrier (s : State) (k : CpId) (d : Word) (w : TWord) : State :=
  if bit (s.cr k).colctl 0 = false ∨ w.poison ∨ s.ptrClass k w.tag = false ∨ bit d 62 then s else s.touchFwd k 6 w

/-- The store that a card write is. -/
def cardStore : Option Held → Option (StoreOut × Nat)
  | some (.store o pol) => some (o, pol)
  | _ => none

/-- R125, R148, R152: heal slot S with w → p through c12, or count why not. The healing write waits as an output and
replaces the word only if S still holds w then. Assumptions 20 (DEDUCED), 21 (DEDUCED). -/
def State.heal (s : State) (k : CpId) (cap : Cap) (slot : Word) (pa : Nat) (d : Word) (w p : TWord) : State :=
  if p = w ∨ bit (s.cr k).colctl 1 = false then s
  else if !cap.grants pSTORE ∨ bit d 55 then s.countSite k 8
  else
    match (do let _ ← s.access k (s.cr k).c[12] pSTORE slot 8 8 true
              s.cardFor k slot d p : Except Stop (Option Held)) with
    | .ok card => (s.touchStore k slot p card).hold k (.heal (.ofWord pa p) (policyOf d) w.tag w.data (cardStore card))
    | .error _ => s.countSite k 8

/-- A word load through a capability, as LDW (R75, R102, R151): the state after healing, and the word. -/
def State.loadWord (s : State) (k : CpId) (cap : Cap) (ea : Word) : Except Stop (State × TWord) := do
  let (pa, d) ← s.access k cap pLOAD ea 8 8 false
  let w ← s.readWord k pa
  let p ← s.readBarrier k ea d (asG w)
  let s := ((s.touchLoad k ea pa d).touchBarrier k d (asG w)).heal k cap ea pa d (asG w) p
  .ok (s.logLoad k p, p)

/-- R77, R103: a byte or halfword load of n bytes. -/
def State.loadBytes (s : State) (k : CpId) (cap : Cap) (ea : Word) (n : Nat) : Except Stop (State × Word) := do
  let (pa, d) ← s.access k cap pLOAD ea n n false
  let w ← s.rawWord k ea pa
  let v := (w.data >>> (8 * (ea.toNat % 8))) &&& BitVec.ofNat 64 (2 ^ (8 * n) - 1)
  .ok ((s.touchLoad k ea pa d).logLoad k (.ofRaw v), v)

/-- R77, R103: a byte or halfword store of n bytes. -/
def State.storeBytes (s : State) (k : CpId) (cap : Cap) (ea : Word) (n : Nat) (v : Word) : Except Stop State := do
  let (pa, d) ← s.access k cap pSTORE ea n n true
  let _ ← s.rawWord k ea pa
  .ok ((s.touchRlb k ea).hold k (.store (byteStore pa ea n v) (policyOf d)))

/-! The register window (R480). -/

/-- Orders 1 and 2 of R75 for a window access. -/
def windowCheck (cap : Cap) (perm : BitVec 12) (ea : Word) : Except Stop Nat :=
  if ea.toNat % 8 ≠ 0 then .error (alignFault ea)
  else
    match cap.check ea 8 perm with
    | some c => .error (capFault c ea)
    | none => .ok (ea.toNat - windowBase)

/-- A load from the window delivers the register tagged RAW. Assumption 29 (DESIGN CHOICE). -/
def State.windowLoad (s : State) (k : CpId) (cap : Cap) (ea : Word) : Except Stop (State × TWord) := do
  let x ← windowCheck cap pLOAD ea
  match s.partOf k with
  | none => .error (regionFault 1 ea)
  | some n =>
    let r := s.viewRead n (.cp k) x
    .ok (r.1.logLoad k (.ofRaw r.2), .ofRaw r.2)

/-- A store into the window: after every earlier store of the CP, and in a pair once it is verified (R285, R480). Outside
a pair a checkpoint stands before it and, by its instruction's kind, right after it (R272). Assumption 29 (DESIGN CHOICE). -/
def State.windowStore (s : State) (k : CpId) (cap : Cap) (ea : Word) (v : Word) : Except Stop State := do
  let x ← windowCheck cap pSTORE ea
  match s.partOf k with
  | none => .error (regionFault 1 ea)
  | some n =>
    if (s.pairOf k).isSome then .ok (s.hold k (.reg x v))
    else .ok (((s.checkpoint k).markUnverified k).viewWrite n (.cp k) x v)

end Sys2Proof.Machine
end

