-- ==== Sys2Proof/Machine/Mem.lean ====
section
/-!
DEFINITION. Loads, stores, capability loads and stores, the ATOM and LINE classes and BLK (R101 to R106, R119 to R123).
-/

namespace Sys2Proof.Machine

/-- Write a loaded word to a g register. -/
def State.putG (s : State) (k : CpId) (i : BitVec 5) (w : TWord) : State := s.modRegs k fun r => r.setG i w

/-- The capability and the effective address of a load or store, after the check of R190. -/
def State.memOperands (s : State) (k : CpId) (f : MemForm) (size : Nat) : Except Stop (Cap × Word) := do
  let r := s.cr k
  c13Check r [memCap f]
  let ea ← memEa f (s.ptrClass k) r size
  .ok (r.cr (memCap f), ea)

/-- R480: the address lies in the register window. -/
def inWindow (ea : Word) : Bool := decide (windowBase ≤ ea.toNat)

/-- LDW (R64, R102, R480). -/
def ldwBody (k : CpId) (parity : Bool) (f : MemForm) (s : State) : Except Stop State := do
  let (cap, ea) ← s.memOperands k f 8
  let s := if parity then s.rlbParity k (ea.toNat / 2 ^ 21) else s
  let r ← if inWindow ea then s.windowLoad k cap ea else s.loadWord k cap ea
  .ok (r.1.putG k (memD f) r.2)

/-- LDW. -/
def execLdw (k : CpId) (rlbParity : Bool) (f : MemForm) (s : State) : Host.Outcome State Fault Refusal :=
  s.retire k .plain (insnWord (.ldw k rlbParity f)) (Instr.legal (.ldw k rlbParity f)) (memPr f)
    (stateBody fun _ s => ldwBody k rlbParity f s)

/-- STW (R59, R62, R103, R480). -/
def stwBody (k : CpId) (f : MemForm) (s : State) : Except Stop State := do
  let (cap, ea) ← s.memOperands k f 8
  let w ← anyOp (s.cr k) (memD f)
  if inWindow ea then s.windowStore k cap ea w.data else s.storeWord k cap ea w

/-- R272: a store into the register window outside a pair goes out at a checkpoint that follows it at once. -/
def State.stwKind (s : State) (k : CpId) (f : MemForm) : Kind :=
  match s.memOperands k f 8 with
  | .ok x => if inWindow x.2 && (s.pairOf k).isNone then .after else .plain
  | .error _ => .plain

/-- STW. -/
def execStw (k : CpId) (f : MemForm) (s : State) : Host.Outcome State Fault Refusal :=
  s.retire k (s.stwKind k f) (insnWord (.stw k f)) (Instr.legal (.stw k f)) (memPr f) (stateBody fun _ s => stwBody k f s)

/-- A byte or halfword load of n bytes, zero- or sign-extended (R77). -/
def loadNBody (k : CpId) (n : Nat) (signed : Bool) (f : MemForm) (s : State) : Except Stop State := do
  let (cap, ea) ← s.memOperands k f n
  let r ← s.loadBytes k cap ea n
  let v := if signed then (r.2.setWidth (8 * n)).signExtend 64 else r.2
  .ok (r.1.putG k (memD f) (.ofRaw v))

/-- A byte or halfword store of n bytes (R77, R103). -/
def storeNBody (k : CpId) (n : Nat) (f : MemForm) (s : State) : Except Stop State := do
  let (cap, ea) ← s.memOperands k f n
  let w ← numOp 0 (s.cr k) (memD f)
  s.storeBytes k cap ea n w.data

/-- LDB (R77, R97). -/
def execLdb (k : CpId) (f : MemForm) (s : State) : Host.Outcome State Fault Refusal :=
  s.retire k .plain (insnWord (.ldb k f)) (Instr.legal (.ldb k f)) (memPr f)
    (stateBody fun _ s => loadNBody k 1 false f s)

/-- LDBS (R77, R97). -/
def execLdbs (k : CpId) (f : MemForm) (s : State) : Host.Outcome State Fault Refusal :=
  s.retire k .plain (insnWord (.ldbs k f)) (Instr.legal (.ldbs k f)) (memPr f)
    (stateBody fun _ s => loadNBody k 1 true f s)

/-- LDH (R77, R97). -/
def execLdh (k : CpId) (f : MemForm) (s : State) : Host.Outcome State Fault Refusal :=
  s.retire k .plain (insnWord (.ldh k f)) (Instr.legal (.ldh k f)) (memPr f)
    (stateBody fun _ s => loadNBody k 4 false f s)

/-- LDHS (R77, R97). -/
def execLdhs (k : CpId) (f : MemForm) (s : State) : Host.Outcome State Fault Refusal :=
  s.retire k .plain (insnWord (.ldhs k f)) (Instr.legal (.ldhs k f)) (memPr f)
    (stateBody fun _ s => loadNBody k 4 true f s)

/-- STB (R77, R103). -/
def execStb (k : CpId) (f : MemForm) (s : State) : Host.Outcome State Fault Refusal :=
  s.retire k .plain (insnWord (.stb k f)) (Instr.legal (.stb k f)) (memPr f) (stateBody fun _ s => storeNBody k 1 f s)

/-- STH (R77, R103). -/
def execSth (k : CpId) (f : MemForm) (s : State) : Host.Outcome State Fault Refusal :=
  s.retire k .plain (insnWord (.sth k f)) (Instr.legal (.sth k f)) (memPr f) (stateBody fun _ s => storeNBody k 4 f s)

/-! Capability loads and stores (R66, R79, R104). -/

/-- The effective address of a capability access: scaled by 16 (R90). -/
def State.capOperands (s : State) (k : CpId) (f : MForm) : Except Stop (Cap × Word) := do
  let r := s.cr k
  c13Check r [f.d, f.ci.setWidth 5]
  let a ← baseOp (s.ptrClass k) 1 r f.a
  .ok (r.cr (f.ci.setWidth 5), a.data + f.disp.signExtend 64 * 16)

/-- R66, R79: the pair at a physical address as a capability. Assumption 12 (DEDUCED). -/
def State.readPair (s : State) (k : CpId) (ea : Word) (pa : Nat) : Except Stop Cap := do
  let lo ← s.readWord k pa
  let hi ← s.readWord k (pa + 8)
  if lo.tag ≠ tagCAPL then .error (capFault 11 ea)
  else if lo.poison then .error (machineCheck 1 pa)
  else if hi.poison then .error (machineCheck 1 (pa + 8))
  else
    match Cap.ofPair lo hi with
    | some c => .ok c
    | none => .error (machineCheck 3 pa)

/-- LDC: the pair becomes c_d. -/
def ldcBody (k : CpId) (f : MForm) (s : State) : Except Stop State := do
  let (cap, ea) ← s.capOperands k f
  let (pa, d) ← s.access k cap pLDCAP ea 16 16 false
  let c ← s.readPair k ea pa
  let s := ((s.touchLoad k ea pa d).logLoad k c.pair.1).logLoad k c.pair.2
  .ok (s.modRegs k fun r => r.setC f.d c)

/-- LDC (R66, R104). -/
def execLdc (k : CpId) (f : MForm) (s : State) : Host.Outcome State Fault Refusal :=
  s.retire k .plain (insnWord (.ldc k f)) (Instr.legal (.ldc k f)) f.pr (stateBody fun _ s => ldcBody k f s)

/-- The two stores of a capability pair (R62, R104). -/
def capStores (pa : Nat) (c : Cap) (pol : Nat) : List Held :=
  [ .store ⟨pa, c.pair.1.data, 0xFF, some tagCAPL, none, true⟩ pol,
    .store ⟨pa + 8, c.pair.2.data, 0xFF, some tagCAPH, none, true⟩ pol ]

/-- STC: c_d becomes the pair. -/
def stcBody (k : CpId) (f : MForm) (s : State) : Except Stop State := do
  let (cap, ea) ← s.capOperands k f
  let (pa, d) ← s.access k cap pSTCAP ea 16 16 true
  .ok ((s.touchRlb k ea).forEach (capStores pa ((s.cr k).cr f.d) (policyOf d)) fun h s => s.hold k h)

/-- STC (R62, R104). -/
def execStc (k : CpId) (f : MForm) (s : State) : Host.Outcome State Fault Refusal :=
  s.retire k .plain (insnWord (.stc k f)) (Instr.legal (.stc k f)) f.pr (stateBody fun _ s => stcBody k f s)

/-- LDPC: a word load relative to the program counter, authorised by c15 (R101, R151). -/
def ldpcBody (k : CpId) (f : IForm) (pc : Word) (s : State) : Except Stop State := do
  let r ← s.loadWord k (s.cr k).c[15] (pc + sxImm f * 8)
  .ok (r.1.putG k f.d r.2)

/-- LDPC (R101). -/
def execLdpc (k : CpId) (f : IForm) (s : State) : Host.Outcome State Fault Refusal :=
  s.retire k .plain (insnWord (.ldpc k f)) (Instr.legal (.ldpc k f)) f.pr (stateBody (ldpcBody k f))

/-! ATOM (R105, R117). Each is a sync point and stands between checkpoints (R273, R286). -/

/-- The old word at the address and where it lies; the caches see the load. -/
def State.atomOperands (s : State) (k : CpId) (f : XForm) : Except Stop (State × Word × Nat × Word × TWord) := do
  let r := s.cr k
  c13Check r [f.ci.setWidth 5]
  let a ← baseOp (s.ptrClass k) 1 r f.a
  let (pa, d) ← s.access k (r.cr (f.ci.setWidth 5)) (pLOAD ||| pSTORE) a.data 8 8 true
  let w ← s.useWord k pa
  .ok (s.touchLoad k a.data pa d, a.data, pa, d, w)

/-- The old word goes to g_d. -/
def State.atomResult (s : State) (k : CpId) (f : XForm) (w : TWord) : State := (s.logLoad k (asG w)).putG k f.d (asG w)

/-- CASW stores g_b when the word equals g_d in tag and data. -/
def caswBody (k : CpId) (f : XForm) (s : State) : Except Stop State := do
  let b ← anyOp (s.cr k) f.b
  let d ← anyOp (s.cr k) f.d
  let (s, ea, pa, desc, w) ← s.atomOperands k f
  if w.tag = d.tag ∧ w.data = d.data then
    let s' ← s.storeAt k ea pa desc b
    .ok (s'.atomResult k f w)
  else .ok (s.atomResult k f w)

/-- CASW (R105). -/
def execCasw (k : CpId) (f : XForm) (s : State) : Host.Outcome State Fault Refusal :=
  s.retire k .sync (insnWord (.casw k f)) (Instr.legal (.casw k f)) f.pr (stateBody fun _ s => caswBody k f s)

/-- SWPW stores g_b. -/
def swpwBody (k : CpId) (f : XForm) (s : State) : Except Stop State := do
  let b ← anyOp (s.cr k) f.b
  let (s, ea, pa, desc, w) ← s.atomOperands k f
  let s' ← s.storeAt k ea pa desc b
  .ok (s'.atomResult k f w)

/-- SWPW (R105). -/
def execSwpw (k : CpId) (f : XForm) (s : State) : Host.Outcome State Fault Refusal :=
  s.retire k .sync (insnWord (.swpw k f)) (Instr.legal (.swpw k f)) f.pr (stateBody fun _ s => swpwBody k f s)

/-- FADDW adds g_b to a RAW or FIX word. -/
def faddwBody (k : CpId) (f : XForm) (s : State) : Except Stop State := do
  c13Check (s.cr k) [f.ci.setWidth 5]
  let _ ← baseOp (s.ptrClass k) 1 (s.cr k) f.a
  let b ← numOp 2 (s.cr k) f.b
  let (s, ea, pa, desc, w) ← s.atomOperands k f
  if !isNum w.tag then .error (tagFault 4 ea)
  else
    let s' ← s.storeAt k ea pa desc (.mk0 (numTag [w, b]) (w.data + b.data))
    .ok (s'.atomResult k f w)

/-- FADDW (R105). -/
def execFaddw (k : CpId) (f : XForm) (s : State) : Host.Outcome State Fault Refusal :=
  s.retire k .sync (insnWord (.faddw k f)) (Instr.legal (.faddw k f)) f.pr (stateBody fun _ s => faddwBody k f s)

/-! LINE (R106). -/

/-- The checks of a line operation on the 64-byte line that contains g_a. -/
def State.lineOperands (s : State) (k : CpId) (f : XForm) (perm : BitVec 12) (isStore : Bool) :
    Except Stop (Word × Nat × Word) := do
  let r := s.cr k
  c13Check r [f.ci.setWidth 5]
  let a ← baseOp (s.ptrClass k) 1 r f.a
  let ea := a.data &&& ~~~63#64
  let (pa, d) ← s.access k (r.cr (f.ci.setWidth 5)) perm ea 64 1 isStore
  .ok (ea, pa, d)

/-- A prefetch never faults: one that fails a check is dropped and counted. Assumption 23 (DEDUCED). -/
def prefetch (k : CpId) (perm : BitVec 12) (isStore : Bool) (f : XForm) (s : State) : State :=
  match s.lineOperands k f perm isStore with
  | .ok (ea, pa, d) => s.touchLoad k ea pa d
  | .error _ => s.countSite k 4

/-- PREF (R106). -/
def execPref (k : CpId) (f : XForm) (s : State) : Host.Outcome State Fault Refusal :=
  s.retire k .plain (insnWord (.pref k f)) (Instr.legal (.pref k f)) f.pr
    (stateBody fun _ s => .ok (prefetch k pLOAD false f s))

/-- PREFW (R106). -/
def execPrefw (k : CpId) (f : XForm) (s : State) : Host.Outcome State Fault Refusal :=
  s.retire k .plain (insnWord (.prefw k f)) (Instr.legal (.prefw k f)) f.pr
    (stateBody fun _ s => .ok (prefetch k pSTORE true f s))

/-- Eight words of RAW zero with collector bits 0b00. -/
def zeroLine (pa : Nat) (pol : Nat) : List Held :=
  (List.range 8).map fun i => .store (.fresh (pa + 8 * i) .raw0) pol

/-- LZERO. -/
def lzeroBody (k : CpId) (f : XForm) (s : State) : Except Stop State := do
  let (ea, pa, d) ← s.lineOperands k f pSTORE true
  .ok ((s.touchRlb k ea).forEach (zeroLine pa (policyOf d)) fun h s => s.hold k h)

/-- LZERO (R62, R106). -/
def execLzero (k : CpId) (f : XForm) (s : State) : Host.Outcome State Fault Refusal :=
  s.retire k .plain (insnWord (.lzero k f)) (Instr.legal (.lzero k f)) f.pr (stateBody fun _ s => lzeroBody k f s)

/-- CCLN and CFLS: the line operation waits for the checkpoint (R272). -/
def lineBody (k : CpId) (op : LineOp) (f : XForm) (s : State) : Except Stop State := do
  let (ea, pa, _) ← s.lineOperands k f pLOAD false
  .ok ((s.touchRlb k ea).hold k (.line op (lineOf pa)))

/-- CCLN (R106, R252). -/
def execCcln (k : CpId) (f : XForm) (s : State) : Host.Outcome State Fault Refusal :=
  s.retire k .plain (insnWord (.ccln k f)) (Instr.legal (.ccln k f)) f.pr (stateBody fun _ s => lineBody k .clean f s)

/-- CFLS (R106, R252, R253). -/
def execCfls (k : CpId) (f : XForm) (s : State) : Host.Outcome State Fault Refusal :=
  s.retire k .plain (insnWord (.cfls k f)) (Instr.legal (.cfls k f)) f.pr (stateBody fun _ s => lineBody k .flush f s)

/-! Resumable instructions (R119 to R123). -/

/-- R119, R285: between two units the leader of a pair stalls while its buffer or log is full. -/
def State.unitRoom (s : State) (k : CpId) : Bool := s.pairRoom k 2 4

/-- Run units until none remains or one stops; fuel bounds their number. A unit that stops has no effect.
Assumption 5 (DESIGN CHOICE). -/
def runUnits (k : CpId) (done : State → Bool) (unit : State → Except Stop State) : Nat → State → State × Option Stop
  | 0, s => (s, if done s then none else some .suspend)
  | fuel + 1, s =>
    if done s then (s, none)
    else if !s.unitRoom k then (s, some .suspend)
    else
      match poisonLast State.clean unit s with
      | .ok s' => runUnits k done unit fuel s'
      | .error e => (s, some e)

/-- Run units until one says that the instruction is complete; fuel bounds their number. Assumption 5 (DESIGN CHOICE). -/
def loopUnits (k : CpId) (unit : State → Except Stop (State × Bool)) : Nat → State → State × Option Stop
  | 0, s => (s, some .suspend)
  | fuel + 1, s =>
    if !s.unitRoom k then (s, some .suspend)
    else
      match poisonLast State.clean unit s with
      | .ok (s', true) => (s', none)
      | .ok (s', false) => loopUnits k unit fuel s'
      | .error e => (s, some e)

/-- R120: PS.RES is cleared when the instruction completes. -/
def State.endUnits (s : State) (k : CpId) : State := s.modRegs k fun r => r.withPs 16 16 0

/-- R119, R199: with an event pending that PS.EM lets in, a safe point between two units takes it; which one is a free
value. Assumption 5 (DESIGN CHOICE). -/
def State.unitLimit (s : State) (k : CpId) (fuel : Nat) : Nat :=
  if s.eventOpen k then min fuel (1 + s.freeVal.toNat % 512) else fuel

/-- What follows the units: the instruction's end, or a stop between units at which the pending event is due. -/
def State.afterUnits (k : CpId) (open_ : Bool) (fin : State → State) (r : State × Option Stop) : State × Option Stop :=
  let s := if open_ then r.1.freeStep else r.1
  match r.2 with
  | none => (fin (s.endUnits k), none)
  | some .suspend => (s.modCp k fun c => { c with evDue := open_ }, some .suspend)
  | some e => (s, some e)

/-- A resumable instruction: its units, then what it does at its end. Assumption 5 (DESIGN CHOICE). -/
def unitsBody (k : CpId) (done : State → Bool) (unit : State → Except Stop State) (fuel : State → Nat)
    (fin : State → State) : Word → State → State × Option Stop :=
  fun _ s => State.afterUnits k (s.eventOpen k) fin (runUnits k done unit (s.unitLimit k (fuel s)) s)

/-- A resumable instruction whose units find its end. Assumption 5 (DESIGN CHOICE). -/
def loopBody (k : CpId) (unit : State → Except Stop (State × Bool)) (fuel : State → Nat) :
    Word → State → State × Option Stop :=
  fun _ s => State.afterUnits k (s.eventOpen k) id (loopUnits k unit (s.unitLimit k (fuel s)) s)

/-- Units before which operands are checked even when no unit runs. -/
def withCheck (c : State → Except Stop Unit) (b : Word → State → State × Option Stop) :
    Word → State → State × Option Stop :=
  fun pc s =>
    match poisonLast State.clean c s with
    | .ok _ => b pc s
    | .error e => (s, some e)

/-- The fixed registers of BCOPY and BFILL (R121, R122). Of several that carry a wrong tag, the fault names g1 before g2
before g3: the model's order, Assumption 88 (DESIGN CHOICE). -/
def blkCheck (k : CpId) (src : Bool) (cs : List (BitVec 5)) (s : State) : Except Stop Unit := do
  let r := s.cr k
  c13Check r cs
  let _ ← numOp 5 r 1
  if src then let _ ← numOp 6 r 2
  let _ ← numOp 7 r 3
  .ok ()

/-- Words that remain. -/
def blkLeft (k : CpId) (s : State) : Nat := ((s.cr k).gr 3).data.toNat

/-- One word of BCOPY: as LDW through c_a, then STW through c_d, which consumes poison after its other checks (R79). -/
def bcopyUnit (k : CpId) (f : RForm) (s : State) : Except Stop State := do
  blkCheck k true [f.d, f.a] s
  let r := s.cr k
  let dst := (r.gr 1).data
  let src := (r.gr 2).data
  let (s, w) ← s.loadWord k (r.cr f.a) src
  let s ← s.storeWord k (r.cr f.d) dst w
  if w.poison then .error poisonReg
  else .ok (((s.putG k 1 (.ofRaw (dst + 8))).putG k 2 (.ofRaw (src + 8))).putG k 3 (.ofFix ((r.gr 3).data - 1)))

/-- BCOPY (R121, R123). -/
def execBcopy (k : CpId) (f : RForm) (s : State) : Host.Outcome State Fault Refusal :=
  s.retire k .unit (insnWord (.bcopy k f)) (Instr.legal (.bcopy k f)) f.pr
    (withCheck (blkCheck k true [f.d, f.a]) (unitsBody k (fun s => blkLeft k s == 0) (bcopyUnit k f) (blkLeft k) id))

/-- One word of BFILL: g2 as STW through c_d. -/
def bfillUnit (k : CpId) (f : RForm) (s : State) : Except Stop State := do
  blkCheck k false [f.d] s
  let r := s.cr k
  let dst := (r.gr 1).data
  let w ← anyOp r 2
  let s ← s.storeWord k (r.cr f.d) dst w
  .ok ((s.putG k 1 (.ofRaw (dst + 8))).putG k 3 (.ofFix ((r.gr 3).data - 1)))

/-- BFILL (R121). -/
def execBfill (k : CpId) (f : RForm) (s : State) : Host.Outcome State Fault Refusal :=
  s.retire k .unit (insnWord (.bfill k f)) (Instr.legal (.bfill k f)) f.pr
    (withCheck (blkCheck k false [f.d]) (unitsBody k (fun s => blkLeft k s == 0) (bfillUnit k f) (blkLeft k) id))

end Sys2Proof.Machine
end

