-- ==== Sys2Proof/Machine/Capability.lean ====
section
/-!
DEFINITION. The CAP class (R187 to R192) and the return-stack transfers SAVE.RS and LOAD.RS (R121, R122).
-/

namespace Sys2Proof.Machine

/-! CAP (R192). Every fault but the tag fault is a capability fault. -/

/-- CMOV. -/
def cmovBody (f : RForm) (r : CpRegs) : Except Stop CpRegs := do
  c13Check r [f.d, f.a]
  .ok (r.setC f.d (r.cr f.a))

/-- CMOV (R192). -/
def execCmov (k : CpId) (f : RForm) (s : State) : Host.Outcome State Fault Refusal :=
  regInsn s k (.cmov k f) f.pr (cmovBody f)

/-- CBND: base from g_b, length from g_(b+1). -/
def cbndBody (f : RForm) (r : CpRegs) : Except Stop CpRegs := do
  c13Check r [f.d, f.a]
  let b ← numOp 2 r f.b
  let n ← numOp 3 r (f.b + 1)
  let c := r.cr f.a
  if c.isSealed then .error (capFault 6)
  else if b.data.toNat < c.base.toNat ∨ c.base.toNat + c.len.toNat < b.data.toNat + n.data.toNat then .error (capFault 5)
  else .ok (r.setC f.d { c with base := b.data, len := n.data.setWidth 40 })

/-- CBND (R192). -/
def execCbnd (k : CpId) (f : RForm) (s : State) : Host.Outcome State Fault Refusal :=
  regInsn s k (.cbnd k f) f.pr (cbndBody f)

/-- CPERM. -/
def cpermBody (f : RForm) (r : CpRegs) : Except Stop CpRegs := do
  c13Check r [f.d, f.a]
  let b ← numOp 2 r f.b
  let c := r.cr f.a
  if c.isSealed then .error (capFault 6)
  else .ok (r.setC f.d { c with perms := c.perms &&& b.data.setWidth 12 })

/-- CPERM (R192). -/
def execCperm (k : CpId) (f : RForm) (s : State) : Host.Outcome State Fault Refusal :=
  regInsn s k (.cperm k f) f.pr (cpermBody f)

/-- CSEAL. -/
def csealBody (f : RForm) (r : CpRegs) : Except Stop CpRegs := do
  c13Check r [f.d, f.a, f.b]
  let c := r.cr f.a
  let b := r.cr f.b
  if c.isSealed || b.isSealed then .error (capFault 6)
  else if b.perms &&& pSEAL ≠ pSEAL then .error (capFault 4)
  else if 255 < b.base.toNat ∨ b.len = 0 then .error (capFault 10)
  else .ok (r.setC f.d { c with isSealed := true, otype := b.base.setWidth 8 })

/-- CSEAL (R192). -/
def execCseal (k : CpId) (f : RForm) (s : State) : Host.Outcome State Fault Refusal :=
  regInsn s k (.cseal k f) f.pr (csealBody f)

/-- CUNSEAL: the object type is kept. Assumption 16 (DEDUCED). -/
def cunsealBody (f : RForm) (r : CpRegs) : Except Stop CpRegs := do
  c13Check r [f.d, f.a, f.b]
  let c := r.cr f.a
  let b := r.cr f.b
  if !c.isSealed || !b.covers c.otype.toNat 1 then .error (capFault 10)
  else if b.isSealed then .error (capFault 6)
  else if b.perms &&& pUNSEAL ≠ pUNSEAL then .error (capFault 4)
  else .ok (r.setC f.d { c with isSealed := false })

/-- CUNSEAL (R192). -/
def execCunseal (k : CpId) (f : RForm) (s : State) : Host.Outcome State Fault Refusal :=
  regInsn s k (.cunseal k f) f.pr (cunsealBody f)

/-- The CGET instructions: RAW of a property of c_a. -/
def cgetBody (p : Cap → Word) (f : RForm) (r : CpRegs) : Except Stop CpRegs := do
  c13Check r [f.a]
  .ok (r.setG f.d (.ofRaw (p (r.cr f.a))))

/-- R192: permissions, object type and sealed bit. -/
def capProps (c : Cap) : Word :=
  c.perms.setWidth 64 ||| (c.otype.setWidth 64 <<< 12) ||| (if c.isSealed then 0x100000 else 0)

/-- CGETB (R192). -/
def execCgetb (k : CpId) (f : RForm) (s : State) : Host.Outcome State Fault Refusal :=
  regInsn s k (.cgetb k f) f.pr (cgetBody (fun c => c.base) f)

/-- CGETL (R192). -/
def execCgetl (k : CpId) (f : RForm) (s : State) : Host.Outcome State Fault Refusal :=
  regInsn s k (.cgetl k f) f.pr (cgetBody (fun c => c.len.setWidth 64) f)

/-- CGETP (R192). -/
def execCgetp (k : CpId) (f : RForm) (s : State) : Host.Outcome State Fault Refusal :=
  regInsn s k (.cgetp k f) f.pr (cgetBody capProps f)

/-- CTEST. -/
def ctestBody (f : RForm) (r : CpRegs) : Except Stop CpRegs := do
  c13Check r [f.a]
  let b ← numOp 2 r f.b
  .ok (r.putP f.d ((r.cr f.a).grants (b.data.setWidth 12)))

/-- CTEST (R192). -/
def execCtest (k : CpId) (f : RForm) (s : State) : Host.Outcome State Fault Refusal :=
  regInsn s k (.ctest k f) f.pr (ctestBody f)

/-- The c registers of a mask become null, but those spared. -/
def CpRegs.clearC (r : CpRegs) (mask : Word) (spare : List Nat) : CpRegs :=
  { r with c := Vector.ofFn fun i =>
      if bit mask i.val && !spare.contains i.val then Cap.null else r.c[i] }

/-- CCLR: bit 15 is ignored, bit 13 needs SYS authority (R190). -/
def cclrBody (f : RForm) (r : CpRegs) : Except Stop CpRegs := do
  if bit (r.gr f.a).data 13 ∧ r.sys = false then .error (capFault 7)
  else
    let a ← numOp 1 r f.a
    .ok (r.clearC a.data [15])

/-- CCLR (R192). -/
def execCclr (k : CpId) (f : RForm) (s : State) : Host.Outcome State Fault Refusal :=
  regInsn s k (.cclr k f) f.pr (cclrBody f)

/-! RSTK (R121, R122). -/

/-- One entry of SAVE.RS: the oldest, stored as CODE at g_a. -/
def saveRsUnit (k : CpId) (f : RForm) (s : State) : Except Stop (State × Bool) := do
  let r := s.cr k
  c13Check r [f.d]
  let a ← numOp 1 r f.a
  let b ← numOp 2 r f.b
  match r.rs.getLast? with
  | none => .ok (s, true)
  | some e =>
    if b.data = 0 then .ok (s, true)
    else
      let s ← s.storeWord k (r.cr f.d) a.data (.ofCode e)
      let s := s.modRegs k fun r => { r with rs := r.rs.dropLast }
      .ok ((s.putG k f.a (.ofRaw (a.data + 8))).putG k f.b (.ofFix (b.data - 1)), false)

/-- SAVE.RS (R121). -/
def execSaveRs (k : CpId) (f : RForm) (s : State) : Host.Outcome State Fault Refusal :=
  s.retire k .unit (insnWord (.saveRs k f)) (Instr.legal (.saveRs k f)) f.pr
    (loopBody k (saveRsUnit k f) fun _ => 33)

/-- One entry of LOAD.RS: the CODE word below g_a becomes the oldest. -/
def loadRsUnit (k : CpId) (f : RForm) (s : State) : Except Stop (State × Bool) := do
  let r := s.cr k
  c13Check r [f.d]
  let a ← numOp 1 r f.a
  let b ← numOp 2 r f.b
  if b.data = 0 ∨ 32 ≤ r.rs.length then .ok (s, true)
  else
    let ea := a.data - 8
    let (pa, d) ← s.access k (r.cr f.d) pLOAD ea 8 8 false
    let w ← s.readWord k pa
    if w.tag ≠ tagCODE then .error (tagFault 4 ea)
    else if w.poison then .error (machineCheck 1 pa)
    else
      let s := (s.touchLoad k ea pa d).logLoad k w
      let s := s.modRegs k fun r => { r with rs := r.rs ++ [w.data] }
      .ok ((s.putG k f.a (.ofRaw ea)).putG k f.b (.ofFix (b.data - 1)), false)

/-- LOAD.RS (R121, R122). -/
def execLoadRs (k : CpId) (f : RForm) (s : State) : Host.Outcome State Fault Refusal :=
  s.retire k .unit (insnWord (.loadRs k f)) (Instr.legal (.loadRs k f)) f.pr
    (loopBody k (loadRsUnit k f) fun _ => 33)

end Sys2Proof.Machine
end

