-- ==== Sys2Proof/Machine/Ctrl.lean ====
section
/-!
DEFINITION. Control transfer: BR, CALL, JR, CALLR, RET, TDISP and RSDEPTH (R107 to R109, R137), with the return stack under
PS.RSO.
-/

namespace Sys2Proof.Machine

/-- A branch: the program counter becomes the checked target (R107). -/
def jumpBody (k : CpId) (t : Word) (s : State) : Except Stop State := do
  let r ← branchTo (s.cr k) t
  .ok (s.modRegs k fun _ => r)

/-- BR (R107). -/
def execBr (k : CpId) (f : BForm) (s : State) : Host.Outcome State Fault Refusal :=
  s.retire k .plain (insnWord (.br k f)) (Instr.legal (.br k f)) f.pr
    (stateBody fun pc s => jumpBody k (pc + brOffset f) s)

/-- JR: the target must be tagged CODE (R99, R107). -/
def jrBody (k : CpId) (f : RForm) (s : State) : Except Stop State := do
  let a ← codeOp (s.cr k) f.a
  jumpBody k a.data s

/-- JR (R107). -/
def execJr (k : CpId) (f : RForm) (s : State) : Host.Outcome State Fault Refusal :=
  s.retire k .plain (insnWord (.jr k f)) (Instr.legal (.jr k f)) f.pr (stateBody fun _ s => jrBody k f s)

/-- R108: a return-stack entry is pushed; a full stack loses its oldest. -/
def CpRegs.pushRs (r : CpRegs) (e : Word) : CpRegs := { r with rs := (e :: r.rs).take 32 }

/-- R108: CALL and CALLR to a target, from the instruction at pc. -/
def callBody (k : CpId) (t pc : Word) (s : State) : Except Stop State := do
  let r := s.cr k
  if r.rs.length = 32 ∧ r.rso = true then .error (stackTrap 1)
  else
    let r ← branchTo r t
    let s := if r.rs.length = 32 then s.countSite k 5 else s
    .ok (s.modRegs k fun _ => (r.pushRs (pc + 4)).setG 31 (.ofCode (pc + 4)))

/-- CALL (R107, R108). -/
def execCall (k : CpId) (f : BForm) (s : State) : Host.Outcome State Fault Refusal :=
  s.retire k .plain (insnWord (.call k f)) (Instr.legal (.call k f)) f.pr
    (stateBody fun pc s => callBody k (pc + brOffset f) pc s)

/-- CALLR: g_a is read before g31 is written (R91). -/
def callrBody (k : CpId) (f : RForm) (pc : Word) (s : State) : Except Stop State := do
  let a ← codeOp (s.cr k) f.a
  callBody k a.data pc s

/-- CALLR (R91, R108). -/
def execCallr (k : CpId) (f : RForm) (s : State) : Host.Outcome State Fault Refusal :=
  s.retire k .plain (insnWord (.callr k f)) (Instr.legal (.callr k f)) f.pr (stateBody (callrBody k f))

/-- RET (R108): the return stack checks the target in g31. -/
def retBody (k : CpId) (s : State) : Except Stop State := do
  let r := s.cr k
  if r.rs = [] ∧ r.rso = true then .error (stackTrap 2)
  else if (r.gr 31).tag ≠ tagCODE then .error (flowFault 1)
  else
    let w ← unpoisoned (r.gr 31)
    match r.rs with
    | [] =>
      let s' ← jumpBody k w.data s
      .ok (s'.countSite k 6)
    | e :: t =>
      if w.data ≠ e then .error (flowFault 2)
      else jumpBody k w.data (s.modRegs k fun r => { r with rs := t })

/-- RET (R108). -/
def execRet (k : CpId) (f : RForm) (s : State) : Host.Outcome State Fault Refusal :=
  s.retire k .plain (insnWord (.ret k f)) (Instr.legal (.ret k f)) f.pr (stateBody fun _ s => retBody k s)

/-- R137: the slot that TDISP selects for tag t, first tag b, n slots. -/
def tdispSlot (t b n : Nat) : Nat := if b ≤ t ∧ t < b + n then t - b else n

/-- TDISP: a branch by the type tag of g_a. -/
def tdispBody (k : CpId) (f : IForm) (pc : Word) (s : State) : Except Stop State := do
  let a ← anyOp (s.cr k) f.a
  let slot := tdispSlot a.tag.toNat (f.imm.extractLsb' 0 6).toNat (f.imm.extractLsb' 6 6).toNat
  jumpBody k (pc + 4 + BitVec.ofNat 64 (4 * slot)) s

/-- TDISP (R137). -/
def execTdisp (k : CpId) (f : IForm) (s : State) : Host.Outcome State Fault Refusal :=
  s.retire k .plain (insnWord (.tdisp k f)) (Instr.legal (.tdisp k f)) f.pr (stateBody (tdispBody k f))

/-- RSDEPTH (R98). -/
def execRsdepth (k : CpId) (f : RForm) (s : State) : Host.Outcome State Fault Refusal :=
  regInsn s k (.rsdepth k f) f.pr
    (fun r => .ok (r.setG f.d (.ofFix (BitVec.ofNat 64 r.rs.length))))

end Sys2Proof.Machine
end

