-- ==== Sys2Proof/Machine/Dec.lean ====
section
/-!
DEFINITION. Packed decimal: DADD, DSUB, DCMP and DVAL (R173 to R177).
-/

namespace Sys2Proof.Machine

/-- R174: a valid sign code; whether it is negative. -/
def decSign (v : Nat) : Option Bool :=
  let c := v % 16
  if c < 0xA then none else some (c == 0xB || c == 0xD)

/-- Digit k of an operand of 128 bits (R173). -/
def decDigit (v k : Nat) : Nat := v / 16 ^ (k + 1) % 16

/-- Digits lo to hi − 1 are decimal, and those at L and above are zero (R173, R176). -/
def decValid (v L lo hi : Nat) : Bool :=
  (List.range hi).all fun k => decide (k < lo) || (if k < L then decide (decDigit v k ≤ 9) else decide (decDigit v k = 0))

/-- The magnitude of digits lo to hi − 1. -/
def decMag (v lo : Nat) : Nat → Nat
  | 0 => 0
  | n + 1 => decDigit v lo + 10 * decMag v (lo + 1) n

/-- n decimal digits of a value as nibbles, digit 0 lowest. -/
def bcd (v : Nat) : Nat → Nat
  | 0 => 0
  | n + 1 => v % 10 + 16 * bcd (v / 10) n

/-- An operand of L digits: sign and magnitude, when valid. -/
def decParse (v L : Nat) : Option (Bool × Nat) :=
  match decSign v with
  | some neg => if decValid v L 0 31 then some (neg, decMag v 0 31) else none
  | none => none

/-- The control word (R175). -/
structure DecCtl where
  l1 : Nat
  l2 : Nat
  c1 : Nat
  c2 : Nat
  step : Nat
  carry : Nat
  deriving DecidableEq, Repr

def DecCtl.ofWord (w : Word) : DecCtl := ⟨bits w 4 0, bits w 12 8, bits w 27 24, bits w 31 28, bits w 17 16, bits w 18 18⟩

/-- Either length above 16: the instruction runs as two units (R177). -/
def DecCtl.long (c : DecCtl) : Bool := decide (16 < c.l1 ∨ 16 < c.l2)

/-- R175, R177: a control word that an instruction accepts; dval has no second operand. A fresh start, and an instruction
that completes in one step, want no progress; one that resumes wants a STEP of its own. Assumption 19 (DEDUCED). -/
def decCtlOk (w : Word) (dval fresh : Bool) (steps : List Nat) : Bool :=
  let c := DecCtl.ofWord w
  decide (1 ≤ c.l1) && (if dval then c.l2 == 0 && c.c2 == 0 else decide (1 ≤ c.l2))
    && bits w 63 32 == 0 && bits w 23 19 == 0 && bits w 15 13 == 0 && bits w 7 5 == 0
    && (if fresh || !c.long then c.step == 0 && c.carry == 0 else steps.contains c.step)

/-- What a DEC instruction works on: control, operand 1 with its place, operand 2. -/
structure DecRun where
  ctl : DecCtl
  pa1 : Nat
  d1 : Word
  v1 : Nat
  v2 : Nat
  deriving DecidableEq, Repr

/-- A DEC word of an operand (R176). -/
def State.decWord (s : State) (k : CpId) (ea : Word) (pa : Nat) : Except Stop Word := do
  let w ← s.readWord k pa
  if w.tag ≠ tagDEC then .error (tagFault 4 ea)
  else if w.poison then .error (machineCheck 1 pa) else .ok w.data

/-- An operand of L digits through c_ci: its place and its value. -/
def State.decOperand (s : State) (k : CpId) (ci : Nat) (perm : BitVec 12) (st : Bool) (ea : Word) (L : Nat) :
    Except Stop (State × Nat × Word × Nat) := do
  let n := if L ≤ 15 then 8 else 16
  let cap := (s.cr k).cr (BitVec.ofNat 5 ci)
  let (pa, d) ← s.access k cap perm ea n n st
  let lo ← s.decWord k ea pa
  let hi ← if n = 16 then s.decWord k (ea + 8) (pa + 8) else .ok 0
  let s := (s.touchLoad k ea pa d).logLoad k (.mk0 tagDEC lo)
  let s := if n = 16 then s.logLoad k (.mk0 tagDEC hi) else s
  .ok (s, pa, d, lo.toNat + 2 ^ 64 * hi.toNat)

/-- Operands and control word of one unit, with every check (R175, R176, R190). The order of the checks, g_d before g_a
before g_b, then the control word, then c13, is the model's, Assumption 88 (DESIGN CHOICE). Assumption 19 (DEDUCED). -/
def State.decSetup (s : State) (k : CpId) (f : RForm) (dval store fresh : Bool) (steps : List Nat) :
    Except Stop (State × DecRun) := do
  let r := s.cr k
  let c ← numOp 0 r f.d
  let a ← baseOp (s.ptrClass k) 1 r f.a
  let b ← if dval then .ok TWord.raw0 else baseOp (s.ptrClass k) 2 r f.b
  if !decCtlOk c.data dval fresh steps then .error illegalOperand
  else
    let ctl := DecCtl.ofWord c.data
    c13Check r ([BitVec.ofNat 5 ctl.c1] ++ if dval then [] else [BitVec.ofNat 5 ctl.c2])
    let (s, pa1, d1, v1) ← s.decOperand k ctl.c1 (if store then pLOAD ||| pSTORE else pLOAD) store a.data ctl.l1
    if dval then .ok (s, ⟨ctl, pa1, d1, v1, 0⟩)
    else
      let (s, _, _, v2) ← s.decOperand k ctl.c2 pLOAD false b.data ctl.l2
      .ok (s, ⟨ctl, pa1, d1, v1, v2⟩)

/-- A result word is stored tagged DEC (R176). -/
def State.decStore (s : State) (k : CpId) (pa : Nat) (d : Word) (v : Nat) : State :=
  s.hold k (.store (.ofWord pa (.mk0 tagDEC (BitVec.ofNat 64 v))) (policyOf d))

/-- The instruction completes with a result code and its exceptions (R176). Assumption 19 (DEDUCED). -/
def State.decFinish (s : State) (k : CpId) (f : RForm) (pc : Word) (insn : BitVec 32) (code : Nat) (x : Exc) : State :=
  ((s.putG k f.d (.ofFix (BitVec.ofNat 64 code))).endUnits k).raiseExc k pc insn x

/-- Unit 1 is complete: STEP and CARRY stand in the control word (R177). -/
def State.decProgress (s : State) (k : CpId) (f : RForm) (step carry : Nat) : State :=
  let w := (s.cr k).gr f.d
  s.putG k f.d { w with data := insBits (insBits w.data 17 16 step) 18 18 carry }

/-- The result code of a sum (R176). -/
def decCode (ovf zero neg : Bool) : Nat := if ovf then 3 else if zero then 0 else if neg then 1 else 2
/-- The exception of a result code: DOV for 3. -/
def decExc (code : Nat) : Exc := if code = 3 then xDOV else 0
/-- A sign nibble of a result (R174). -/
def decSignCode (neg : Bool) : Nat := if neg then 0xD else 0xC

/-- DADD and DSUB in one step, or their first unit: the state, and whether the instruction is complete. -/
def decSumFirst (k : CpId) (sub : Bool) (f : RForm) (pc : Word) (insn : BitVec 32) (s : State) (x : DecRun) :
    State × Bool :=
  match decParse x.v1 x.ctl.l1, decParse x.v2 x.ctl.l2 with
  | some (n1, m1), some (n2, m2) =>
    let e2 := xor n2 sub
    let t := (if n1 then -(m1 : Int) else m1) + (if e2 then -(m2 : Int) else m2)
    let neg := decide (t < 0)
    let v := decSignCode neg + 16 * bcd t.natAbs x.ctl.l1
    let s := s.decStore k x.pa1 x.d1 (v % 2 ^ 64)
    if x.ctl.long then
      let lo := fun (m : Nat) => m % 10 ^ 15
      let step := if n1 = e2 ∨ m2 < m1 then 1 else 2
      let carry := if n1 = e2 then decide (10 ^ 15 ≤ lo m1 + lo m2)
        else if m2 < m1 then decide (lo m1 < lo m2) else decide (lo m2 < lo m1)
      (s.decProgress k f step carry.toNat, false)
    else
      let s := if 16 ≤ x.ctl.l1 then s.decStore k (x.pa1 + 8) x.d1 (v / 2 ^ 64) else s
      let code := decCode (decide (10 ^ x.ctl.l1 ≤ t.natAbs)) (t == 0) neg
      (s.decFinish k f pc insn code (decExc code), true)
  | _, _ => (s.decFinish k f pc insn 4 xDD, true)

/-- R177: the low 15 digits of the true result, from the L digits stored and operand 2. -/
def decLow (L stored low2 : Nat) (add : Bool) (step : Nat) : Nat :=
  let m : Int := 10 ^ L
  let r : Int := if add then low2 + (stored - low2) % m
    else if step = 1 then (stored + low2) % m - low2 else low2 - (low2 - stored) % m
  if 15 ≤ L then stored else (r % 10 ^ 15).toNat

/-- The second unit of DADD and DSUB. -/
def decSumSecond (k : CpId) (sub : Bool) (f : RForm) (pc : Word) (insn : BitVec 32) (s : State) (x : DecRun) : State :=
  if !(decValid x.v1 x.ctl.l1 15 31 && decValid x.v2 x.ctl.l2 15 31) then s.decFinish k f pc insn 4 xDD
  else
    let neg := (decSign x.v1).getD false
    let e2 := xor ((decSign x.v2).getD false) sub
    let add := x.ctl.step == 1 && neg == e2
    let h1 : Int := decMag x.v1 15 16
    let h2 : Int := decMag x.v2 15 16
    let c : Int := x.ctl.carry
    let high := ((if add then h1 + h2 + c else if x.ctl.step = 1 then h1 - h2 - c else h2 - h1 - c) % 10 ^ 17).toNat
    let low := decLow x.ctl.l1 (decMag x.v1 0 15) (decMag x.v2 0 15) add x.ctl.step
    let ovf := if 16 ≤ x.ctl.l1 then decide (10 ^ (x.ctl.l1 - 15) ≤ high)
      else decide (high ≠ 0) || decide (10 ^ x.ctl.l1 ≤ low)
    let s := if 16 ≤ x.ctl.l1 then s.decStore k (x.pa1 + 8) x.d1 (bcd high (x.ctl.l1 - 15)) else s
    let code := decCode ovf (high == 0 && low == 0) neg
    s.decFinish k f pc insn code (decExc code)

/-- The order of two signed magnitudes as a result code; negative zero equals positive zero. -/
def decOrder (n1 : Bool) (m1 : Nat) (n2 : Bool) (m2 : Nat) : Nat :=
  let v1 : Int := if n1 then -(m1 : Int) else m1
  let v2 : Int := if n2 then -(m2 : Int) else m2
  if v1 = v2 then 0 else if v1 < v2 then 1 else 2

/-- DCMP in one step, or its first unit. -/
def decCmpFirst (k : CpId) (f : RForm) (pc : Word) (insn : BitVec 32) (s : State) (x : DecRun) : State × Bool :=
  match decParse x.v1 x.ctl.l1, decParse x.v2 x.ctl.l2 with
  | some (n1, m1), some (n2, m2) =>
    if x.ctl.long then
      let l1 := m1 % 10 ^ 15
      let l2 := m2 % 10 ^ 15
      (s.decProgress k f (if l1 < l2 then 1 else if l1 = l2 then 2 else 3) 0, false)
    else (s.decFinish k f pc insn (decOrder n1 m1 n2 m2) 0, true)
  | _, _ => (s.decFinish k f pc insn 4 xDD, true)

/-- The second unit of DCMP: the high words, then STEP for the low ones. -/
def decCmpSecond (k : CpId) (f : RForm) (pc : Word) (insn : BitVec 32) (s : State) (x : DecRun) : State :=
  if !(decValid x.v1 x.ctl.l1 15 31 && decValid x.v2 x.ctl.l2 15 31) then s.decFinish k f pc insn 4 xDD
  else
    let n1 := (decSign x.v1).getD false
    let n2 := (decSign x.v2).getD false
    let h1 := decMag x.v1 15 16
    let h2 := decMag x.v2 15 16
    let zero := h1 == 0 && h2 == 0 && x.ctl.step == 2 && decMag x.v1 0 15 == 0
    let lower := decide (h1 < h2) || (h1 == h2 && x.ctl.step == 1)
    let equal := h1 == h2 && x.ctl.step == 2
    let code := if zero then 0
      else if n1 != n2 then (if n1 then 1 else 2)
      else if equal then 0 else if lower != n1 then 1 else 2
    s.decFinish k f pc insn code 0

/-- DVAL in one step, or its first unit. -/
def decValFirst (k : CpId) (f : RForm) (pc : Word) (insn : BitVec 32) (s : State) (x : DecRun) : State × Bool :=
  match decParse x.v1 x.ctl.l1 with
  | some _ => if x.ctl.long then (s.decProgress k f 1 0, false) else (s.decFinish k f pc insn 0 0, true)
  | none => (s.decFinish k f pc insn 4 0, true)

/-- The second unit of DVAL. -/
def decValSecond (k : CpId) (f : RForm) (pc : Word) (insn : BitVec 32) (s : State) (x : DecRun) : State :=
  s.decFinish k f pc insn (if decValid x.v1 x.ctl.l1 15 31 then 0 else 4) 0

/-- A DEC instruction: what it stores to, the STEP values it resumes from, its first unit and its second. With both lengths
16 or less PS.RES makes no difference: the predicate is evaluated and the instruction starts afresh. A pending event may be
taken at the safe point between the units (R119, R199). Assumptions 5 (DESIGN CHOICE), 19 (DEDUCED). -/
def decBody (k : CpId) (f : RForm) (insn : BitVec 32) (dval store : Bool) (steps : List Nat)
    (first : RForm → Word → BitVec 32 → State → DecRun → State × Bool)
    (second : RForm → Word → BitVec 32 → State → DecRun → State) : Word → State → State × Option Stop :=
  fun pc s =>
    let two := fun (s : State) =>
      match s.decSetup k f dval store false steps with
      | .ok (s, x) => (second f pc insn s x, none)
      | .error e => (s, some e)
    match s.decSetup k f dval store (!(s.cr k).res) steps with
    | .error e => (s, some e)
    | .ok (s', x) =>
      if x.ctl.step ≠ 0 then two s
      else
        match first f pc insn s' x with
        | (s', true) => (s', none)
        | (s', false) =>
          if s.eventOpen k && s.freeVal.getLsbD 0 then (s'.freeStep.modCp k fun c => { c with evDue := true }, some .suspend)
          else two (if s.eventOpen k then s'.freeStep else s')

/-- A DEC instruction is resumable when an operand is longer than 16 digits (R121, R177). -/
def State.decKind (s : State) (k : CpId) (f : RForm) : Kind :=
  if (DecCtl.ofWord ((s.cr k).gr f.d).data).long then .unit else .plain

/-- DADD (R176, R177). -/
def execDadd (k : CpId) (f : RForm) (s : State) : Host.Outcome State Fault Refusal :=
  s.retire k (s.decKind k f) (insnWord (.dadd k f)) (Instr.legal (.dadd k f)) f.pr
    (decBody k f (insnWord (.dadd k f)) false true [1, 2] (decSumFirst k false) (decSumSecond k false))

/-- DSUB (R176, R177). -/
def execDsub (k : CpId) (f : RForm) (s : State) : Host.Outcome State Fault Refusal :=
  s.retire k (s.decKind k f) (insnWord (.dsub k f)) (Instr.legal (.dsub k f)) f.pr
    (decBody k f (insnWord (.dsub k f)) false true [1, 2] (decSumFirst k true) (decSumSecond k true))

/-- DCMP (R176, R177). -/
def execDcmp (k : CpId) (f : RForm) (s : State) : Host.Outcome State Fault Refusal :=
  s.retire k (s.decKind k f) (insnWord (.dcmp k f)) (Instr.legal (.dcmp k f)) f.pr
    (decBody k f (insnWord (.dcmp k f)) false false [1, 2, 3] (decCmpFirst k) (decCmpSecond k))

/-- DVAL (R176, R177). -/
def execDval (k : CpId) (f : RForm) (s : State) : Host.Outcome State Fault Refusal :=
  s.retire k (s.decKind k f) (insnWord (.dval k f)) (Instr.legal (.dval k f)) f.pr
    (decBody k f (insnWord (.dval k f)) true false [1] (decValFirst k) (decValSecond k))

end Sys2Proof.Machine
end

