-- ==== Sys2Proof/Machine/Fp.lean ====
section
/-!
DEFINITION. Floating point (R165 to R172): exact dyadic values, one rounding under PS.RM, the flags of IEEE 754-2019, the
FP64, FP32 and CVT classes and the division and square-root steps.
-/

namespace Sys2Proof.Machine

/-- A binary format: exponent bits and fraction bits. -/
structure FFmt where
  eb : Nat
  mb : Nat
  deriving DecidableEq, Repr

abbrev FFmt.b64 : FFmt := ⟨11, 52⟩
abbrev FFmt.b32 : FFmt := ⟨8, 23⟩

/-- The format of an instruction. -/
def fmtOf (single : Bool) : FFmt := if single then .b32 else .b64

/-- The exponent of the least significant bit of a subnormal. -/
def FFmt.qmin (F : FFmt) : Int := 2 - (2 : Int) ^ (F.eb - 1) - F.mb
/-- Encodings of +∞, of the sign bit and of the canonical NaN (R167). -/
def FFmt.infBits (F : FFmt) : Nat := (2 ^ F.eb - 1) * 2 ^ F.mb
def FFmt.signBit (F : FFmt) : Nat := 2 ^ (F.eb + F.mb)
def FFmt.nanBits (F : FFmt) : Nat := F.infBits + 2 ^ (F.mb - 1)

/-- A floating-point datum; a finite one is ± m × 2^e. -/
inductive FVal where
  | nan (sig : Bool)
  | inf (neg : Bool)
  | fin (neg : Bool) (m : Nat) (e : Int)
  deriving DecidableEq, Repr

/-- The datum that an encoding stands for. -/
def FFmt.unpack (F : FFmt) (x : Nat) : FVal :=
  let neg := decide (x / F.signBit % 2 = 1)
  let ex := x / 2 ^ F.mb % 2 ^ F.eb
  let fr := x % 2 ^ F.mb
  if ex = 2 ^ F.eb - 1 then (if fr = 0 then .inf neg else .nan (decide (fr < 2 ^ (F.mb - 1))))
  else if ex = 0 then .fin neg fr F.qmin
  else .fin neg (fr + 2 ^ F.mb) (F.qmin + (ex - 1 : Nat))

/-- An encoding with its sign. -/
def FFmt.signed (F : FFmt) (neg : Bool) (x : Nat) : Nat := if neg then F.signBit + x else x

/-- R86: whether a magnitude q + rem ÷ d is rounded up to q + 1. -/
def roundsUp (rm : Nat) (neg : Bool) (q rem d : Nat) : Bool :=
  match rm with
  | 0 => decide (d < 2 * rem) || (decide (2 * rem = d) && decide (q % 2 = 1))
  | 1 => false
  | 2 => !neg && decide (rem ≠ 0)
  | _ => neg && decide (rem ≠ 0)

/-- m ÷ 2^sh rounded to an integer, and whether that is inexact. -/
def roundAt (rm : Nat) (neg : Bool) (m : Nat) (sh : Int) : Nat × Bool :=
  if sh ≤ 0 then (m * 2 ^ (-sh).toNat, false)
  else
    let d := 2 ^ sh.toNat
    (m / d + (if roundsUp rm neg (m / d) (m % d) d then 1 else 0), decide (m % d ≠ 0))

/-- R166: ± m × 2^e rounded once into the format, with its flags. Tininess is detected after rounding. -/
def FFmt.round (F : FFmt) (rm : Nat) (neg : Bool) (m : Nat) (e : Int) : Nat × Exc :=
  if m = 0 then (F.signed neg 0, 0)
  else
    let top : Int := Nat.log2 m + e
    let q := max (top - F.mb) F.qmin
    let (n, nx) := roundAt rm neg m (q - e)
    let code := n + (q - F.qmin).toNat * 2 ^ F.mb
    if F.infBits ≤ code then
      let big := rm = 0 ∨ (rm = 2 ∧ neg = false) ∨ (rm = 3 ∧ neg = true)
      (F.signed neg (if big then F.infBits else F.infBits - 1), xOF ||| xNX)
    else
      let n' := (roundAt rm neg m (top - F.mb - e)).1
      let top' := if n' = 2 ^ (F.mb + 1) then top + 1 else top
      (F.signed neg code,
        if nx then (if top' < F.qmin + F.mb then xUF ||| xNX else xNX) else 0)

/-- The canonical NaN, with NV for an invalid operation. -/
def FFmt.nan (F : FFmt) (inv : Bool) : Nat × Exc := (F.nanBits, if inv then xNV else 0)

def FVal.isNan : FVal → Bool
  | .nan _ => true
  | _ => false
def FVal.isSig : FVal → Bool
  | .nan b => b
  | _ => false
def FVal.isZero : FVal → Bool
  | .fin _ m _ => m == 0
  | _ => false
def FVal.neg : FVal → FVal
  | .nan b => .nan b
  | .inf b => .inf !b
  | .fin b m e => .fin (!b) m e
def FVal.sign : FVal → Bool
  | .nan _ => false
  | .inf b => b
  | .fin b _ _ => b

/-- ± m as an integer. -/
def signedInt (neg : Bool) (m : Nat) : Int := if neg then -(m : Int) else m

/-- A datum that is no NaN into a format. -/
def FFmt.pack (F : FFmt) (rm : Nat) : FVal → Nat × Exc
  | .nan b => F.nan b
  | .inf b => (F.signed b F.infBits, 0)
  | .fin b m e => F.round rm b m e

/-- a + b of exact data (R168); an exact zero sum of opposite signs is −0 only toward −∞. -/
def FFmt.addV (F : FFmt) (rm : Nat) (a b : FVal) : Nat × Exc :=
  match a, b with
  | .nan x, y => F.nan (x || y.isSig)
  | x, .nan y => F.nan (x.isSig || y)
  | .inf x, .inf y => if x = y then (F.signed x F.infBits, 0) else F.nan true
  | .inf x, _ => (F.signed x F.infBits, 0)
  | _, .inf y => (F.signed y F.infBits, 0)
  | .fin x m e, .fin y n g =>
    let lo := min e g
    let v := signedInt x (m * 2 ^ (e - lo).toNat) + signedInt y (n * 2 ^ (g - lo).toNat)
    if v = 0 then (F.signed (if x = y then x else rm == 3) 0, 0)
    else F.round rm (decide (v < 0)) v.natAbs lo

/-- The exact product; none for ∞ × 0. Neither operand is a NaN. -/
def FVal.mul (a b : FVal) : Option FVal :=
  match a, b with
  | .fin x m e, .fin y n g => some (.fin (xor x y) (m * n) (e + g))
  | a, b => if a.isZero || b.isZero then none else some (.inf (xor a.sign b.sign))

/-- a × b. -/
def FFmt.mulV (F : FFmt) (rm : Nat) (a b : FVal) : Nat × Exc :=
  if a.isNan || b.isNan then F.nan (a.isSig || b.isSig)
  else
    match a.mul b with
    | some p => F.pack rm p
    | none => F.nan true

/-- R167, R168: a × b + c with one rounding. -/
def FFmt.fmaV (F : FFmt) (rm : Nat) (a b c : FVal) : Nat × Exc :=
  if a.isNan || b.isNan then F.nan (a.isSig || b.isSig || c.isSig)
  else
    match a.mul b with
    | some p => F.addV rm p c
    | none => F.nan true

/-- How two data compare; none when one is a NaN. -/
def FVal.cmp (a b : FVal) : Option Ordering :=
  match a, b with
  | .nan _, _ => none
  | _, .nan _ => none
  | .inf x, .inf y => some (if x = y then .eq else if x then .lt else .gt)
  | .inf x, _ => some (if x then .lt else .gt)
  | _, .inf y => some (if y then .gt else .lt)
  | .fin x m e, .fin y n g =>
    let lo := min e g
    some (compare (signedInt x (m * 2 ^ (e - lo).toNat)) (signedInt y (n * 2 ^ (g - lo).toNat)))

/-- R168: minimumNumber, or maximumNumber when mx is set; −0 is below +0. -/
def FFmt.minmax (F : FFmt) (mx : Bool) (a b : FVal) : Nat × Exc :=
  let nv : Exc := if a.isSig || b.isSig then xNV else 0
  match a.cmp b with
  | none => if a.isNan && b.isNan then (F.nanBits, nv) else ((F.pack 0 (if a.isNan then b else a)).1, nv)
  | some o =>
    let aLow := match o with
      | .lt => true
      | .gt => false
      | .eq => a.sign
    ((F.pack 0 (if aLow != mx then a else b)).1, nv)

/-- R168: the one-hot class mask. -/
def FFmt.classMask (F : FFmt) (v : FVal) : Nat :=
  match v with
  | .nan b => if b then 2 ^ 8 else 2 ^ 9
  | .inf b => if b then 2 ^ 0 else 2 ^ 7
  | .fin b m _ =>
    if m = 0 then (if b then 2 ^ 3 else 2 ^ 4)
    else if m < 2 ^ F.mb then (if b then 2 ^ 2 else 2 ^ 5)
    else if b then 2 ^ 1 else 2 ^ 6

/-- a ÷ b as IEEE 754-2019 gives it (R171, R172). -/
def FFmt.divV (F : FFmt) (rm : Nat) (a b : FVal) : Nat × Exc :=
  match a, b with
  | .nan x, y => F.nan (x || y.isSig)
  | x, .nan y => F.nan (x.isSig || y)
  | .inf _, .inf _ => F.nan true
  | .inf x, y => (F.signed (xor x y.sign) F.infBits, 0)
  | x, .inf y => (F.signed (xor x.sign y) 0, 0)
  | .fin x m e, .fin y n g =>
    if n = 0 then (if m = 0 then F.nan true else (F.signed (xor x y) F.infBits, xDZ))
    else
      let q := m * 2 ^ 130 / n
      F.round rm (xor x y) (2 * q + (if m * 2 ^ 130 % n = 0 then 0 else 1)) (e - g - 131)

/-- The integer square root of x by bits, n the highest bit tried. -/
def isqrt (x : Nat) : Nat → Nat → Nat
  | 0, acc => if (acc + 1) * (acc + 1) ≤ x then acc + 1 else acc
  | n + 1, acc => isqrt x n (if (acc + 2 ^ (n + 1)) * (acc + 2 ^ (n + 1)) ≤ x then acc + 2 ^ (n + 1) else acc)

/-- The integer square root. -/
def natSqrt (x : Nat) : Nat := isqrt x (Nat.log2 x / 2 + 1) 0

/-- √a as IEEE 754-2019 gives it. -/
def FFmt.sqrtV (F : FFmt) (rm : Nat) (a : FVal) : Nat × Exc :=
  match a with
  | .nan x => F.nan x
  | .inf x => if x then F.nan true else (F.infBits, 0)
  | .fin x m e =>
    if m = 0 then (F.signed x 0, 0)
    else if x then F.nan true
    else
      let sh : Nat := if e % 2 = 0 then 130 else 131
      let w := m * 2 ^ sh
      let r := natSqrt w
      F.round rm false (2 * r + (if r * r = w then 0 else 1)) ((e - sh) / 2 - 1)

/-! Operands and results. -/

/-- R99, R165: an operand of an FP64 or FP32 instruction. -/
def fpOp (single : Bool) (opnd : Nat) (r : CpRegs) (i : BitVec 5) : Except Stop FVal := do
  let w ← if single then floatOp opnd r i else floOp opnd r i
  .ok ((fmtOf single).unpack w.data.toNat)

/-- A result: FLO, or RAW for binary32. -/
def fpWord (single : Bool) (x : Nat) : TWord := .mk0 (if single then tagRAW else tagFLO) (BitVec.ofNat 64 x)

/-- A result goes to g_d. -/
def CpRegs.fpResult (r : CpRegs) (single : Bool) (d : BitVec 5) (x : Nat × Exc) : CpRegs × Exc :=
  (r.setG d (fpWord single x.1), x.2)

/-- g_d ← g_a op g_b. -/
def fpBody2 (op : FFmt → Nat → FVal → FVal → Nat × Exc) (single : Bool) (f : RForm) (r : CpRegs) :
    Except Stop (CpRegs × Exc) := do
  let a ← fpOp single 1 r f.a
  let b ← fpOp single 2 r f.b
  .ok (r.fpResult single f.d (op (fmtOf single) r.rm a b))

/-- g_d ← op(g_a, g_b, g_d). -/
def fpBody3 (op : FFmt → Nat → FVal → FVal → FVal → Nat × Exc) (single : Bool) (f : RForm) (r : CpRegs) :
    Except Stop (CpRegs × Exc) := do
  let a ← fpOp single 1 r f.a
  let b ← fpOp single 2 r f.b
  let d ← fpOp single 0 r f.d
  .ok (r.fpResult single f.d (op (fmtOf single) r.rm a b d))

/-- p_d ← a compare: the value when ordered, the value when not, and whether a quiet NaN is invalid too. -/
def fpCmpBody (ok : Ordering → Bool) (unord quietNv : Bool) (single : Bool) (f : RForm) (r : CpRegs) :
    Except Stop (CpRegs × Exc) := do
  let a ← fpOp single 1 r f.a
  let b ← fpOp single 2 r f.b
  let v := match a.cmp b with
    | some o => ok o
    | none => unord
  let nv := a.isSig || b.isSig || (quietNv && (a.isNan || b.isNan))
  .ok (r.putP f.d v, if nv then xNV else 0)

/-- FADD (R168). -/
def execFadd (k : CpId) (single : Bool) (f : RForm) (s : State) : Host.Outcome State Fault Refusal :=
  arithInsn s k (.fadd k single f) f.pr (fpBody2 (fun F rm a b => F.addV rm a b) single f)

/-- FSUB (R168). -/
def execFsub (k : CpId) (single : Bool) (f : RForm) (s : State) : Host.Outcome State Fault Refusal :=
  arithInsn s k (.fsub k single f) f.pr (fpBody2 (fun F rm a b => F.addV rm a b.neg) single f)

/-- FMUL (R168). -/
def execFmul (k : CpId) (single : Bool) (f : RForm) (s : State) : Host.Outcome State Fault Refusal :=
  arithInsn s k (.fmul k single f) f.pr (fpBody2 (fun F rm a b => F.mulV rm a b) single f)

/-- FMADD (R167, R168). -/
def execFmadd (k : CpId) (single : Bool) (f : RForm) (s : State) : Host.Outcome State Fault Refusal :=
  arithInsn s k (.fmadd k single f) f.pr (fpBody3 (fun F rm a b d => F.fmaV rm a b d) single f)

/-- FMSUB (R168). -/
def execFmsub (k : CpId) (single : Bool) (f : RForm) (s : State) : Host.Outcome State Fault Refusal :=
  arithInsn s k (.fmsub k single f) f.pr (fpBody3 (fun F rm a b d => F.fmaV rm a b d.neg) single f)

/-- FNMADD (R168). -/
def execFnmadd (k : CpId) (single : Bool) (f : RForm) (s : State) : Host.Outcome State Fault Refusal :=
  arithInsn s k (.fnmadd k single f) f.pr (fpBody3 (fun F rm a b d => F.fmaV rm a.neg b d) single f)

/-- FMIN (R168). -/
def execFmin (k : CpId) (single : Bool) (f : RForm) (s : State) : Host.Outcome State Fault Refusal :=
  arithInsn s k (.fmin k single f) f.pr (fpBody2 (fun F _ a b => F.minmax false a b) single f)

/-- FMAX (R168). -/
def execFmax (k : CpId) (single : Bool) (f : RForm) (s : State) : Host.Outcome State Fault Refusal :=
  arithInsn s k (.fmax k single f) f.pr (fpBody2 (fun F _ a b => F.minmax true a b) single f)

/-- R167, R168: a change of the sign alone; no flag. -/
def fpSignBody (sg : Bool → Bool) (single : Bool) (f : RForm) (r : CpRegs) : Except Stop (CpRegs × Exc) := do
  let a ← fpOp single 1 r f.a
  let F := fmtOf single
  let v := match a with
    | .nan _ => F.nanBits
    | .inf b => F.signed (sg b) F.infBits
    | .fin b m e => (F.round 0 (sg b) m e).1
  .ok (r.fpResult single f.d (v, 0))

/-- FABS (R168). -/
def execFabs (k : CpId) (single : Bool) (f : RForm) (s : State) : Host.Outcome State Fault Refusal :=
  arithInsn s k (.fabs k single f) f.pr (fpSignBody (fun _ => false) single f)

/-- FNEG (R168). -/
def execFneg (k : CpId) (single : Bool) (f : RForm) (s : State) : Host.Outcome State Fault Refusal :=
  arithInsn s k (.fneg k single f) f.pr (fpSignBody (fun b => !b) single f)

/-- FCLASS: FIX of the mask; NV on a signalling NaN, as for any operation (R167). -/
def fclassBody (single : Bool) (f : RForm) (r : CpRegs) : Except Stop (CpRegs × Exc) := do
  let a ← fpOp single 1 r f.a
  let m := (fmtOf single).classMask a
  .ok (r.setG f.d (.ofFix (BitVec.ofNat 64 m)), if m = 2 ^ 8 then xNV else 0)

/-- FCLASS (R168). -/
def execFclass (k : CpId) (single : Bool) (f : RForm) (s : State) : Host.Outcome State Fault Refusal :=
  arithInsn s k (.fclass k single f) f.pr (fclassBody single f)

/-- FCMPEQ (R168). -/
def execFcmpeq (k : CpId) (single : Bool) (f : RForm) (s : State) : Host.Outcome State Fault Refusal :=
  arithInsn s k (.fcmpeq k single f) f.pr (fpCmpBody (fun o => o == .eq) false false single f)

/-- FCMPLT (R168). -/
def execFcmplt (k : CpId) (single : Bool) (f : RForm) (s : State) : Host.Outcome State Fault Refusal :=
  arithInsn s k (.fcmplt k single f) f.pr (fpCmpBody (fun o => o == .lt) false true single f)

/-- FCMPLE (R168). -/
def execFcmple (k : CpId) (single : Bool) (f : RForm) (s : State) : Host.Outcome State Fault Refusal :=
  arithInsn s k (.fcmple k single f) f.pr (fpCmpBody (fun o => o != .gt) false true single f)

/-- FCMPUN (R168). -/
def execFcmpun (k : CpId) (single : Bool) (f : RForm) (s : State) : Host.Outcome State Fault Refusal :=
  arithInsn s k (.fcmpun k single f) f.pr (fpCmpBody (fun _ => false) true false single f)

/-! Steps (R170 to R172). -/

/-- R170: the significand normalised to [1, 2) with 63 fraction bits, and the exponent. Zero, ∞ and NaN use the
significand field alone; a zero field stands for 1. -/
def FFmt.normal (F : FFmt) (x : Nat) : Nat × Int :=
  let lift := fun (m : Nat) (e : Int) => (m * 2 ^ (63 - Nat.log2 m), (Nat.log2 m : Int) + e)
  match F.unpack x with
  | .fin _ m e => if m = 0 then (2 ^ 63, 0) else lift m e
  | _ => ((x % 2 ^ F.mb + 2 ^ F.mb) * 2 ^ (63 - F.mb), 0)

/-- Zero, infinite or NaN. -/
def FFmt.special (F : FFmt) (x : Nat) : Bool :=
  match F.unpack x with
  | .fin _ m _ => m == 0
  | _ => true

/-- R170: the first approximation to 1 ÷ m: any value within the bound. Assumption 18 (DEDUCED). -/
def recip0 (m : Nat) : Nat :=
  let y := (Config.recipInit (BitVec.ofNat 64 m)).toNat
  if 2 ^ 62 < y ∧ y ≤ 2 ^ 63 ∧ y * m < 2 ^ 126 + 2 ^ 112 ∧ 2 ^ 126 < y * m + 2 ^ 112 then y
  else min (2 ^ 63) (2 ^ 126 / m + 1)

/-- R170: the first approximation to 1 ÷ √m, m doubled when the exponent is odd. Assumption 18 (DEDUCED). -/
def rsqrt0 (m : Nat) (odd : Bool) : Nat :=
  let n := if odd then 2 * m else m
  let y := (Config.rsqrtInit (BitVec.ofNat 64 m) odd).toNat
  if 2 ^ 62 < y ∧ y ≤ 2 ^ 63 ∧ y * y * n < (2 ^ 14 + 1) ^ 2 * 2 ^ 161 ∧ (2 ^ 14 - 1) ^ 2 * 2 ^ 161 < y * y * n then y
  else min (2 ^ 63) (natSqrt (2 ^ 189 / n) + 1)

/-- A fixed-point result num ÷ 2^sh; its rounding is not stated, and neither is a value outside the format.
Assumption 18 (DEDUCED). -/
def stepResult (y m : Nat) (num : Int) (sh : Nat) : Nat :=
  let q := num / (2 : Int) ^ sh
  if num < 0 ∨ (2 : Int) ^ 64 ≤ q + 1 then (Config.stepWild (BitVec.ofNat 64 y) (BitVec.ofNat 64 m)).toNat
  else
    q.toNat + (if num % (2 : Int) ^ sh ≠ 0 ∧ Config.stepRoundUp (BitVec.ofNat 64 y) (BitVec.ofNat 64 m) = true
      then 1 else 0)

/-- y × (2 − m × y). -/
def recipStep (y m : Nat) : Nat := stepResult y m (y * ((2 : Int) ^ 127 - m * y)) 126
/-- y × (3 − n × y²) ÷ 2. -/
def rsqrtStep (y n : Nat) : Nat := stepResult y n (y * (3 * (2 : Int) ^ 189 - n * y * y)) 190

/-- The y of the sequence of R172 for a divisor or operand. -/
def FFmt.recipSeq (F : FFmt) (x : Nat) : Nat :=
  let m := (F.normal x).1
  if F.mb = 52 then recipStep (recipStep (recip0 m) m) m else recipStep (recip0 m) m

/-- The m_a of a square root and whether its exponent was odd. -/
def FFmt.sqrtArg (F : FFmt) (x : Nat) : Nat × Bool :=
  let (m, e) := F.normal x
  (m, decide (e % 2 ≠ 0))

/-- m_a with 63 fraction bits, in [1, 4). -/
def rsqrtM (p : Nat × Bool) : Nat := if p.2 then 2 * p.1 else p.1

def FFmt.rsqrtSeq (F : FFmt) (x : Nat) : Nat :=
  let p := F.sqrtArg x
  let y0 := rsqrt0 p.1 p.2
  if F.mb = 52 then rsqrtStep (rsqrtStep y0 (rsqrtM p)) (rsqrtM p) else rsqrtStep y0 (rsqrtM p)

/-- A dyadic v × 2^e rounded to nearest even at 64 significant bits (R171). -/
def round64 (v e : Int) : Int × Int :=
  let n := v.natAbs
  let sh : Int := (Nat.log2 n : Int) - 63
  if n = 0 ∨ sh ≤ 0 then (v, e)
  else
    let q := (roundAt 0 false n sh).1
    (if v < 0 then -(q : Int) else q, e + sh)

/-- v × 2^e + w × 2^g. -/
def dyAdd (a b : Int × Int) : Int × Int :=
  let lo := min a.2 b.2
  (a.1 * (2 : Int) ^ (a.2 - lo).toNat + b.1 * (2 : Int) ^ (b.2 - lo).toNat, lo)

/-- Deliver a dyadic with the sign of the result flipped when neg. -/
def FFmt.deliver (F : FFmt) (rm : Nat) (neg : Bool) (v : Int × Int) : Nat × Exc :=
  F.round rm (xor neg (decide (v.1 < 0))) v.1.natAbs v.2

/-- R171, R172: FDFIN on encodings a and b with y. Assumption 18 (DEDUCED). -/
def FFmt.divFin (F : FFmt) (rm : Nat) (y a b : Nat) : Nat × Exc :=
  if F.special a || F.special b || y == F.recipSeq b then F.divV rm (F.unpack a) (F.unpack b)
  else
    match F.unpack a, F.unpack b with
    | .fin x m e, .fin z n g =>
      let eb := (F.normal b).2
      let q := round64 (m * y) (e - 63 - eb)
      let r := dyAdd (m, e) (-(q.1 * n), q.2 + g)
      let c := round64 (r.1 * y) (r.2 - 63 - eb)
      F.deliver rm (xor x z) (dyAdd q c)
    | u, v => F.divV rm u v

/-- R171, R172: FSQFIN on an encoding with y. Assumption 18 (DEDUCED). -/
def FFmt.sqrtFin (F : FFmt) (rm : Nat) (y a : Nat) : Nat × Exc :=
  if F.special a || y == F.rsqrtSeq a then F.sqrtV rm (F.unpack a)
  else
    match F.unpack a with
    | .fin false m e =>
      let h := ((F.normal a).2 - (if (F.sqrtArg a).2 then 1 else 0)) / 2
      let q := round64 (m * y) (e - 63 - h)
      let r := dyAdd (m, e) (-(q.1 * q.1), 2 * q.2)
      let c := round64 (r.1 * y) (r.2 - 64 - h)
      F.deliver rm false (dyAdd q c)
    | u => F.sqrtV rm u

/-- The approximation y in g_d: a RAW word. -/
def yOp (r : CpRegs) (i : BitVec 5) : Except Stop Nat := do
  let w ← tagOp (fun t => t == tagRAW) 0 r i
  .ok w.data.toNat

/-- R170: an INIT or STEP operand, which raises no value fault. -/
def stepOp (single : Bool) (opnd : Nat) (r : CpRegs) (i : BitVec 5) : Except Stop Nat := do
  let w ← if single then tagOp (fun t => t == tagRAW) opnd r i else floOp opnd r i
  .ok (if single then w.data.toNat % 2 ^ 32 else w.data.toNat)

/-- An operand of a final instruction, as its encoding. -/
def finOp (single : Bool) (opnd : Nat) (r : CpRegs) (i : BitVec 5) : Except Stop Nat := do
  let w ← if single then floatOp opnd r i else floOp opnd r i
  .ok w.data.toNat

/-- A new approximation. -/
def CpRegs.setY (r : CpRegs) (d : BitVec 5) (y : Nat) : CpRegs := r.setG d (.ofRaw (BitVec.ofNat 64 y))

def fdinitBody (single : Bool) (f : RForm) (r : CpRegs) : Except Stop CpRegs := do
  let b ← stepOp single 2 r f.b
  let F := fmtOf single
  .ok (r.setY f.d (if F.special b then 2 ^ 63 else recip0 (F.normal b).1))

/-- FDINIT (R170). -/
def execFdinit (k : CpId) (single : Bool) (f : RForm) (s : State) : Host.Outcome State Fault Refusal :=
  regInsn s k (.fdinit k single f) f.pr (fdinitBody single f)

def fdstepBody (single : Bool) (f : RForm) (r : CpRegs) : Except Stop CpRegs := do
  let b ← stepOp single 2 r f.b
  let y ← yOp r f.d
  .ok (r.setY f.d (recipStep y ((fmtOf single).normal b).1))

/-- FDSTEP (R170). -/
def execFdstep (k : CpId) (single : Bool) (f : RForm) (s : State) : Host.Outcome State Fault Refusal :=
  regInsn s k (.fdstep k single f) f.pr (fdstepBody single f)

def fdfinBody (single : Bool) (f : RForm) (r : CpRegs) : Except Stop (CpRegs × Exc) := do
  let a ← finOp single 1 r f.a
  let b ← finOp single 2 r f.b
  let y ← yOp r f.d
  .ok (r.fpResult single f.d ((fmtOf single).divFin r.rm y a b))

/-- FDFIN (R171, R172). -/
def execFdfin (k : CpId) (single : Bool) (f : RForm) (s : State) : Host.Outcome State Fault Refusal :=
  arithInsn s k (.fdfin k single f) f.pr (fdfinBody single f)

def fsqinitBody (single : Bool) (f : RForm) (r : CpRegs) : Except Stop CpRegs := do
  let a ← stepOp single 1 r f.a
  let F := fmtOf single
  let p := F.sqrtArg a
  .ok (r.setY f.d (if F.special a then 2 ^ 63 else rsqrt0 p.1 p.2))

/-- FSQINIT (R170). -/
def execFsqinit (k : CpId) (single : Bool) (f : RForm) (s : State) : Host.Outcome State Fault Refusal :=
  regInsn s k (.fsqinit k single f) f.pr (fsqinitBody single f)

def fsqstepBody (single : Bool) (f : RForm) (r : CpRegs) : Except Stop CpRegs := do
  let a ← stepOp single 1 r f.a
  let y ← yOp r f.d
  .ok (r.setY f.d (rsqrtStep y (rsqrtM ((fmtOf single).sqrtArg a))))

/-- FSQSTEP (R170). -/
def execFsqstep (k : CpId) (single : Bool) (f : RForm) (s : State) : Host.Outcome State Fault Refusal :=
  regInsn s k (.fsqstep k single f) f.pr (fsqstepBody single f)

def fsqfinBody (single : Bool) (f : RForm) (r : CpRegs) : Except Stop (CpRegs × Exc) := do
  let a ← finOp single 1 r f.a
  let y ← yOp r f.d
  .ok (r.fpResult single f.d ((fmtOf single).sqrtFin r.rm y a))

/-- FSQFIN (R171, R172). -/
def execFsqfin (k : CpId) (single : Bool) (f : RForm) (s : State) : Host.Outcome State Fault Refusal :=
  arithInsn s k (.fsqfin k single f) f.pr (fsqfinBody single f)

/-! Conversions (R169). -/

/-- An integer as an exact datum; zero is +0. -/
def FVal.ofInt (v : Int) : FVal := .fin (decide (v < 0)) v.natAbs 0

/-- R169: to FIX under the rounding mode, saturating with NV. -/
def toFix (rm : Nat) : FVal → Word × Exc
  | .nan _ => (0, xNV)
  | .inf neg => (if neg then 0x8000000000000000 else 0x7FFFFFFFFFFFFFFF, xNV)
  | .fin neg m e =>
    let (n, nx) := roundAt rm neg m (-e)
    if neg = false ∧ 2 ^ 63 ≤ n then (0x7FFFFFFFFFFFFFFF, xNV)
    else if neg = true ∧ 2 ^ 63 < n then (0x8000000000000000, xNV)
    else (BitVec.ofInt 64 (signedInt neg n), if nx then xNX else 0)

def toFixBody (single : Bool) (f : RForm) (r : CpRegs) : Except Stop (CpRegs × Exc) := do
  let a ← fpOp single 1 r f.a
  let v := toFix r.rm a
  .ok (r.setG f.d (.ofFix v.1), v.2)

def fromFixBody (single : Bool) (f : RForm) (r : CpRegs) : Except Stop (CpRegs × Exc) := do
  let a ← numOp 1 r f.a
  .ok (r.fpResult single f.d ((fmtOf single).pack r.rm (.ofInt a.data.toInt)))

/-- A change of format. -/
def reformatBody (fromSingle : Bool) (f : RForm) (r : CpRegs) : Except Stop (CpRegs × Exc) := do
  let a ← fpOp fromSingle 1 r f.a
  .ok (r.fpResult (!fromSingle) f.d ((fmtOf (!fromSingle)).pack r.rm a))

/-- FCVT.FIX.D (R169). -/
def execFcvtFixD (k : CpId) (f : RForm) (s : State) : Host.Outcome State Fault Refusal :=
  arithInsn s k (.fcvtFixD k f) f.pr (toFixBody false f)

/-- FCVT.D.FIX (R169). -/
def execFcvtDFix (k : CpId) (f : RForm) (s : State) : Host.Outcome State Fault Refusal :=
  arithInsn s k (.fcvtDFix k f) f.pr (fromFixBody false f)

/-- FCVT.S.D (R169). -/
def execFcvtSD (k : CpId) (f : RForm) (s : State) : Host.Outcome State Fault Refusal :=
  arithInsn s k (.fcvtSD k f) f.pr (reformatBody false f)

/-- FCVT.D.S (R169). -/
def execFcvtDS (k : CpId) (f : RForm) (s : State) : Host.Outcome State Fault Refusal :=
  arithInsn s k (.fcvtDS k f) f.pr (reformatBody true f)

/-- FCVT.FIX.S (R169). -/
def execFcvtFixS (k : CpId) (f : RForm) (s : State) : Host.Outcome State Fault Refusal :=
  arithInsn s k (.fcvtFixS k f) f.pr (toFixBody true f)

/-- FCVT.S.FIX (R169). -/
def execFcvtSFix (k : CpId) (f : RForm) (s : State) : Host.Outcome State Fault Refusal :=
  arithInsn s k (.fcvtSFix k f) f.pr (fromFixBody true f)

end Sys2Proof.Machine
end

