-- ==== Sys2Proof/Machine/Int.lean ====
section
/-!
DEFINITION. The register instructions: INT, the immediate forms, CMP, PRED, TAG, MUL, IDIV, BIT, TIME and PSX (R98 to R100,
R158 to R164, R87, R111).
-/

namespace Sys2Proof.Machine

/-! INT (R98, R99, R100). -/

/-- g_d ← g_a op g_b on RAW and FIX operands. -/
def aluBody (op : Word → Word → Word) (f : RForm) (r : CpRegs) : Except Stop CpRegs := do
  let a ← numOp 1 r f.a
  let b ← numOp 2 r f.b
  .ok (r.setG f.d (.mk0 (numTag [a, b]) (op a.data b.data)))

/-- R100: shift amounts are bits 5:0. -/
def shiftAmount (w : Word) : Nat := w.toNat % 64

/-- ADD (R98, R100). -/
def execAdd (k : CpId) (f : RForm) (s : State) : Host.Outcome State Fault Refusal :=
  regInsn s k (.add k f) f.pr (aluBody (fun a b => a + b) f)

/-- SUB (R98, R100). -/
def execSub (k : CpId) (f : RForm) (s : State) : Host.Outcome State Fault Refusal :=
  regInsn s k (.sub k f) f.pr (aluBody (fun a b => a - b) f)

/-- AND (R98, R100). -/
def execAnd (k : CpId) (f : RForm) (s : State) : Host.Outcome State Fault Refusal :=
  regInsn s k (.and k f) f.pr (aluBody (fun a b => a &&& b) f)

/-- OR (R98, R100). -/
def execOr (k : CpId) (f : RForm) (s : State) : Host.Outcome State Fault Refusal :=
  regInsn s k (.or k f) f.pr (aluBody (fun a b => a ||| b) f)

/-- XOR (R98, R100). -/
def execXor (k : CpId) (f : RForm) (s : State) : Host.Outcome State Fault Refusal :=
  regInsn s k (.xor k f) f.pr (aluBody (fun a b => a ^^^ b) f)

/-- ANDN (R98, R100). -/
def execAndn (k : CpId) (f : RForm) (s : State) : Host.Outcome State Fault Refusal :=
  regInsn s k (.andn k f) f.pr (aluBody (fun a b => a &&& ~~~b) f)

/-- SLL (R98, R100). -/
def execSll (k : CpId) (f : RForm) (s : State) : Host.Outcome State Fault Refusal :=
  regInsn s k (.sll k f) f.pr (aluBody (fun a b => a <<< shiftAmount b) f)

/-- SRL (R98, R100). -/
def execSrl (k : CpId) (f : RForm) (s : State) : Host.Outcome State Fault Refusal :=
  regInsn s k (.srl k f) f.pr (aluBody (fun a b => a >>> shiftAmount b) f)

/-- SRA (R98, R100). -/
def execSra (k : CpId) (f : RForm) (s : State) : Host.Outcome State Fault Refusal :=
  regInsn s k (.sra k f) f.pr (aluBody (fun a b => a.sshiftRight (shiftAmount b)) f)

/-- ROL (R98, R100). -/
def execRol (k : CpId) (f : RForm) (s : State) : Host.Outcome State Fault Refusal :=
  regInsn s k (.rol k f) f.pr (aluBody (fun a b => a.rotateLeft (shiftAmount b)) f)

/-- MIN (R98, R100). -/
def execMin (k : CpId) (f : RForm) (s : State) : Host.Outcome State Fault Refusal :=
  regInsn s k (.min k f) f.pr (aluBody (fun a b => if a.slt b then a else b) f)

/-- MAX (R98, R100). -/
def execMax (k : CpId) (f : RForm) (s : State) : Host.Outcome State Fault Refusal :=
  regInsn s k (.max k f) f.pr (aluBody (fun a b => if a.slt b then b else a) f)

/-- MINU (R98, R100). -/
def execMinu (k : CpId) (f : RForm) (s : State) : Host.Outcome State Fault Refusal :=
  regInsn s k (.minu k f) f.pr (aluBody (fun a b => if a.ult b then a else b) f)

/-- MAXU (R98, R100). -/
def execMaxu (k : CpId) (f : RForm) (s : State) : Host.Outcome State Fault Refusal :=
  regInsn s k (.maxu k f) f.pr (aluBody (fun a b => if a.ult b then b else a) f)

/-- MOV copies all 8 tag bits (R99). -/
def movBody (f : RForm) (r : CpRegs) : Except Stop CpRegs := do
  let a ← anyOp r f.a
  .ok (r.setG f.d a)

/-- MOV (R98, R99). -/
def execMov (k : CpId) (f : RForm) (s : State) : Host.Outcome State Fault Refusal :=
  regInsn s k (.mov k f) f.pr (movBody f)

/-! Immediate forms (R97, R99). An immediate counts as FIX. -/

/-- g_d ← g_a op immediate. -/
def immBody (op : Word → Word) (f : IForm) (r : CpRegs) : Except Stop CpRegs := do
  let a ← numOp 1 r f.a
  .ok (r.setG f.d (.mk0 (numTag [a]) (op a.data)))

/-- R97: imm bits 7:6 select SLL, SRL, SRA, ROL; bits 5:0 the amount. -/
def shiOp (imm : BitVec 12) (a : Word) : Word :=
  let n := imm.toNat % 64
  match (imm.extractLsb' 6 2).toNat with
  | 0 => a <<< n
  | 1 => a >>> n
  | 2 => a.sshiftRight n
  | _ => a.rotateLeft n

/-- R97: d bits 4:3 of the field select EQ, NE, LT, LTU. -/
def cmpiOp (d : BitVec 5) (a b : Word) : Bool :=
  match (d.extractLsb' 3 2).toNat with
  | 0 => a == b
  | 1 => a != b
  | 2 => a.slt b
  | _ => a.ult b

/-- ADDI (R97, R100). -/
def execAddi (k : CpId) (f : IForm) (s : State) : Host.Outcome State Fault Refusal :=
  regInsn s k (.addi k f) f.pr (immBody (fun a => a + sxImm f) f)

/-- ANDI (R97: the immediate is zero-extended). -/
def execAndi (k : CpId) (f : IForm) (s : State) : Host.Outcome State Fault Refusal :=
  regInsn s k (.andi k f) f.pr (immBody (fun a => a &&& f.imm.setWidth 64) f)

/-- ORI (R97: the immediate is zero-extended). -/
def execOri (k : CpId) (f : IForm) (s : State) : Host.Outcome State Fault Refusal :=
  regInsn s k (.ori k f) f.pr (immBody (fun a => a ||| f.imm.setWidth 64) f)

/-- XORI (R97: the immediate is zero-extended). -/
def execXori (k : CpId) (f : IForm) (s : State) : Host.Outcome State Fault Refusal :=
  regInsn s k (.xori k f) f.pr (immBody (fun a => a ^^^ f.imm.setWidth 64) f)

/-- SHI (R97, R100). -/
def execShi (k : CpId) (f : IForm) (s : State) : Host.Outcome State Fault Refusal :=
  regInsn s k (.shi k f) f.pr (immBody (shiOp f.imm) f)

/-- p ← g_a compared with the immediate. -/
def cmpiBody (f : IForm) (r : CpRegs) : Except Stop CpRegs := do
  let a ← numOp 1 r f.a
  .ok (r.setP (f.d.toNat % 8) (cmpiOp f.d a.data (sxImm f)))

/-- CMPI (R97, R98). -/
def execCmpi (k : CpId) (f : IForm) (s : State) : Host.Outcome State Fault Refusal :=
  regInsn s k (.cmpi k f) f.pr (cmpiBody f)

/-! CMP (R98, R99). -/

/-- p_d ← g_a op g_b. -/
def cmpBody (op : Word → Word → Bool) (f : RForm) (r : CpRegs) : Except Stop CpRegs := do
  let a ← numOp 1 r f.a
  let b ← numOp 2 r f.b
  .ok (r.putP f.d (op a.data b.data))

/-- CMP EQW takes operands of any tag. -/
def eqwBody (f : RForm) (r : CpRegs) : Except Stop CpRegs := do
  let a ← anyOp r f.a
  let b ← anyOp r f.b
  .ok (r.putP f.d (eqw a b))

/-- CMP EQ (R98). -/
def execCmpEq (k : CpId) (f : RForm) (s : State) : Host.Outcome State Fault Refusal :=
  regInsn s k (.cmpEq k f) f.pr (cmpBody (fun a b => a == b) f)

/-- CMP.NE (R98). -/
def execCmpNe (k : CpId) (f : RForm) (s : State) : Host.Outcome State Fault Refusal :=
  regInsn s k (.cmpNe k f) f.pr (cmpBody (fun a b => a != b) f)

/-- CMP.LT (R98). -/
def execCmpLt (k : CpId) (f : RForm) (s : State) : Host.Outcome State Fault Refusal :=
  regInsn s k (.cmpLt k f) f.pr (cmpBody (fun a b => a.slt b) f)

/-- CMP.LE (R98). -/
def execCmpLe (k : CpId) (f : RForm) (s : State) : Host.Outcome State Fault Refusal :=
  regInsn s k (.cmpLe k f) f.pr (cmpBody (fun a b => a.sle b) f)

/-- CMP.LTU (R98). -/
def execCmpLtu (k : CpId) (f : RForm) (s : State) : Host.Outcome State Fault Refusal :=
  regInsn s k (.cmpLtu k f) f.pr (cmpBody (fun a b => a.ult b) f)

/-- CMP.LEU (R98). -/
def execCmpLeu (k : CpId) (f : RForm) (s : State) : Host.Outcome State Fault Refusal :=
  regInsn s k (.cmpLeu k f) f.pr (cmpBody (fun a b => a.ule b) f)

/-- CMP.EQW (R98, R99). -/
def execCmpEqw (k : CpId) (f : RForm) (s : State) : Host.Outcome State Fault Refusal :=
  regInsn s k (.cmpEqw k f) f.pr (eqwBody f)

/-! PRED (R83, R98). -/

/-- PAND (R83, R98). -/
def execPand (k : CpId) (f : RForm) (s : State) : Host.Outcome State Fault Refusal :=
  regInsn s k (.pand k f) f.pr (fun r => .ok (r.putP f.d (r.pr f.a && r.pr f.b)))

/-- POR (R83, R98). -/
def execPor (k : CpId) (f : RForm) (s : State) : Host.Outcome State Fault Refusal :=
  regInsn s k (.por k f) f.pr (fun r => .ok (r.putP f.d (r.pr f.a || r.pr f.b)))

/-- PXOR (R83, R98). -/
def execPxor (k : CpId) (f : RForm) (s : State) : Host.Outcome State Fault Refusal :=
  regInsn s k (.pxor k f) f.pr (fun r => .ok (r.putP f.d (xor (r.pr f.a) (r.pr f.b))))

/-- PANDN (R83, R98). -/
def execPandn (k : CpId) (f : RForm) (s : State) : Host.Outcome State Fault Refusal :=
  regInsn s k (.pandn k f) f.pr (fun r => .ok (r.putP f.d (r.pr f.a && !r.pr f.b)))

/-- PNOT (R83, R98). -/
def execPnot (k : CpId) (f : RForm) (s : State) : Host.Outcome State Fault Refusal :=
  regInsn s k (.pnot k f) f.pr (fun r => .ok (r.putP f.d (!r.pr f.a)))

/-- PSET (R83, R98). -/
def execPset (k : CpId) (f : RForm) (s : State) : Host.Outcome State Fault Refusal :=
  regInsn s k (.pset k f) f.pr (fun r => .ok (r.putP f.d (true)))

/-- PCLR (R83, R98). -/
def execPclr (k : CpId) (f : RForm) (s : State) : Host.Outcome State Fault Refusal :=
  regInsn s k (.pclr k f) f.pr (fun r => .ok (r.putP f.d (false)))

/-- R98: p7 to p0 as bits 7:0; p0 reads as true. -/
def predBits (r : CpRegs) : Word := (r.p ||| 1).setWidth 64

/-- R98: p1 to p7 take bits 7:1. -/
def pwrgBody (f : RForm) (r : CpRegs) : Except Stop CpRegs := do
  let a ← numOp 1 r f.a
  .ok { r with p := (a.data.setWidth 8 &&& 0xFE) ||| (r.p &&& 1) }

/-- PRDG (R98). -/
def execPrdg (k : CpId) (f : RForm) (s : State) : Host.Outcome State Fault Refusal :=
  regInsn s k (.prdg k f) f.pr (fun r => .ok (r.setG f.d (.ofFix (predBits r))))

/-- PWRG (R98, R99). -/
def execPwrg (k : CpId) (f : RForm) (s : State) : Host.Outcome State Fault Refusal :=
  regInsn s k (.pwrg k f) f.pr (pwrgBody f)

/-! TAG (R63, R98, R99). -/

/-- R63: a type tag that TAGSET and TAGSETI refuse. -/
def tagForbidden (t : BitVec 6) : Bool := tagReserved t || t == tagCAPL || t == tagCAPH

/-- The value of g_a retagged, collector bits kept. -/
def retag (a : TWord) (t : BitVec 6) (d : BitVec 5) (r : CpRegs) : Except Stop CpRegs :=
  if tagForbidden t then .error illegalOperand else .ok (r.setG d { a with tag := t })

def taggetBody (f : RForm) (r : CpRegs) : Except Stop CpRegs := do
  let a ← anyOp r f.a
  .ok (r.setG f.d (.ofFix (a.tag.setWidth 64)))

def tagsetBody (f : RForm) (r : CpRegs) : Except Stop CpRegs := do
  let a ← anyOp r f.a
  let b ← numOp 2 r f.b
  retag a (b.data.setWidth 6) f.d r

def tagsetiBody (f : IForm) (r : CpRegs) : Except Stop CpRegs := do
  let a ← anyOp r f.a
  retag a (f.imm.setWidth 6) f.d r

def tagchkBody (f : RForm) (r : CpRegs) : Except Stop CpRegs := do
  let a ← anyOp r f.a
  let b ← numOp 2 r f.b
  .ok (r.putP f.d (a.tag == b.data.setWidth 6))

/-- R99: 0 immediate, 1 pointer, 2 HDR, 3 FWD, 4 CODE. -/
def classCode (ptr : BitVec 6 → Bool) (t : BitVec 6) : Nat :=
  if ptr t then 1 else if t = tagHDR then 2 else if t = tagFWD then 3 else if t = tagCODE then 4 else 0

def classBody (ptr : BitVec 6 → Bool) (f : RForm) (r : CpRegs) : Except Stop CpRegs := do
  let a ← anyOp r f.a
  .ok (r.setG f.d (.ofFix (BitVec.ofNat 64 (classCode ptr a.tag))))

/-- TAGGET (R98). -/
def execTagget (k : CpId) (f : RForm) (s : State) : Host.Outcome State Fault Refusal :=
  regInsn s k (.tagget k f) f.pr (taggetBody f)

/-- TAGSET (R63, R98). -/
def execTagset (k : CpId) (f : RForm) (s : State) : Host.Outcome State Fault Refusal :=
  regInsn s k (.tagset k f) f.pr (tagsetBody f)

/-- TAGCHK (R98). -/
def execTagchk (k : CpId) (f : RForm) (s : State) : Host.Outcome State Fault Refusal :=
  regInsn s k (.tagchk k f) f.pr (tagchkBody f)

/-- CLASS (R60, R98, R99). -/
def execClass (k : CpId) (f : RForm) (s : State) : Host.Outcome State Fault Refusal :=
  regInsn s k (.class k f) f.pr (classBody (s.ptrClass k) f)

/-- TAGSETI (R63, R97). -/
def execTagseti (k : CpId) (f : IForm) (s : State) : Host.Outcome State Fault Refusal :=
  regInsn s k (.tagseti k f) f.pr (tagsetiBody f)

/-! MUL (R158). -/

/-- MUL (R158). -/
def execMul (k : CpId) (f : RForm) (s : State) : Host.Outcome State Fault Refusal :=
  regInsn s k (.mul k f) f.pr (aluBody (fun a b => a * b) f)

/-- MULH (R158). -/
def execMulh (k : CpId) (f : RForm) (s : State) : Host.Outcome State Fault Refusal :=
  regInsn s k (.mulh k f) f.pr (aluBody (fun a b => BitVec.ofInt 64 (a.toInt * b.toInt / 2 ^ 64)) f)

/-- MULHU (R158). -/
def execMulhu (k : CpId) (f : RForm) (s : State) : Host.Outcome State Fault Refusal :=
  regInsn s k (.mulhu k f) f.pr (aluBody (fun a b => BitVec.ofNat 64 (a.toNat * b.toNat / 2 ^ 64)) f)

/-- MULHSU (R158). -/
def execMulhsu (k : CpId) (f : RForm) (s : State) : Host.Outcome State Fault Refusal :=
  regInsn s k (.mulhsu k f) f.pr (aluBody (fun a b => BitVec.ofInt 64 (a.toInt * (b.toNat : Int) / 2 ^ 64)) f)

/-! IDIV (R160 to R163). The tag of the state register records the kind: FIX signed, RAW unsigned. -/

/-- The magnitude of a word read as signed. -/
def absWord (w : Word) : Word := if w.msb then -w else w

/-- R160: prepare a division; the state, then the dividend. Assumption 17 (DEDUCED). -/
def dprepBody (signed : Bool) (f : RForm) (r : CpRegs) : Except Stop CpRegs := do
  let a ← numOp 1 r f.a
  let b ← numOp 2 r f.b
  let mk := fun w => if signed then TWord.ofFix w else TWord.ofRaw w
  if b.data = 0 then .ok (r.setG f.d (mk a.data))
  else if signed then
    .ok ((r.setG f.d (.ofFix (a.data &&& 0x8000000000000000))).setG f.a (.ofRaw (absWord a.data)))
  else .ok ((r.setG f.d (.ofRaw 0)).setG f.a (.ofRaw a.data))

/-- R161: one radix-4 step on state, dividend and divisor: the new state and dividend. -/
def dstep (d a b : TWord) : TWord × TWord :=
  let signed := d.tag == tagFIX
  let dv := if signed then (absWord b.data).toNat else b.data.toNat
  let rem := if signed then d.data.toNat % 2 ^ 63 else d.data.toNat
  let t := 4 * rem + a.data.toNat / 2 ^ 62
  let q := min 3 (t / dv)
  let left := BitVec.ofNat 64 (t - q * dv)
  let d' := if signed then
      TWord.ofFix ((d.data &&& 0x8000000000000000) ||| (left &&& 0x7FFFFFFFFFFFFFFF))
    else TWord.ofRaw left
  (d', TWord.ofRaw ((a.data <<< 2) + BitVec.ofNat 64 q))

/-- Assumption 17 (DEDUCED). -/
def dstepBody (f : RForm) (r : CpRegs) : Except Stop CpRegs := do
  let d ← numOp 0 r f.d
  let a ← numOp 1 r f.a
  let b ← numOp 2 r f.b
  if b.data = 0 then .ok r
  else .ok ((r.setG f.a (dstep d a b).2).setG f.d (dstep d a b).1)

/-- R160, R162: the quotient. -/
def dquot (d a b : TWord) : TWord :=
  let signed := d.tag == tagFIX
  if b.data = 0 then (if signed then .ofFix (-1) else .ofRaw (-1))
  else if signed then .ofFix (if d.data.msb != b.data.msb then -a.data else a.data)
  else .ofRaw a.data

def dquotBody (f : RForm) (r : CpRegs) : Except Stop CpRegs := do
  let d ← numOp 0 r f.d
  let a ← numOp 1 r f.a
  let b ← numOp 2 r f.b
  .ok (r.setG f.a (dquot d a b))

/-- R162: the remainder. -/
def drem (d b : TWord) : TWord :=
  if b.data = 0 then d
  else if d.tag = tagFIX then
    let m := d.data &&& 0x7FFFFFFFFFFFFFFF
    .ofFix (if d.data.msb then -m else m)
  else .ofRaw d.data

def dremBody (f : RForm) (r : CpRegs) : Except Stop CpRegs := do
  let d ← numOp 0 r f.d
  let b ← numOp 2 r f.b
  .ok (r.setG f.d (drem d b))

/-- DPREP (R160). -/
def execDprep (k : CpId) (f : RForm) (s : State) : Host.Outcome State Fault Refusal :=
  regInsn s k (.dprep k f) f.pr (dprepBody true f)

/-- DPREPU (R160). -/
def execDprepu (k : CpId) (f : RForm) (s : State) : Host.Outcome State Fault Refusal :=
  regInsn s k (.dprepu k f) f.pr (dprepBody false f)

/-- DSTEP (R161). -/
def execDstep (k : CpId) (f : RForm) (s : State) : Host.Outcome State Fault Refusal :=
  regInsn s k (.dstep k f) f.pr (dstepBody f)

/-- DQUOT (R160, R162). -/
def execDquot (k : CpId) (f : RForm) (s : State) : Host.Outcome State Fault Refusal :=
  regInsn s k (.dquot k f) f.pr (dquotBody f)

/-- DREM (R160, R162). -/
def execDrem (k : CpId) (f : RForm) (s : State) : Host.Outcome State Fault Refusal :=
  regInsn s k (.drem k f) f.pr (dremBody f)

/-! BIT (R98). -/

/-- g_d ← op(g_a). -/
def bitBody (op : Word → Word) (f : RForm) (r : CpRegs) : Except Stop CpRegs := do
  let a ← numOp 1 r f.a
  .ok (r.setG f.d (.mk0 (numTag [a]) (op a.data)))

/-- Zeros above the highest one, 64 of a zero word. -/
def clz (w : Word) : Nat := if w = 0 then 64 else 63 - Nat.log2 w.toNat
/-- Zeros below the lowest one, 64 of a zero word. -/
def ctz (w : Word) : Nat := ((List.range 64).find? fun i => w.getLsbD i).getD 64
/-- Ones in a word. -/
def popc (w : Word) : Nat := (List.range 64).countP fun i => w.getLsbD i
/-- The bits in reverse order. -/
def brev (w : Word) : Word := BitVec.ofNat 64 ((List.range 64).foldl (fun acc i => 2 * acc + (w.getLsbD i).toNat) 0)
/-- The bytes in reverse order. -/
def bswap (w : Word) : Word := BitVec.ofNat 64 (leNat (leBytes 8 w.toNat).reverse)

/-- CLZ (R98). -/
def execClz (k : CpId) (f : RForm) (s : State) : Host.Outcome State Fault Refusal :=
  regInsn s k (.clz k f) f.pr (bitBody (fun w => BitVec.ofNat 64 (clz w)) f)

/-- CTZ (R98). -/
def execCtz (k : CpId) (f : RForm) (s : State) : Host.Outcome State Fault Refusal :=
  regInsn s k (.ctz k f) f.pr (bitBody (fun w => BitVec.ofNat 64 (ctz w)) f)

/-- POPC (R98). -/
def execPopc (k : CpId) (f : RForm) (s : State) : Host.Outcome State Fault Refusal :=
  regInsn s k (.popc k f) f.pr (bitBody (fun w => BitVec.ofNat 64 (popc w)) f)

/-- BREV (R98). -/
def execBrev (k : CpId) (f : RForm) (s : State) : Host.Outcome State Fault Refusal :=
  regInsn s k (.brev k f) f.pr (bitBody (brev) f)

/-- BSWAP (R98). -/
def execBswap (k : CpId) (f : RForm) (s : State) : Host.Outcome State Fault Refusal :=
  regInsn s k (.bswap k f) f.pr (bitBody (bswap) f)

/-! TIME (R111, R284) and PSX (R87, R98). -/

/-- The cycle count of the core site since the CP entered service: CS_CLK.CUR counts 25 MHz. -/
def State.cycles (s : State) (k : CpId) : Word :=
  let cur := match s.siteOf k with | some t => s.fld (oCS_CLK t) 23 16 | none => 0
  BitVec.ofNat 64 ((s.cp k).cycBase + (s.now - (s.cp k).cycSince).toNat * cur * 25 / 1000)

/-- Write a value that a follower takes from the input log (R284). -/
def timeBody (k : CpId) (f : RForm) (v : State → TWord) : Word → State → State × Option Stop :=
  fun _ s => ((s.logLoad k (v s)).modRegs k fun r => r.setG f.d (v s), none)

/-- RDTICK (R111). -/
def execRdtick (k : CpId) (f : RForm) (s : State) : Host.Outcome State Fault Refusal :=
  s.retire k .plain (insnWord (.rdtick k f)) (Instr.legal (.rdtick k f)) f.pr (timeBody k f (fun s => .ofFix (BitVec.ofNat 64 s.tickNum)))

/-- RDTIME (R111). -/
def execRdtime (k : CpId) (f : RForm) (s : State) : Host.Outcome State Fault Refusal :=
  s.retire k .plain (insnWord (.rdtime k f)) (Instr.legal (.rdtime k f)) f.pr (timeBody k f (fun s => .ofRaw s.now))

/-- RDCYC (R111). Assumption 28 (DEDUCED). -/
def execRdcyc (k : CpId) (f : RForm) (s : State) : Host.Outcome State Fault Refusal :=
  s.retire k .plain (insnWord (.rdcyc k f)) (Instr.legal (.rdcyc k f)) f.pr (timeBody k f (fun s => .ofRaw (s.cycles k)))

/-- R86: the RW fields of PS, and with them the RW/K fields. -/
abbrev psRw : Word := 0x3E1F
abbrev psRwk : Word := 0xFE1F

/-- R87: PS with the fields of a mask replaced. -/
def wrpsBody (mask : Word) (f : RForm) (r : CpRegs) : Except Stop CpRegs := do
  let a ← numOp 1 r f.a
  .ok { r with ps := (r.ps &&& ~~~mask) ||| (a.data &&& mask) }

/-- RDPS (R98). -/
def execRdps (k : CpId) (f : RForm) (s : State) : Host.Outcome State Fault Refusal :=
  regInsn s k (.rdps k f) f.pr (fun r => .ok (r.setG f.d (.ofRaw r.ps)))

/-- WRPS (R87). -/
def execWrps (k : CpId) (f : RForm) (s : State) : Host.Outcome State Fault Refusal :=
  regInsn s k (.wrps k f) f.pr (wrpsBody psRw f)

end Sys2Proof.Machine
end

