-- ==== Sys2Proof/Machine/System.lean ====
section
/-!
DEFINITION. The system class but the gates: fences, range cache operations, RDSET, the k registers, the event mask, WAIT
(R70, R110, R118, R121, R131, R196, R217), and the CP's own events: EVENT_DELIVERY and WDOG_EXPIRY (R199, R201).
-/

namespace Sys2Proof.Machine

/-- An instruction before which a pending arithmetic trap is delivered (R179). -/
def State.retireArith (s : State) (k : CpId) (kind : Kind) (i : Instr) (pr : Pred)
    (body : Word → State → State × Option Stop) : Host.Outcome State Fault Refusal :=
  match s.arithFirst k i.legal pr with
  | some s' => .next s'
  | none => s.retire k kind (insnWord i) i.legal pr body

/-! Fences (R110, R118). -/

/-- FENCE completes when every earlier store is visible; in a pair it waits while the delay store buffer holds one.
Assumption 22 (DEDUCED). -/
def fenceBody (k : CpId) (s : State) : Except Stop State :=
  match s.pairOf k with
  | some n => if s.pairs[n].dsb = [] then .ok s else .error .suspend
  | none => .ok s

/-- FENCE (R118): the held outputs are released by a checkpoint. -/
def execFence (k : CpId) (f : RForm) (s : State) : Host.Outcome State Fault Refusal :=
  s.retire k .ckpt (insnWord (.fence k f)) (Instr.legal (.fence k f)) f.pr (stateBody fun _ s => fenceBody k s)

/-- FENCE.A (R110, R179). -/
def execFenceA (k : CpId) (f : RForm) (s : State) : Host.Outcome State Fault Refusal :=
  s.retireArith k .plain (.fenceA k f) f.pr (stateBody fun _ s => .ok s)

/-- FENCE.I (R110, R115, R286): a checkpoint releases the CP's own stores, so that every later fetch sees them.
Assumption 22 (DEDUCED). -/
def execFenceI (k : CpId) (f : RForm) (s : State) : Host.Outcome State Fault Refusal :=
  s.retire k .sync (insnWord (.fenceI k f)) (Instr.legal (.fenceI k f)) f.pr (stateBody fun _ s => .ok s)

/-! Range cache operations (R110, R121, R252, R273). -/

/-- The operands of a range operation. -/
def rangeCheck (k : CpId) (sys : Bool) (f : RForm) (s : State) : Except Stop (TWord × TWord) := do
  let r := s.cr k
  if sys then needSys r
  c13Check r [f.d]
  let a ← numOp 1 r f.a
  let b ← numOp 2 r f.b
  .ok (a, b)

/-- The state between two units: at the instruction, partly complete. -/
def CpRegs.between (r : CpRegs) (pc : Word) : CpRegs := { r.withPs 16 16 1 with pc := pc }

/-- One line; a checkpoint follows each unit. Assumption 22 (DEDUCED). -/
def rangeUnit (k : CpId) (op : LineOp) (f : RForm) (pc : Word) (s : State) : Except Stop (State × Bool) := do
  let (a, b) ← rangeCheck k (op == .inval) f s
  if b.data = 0 then .ok (s, true)
  else
    let ea := a.data &&& ~~~63#64
    let (pa, _) ← s.access k ((s.cr k).cr f.d) pLOAD ea 64 1 false
    let s := (s.touchRlb k ea).hold k (.line op (lineOf pa))
    let s := (s.putG k f.a (.ofRaw (ea + 64))).putG k f.b (.ofFix (b.data - 1))
    let r := s.cr k
    .ok (((s.modRegs k fun r => r.between pc).checkpoint k).modRegs k fun q => { q with pc := r.pc, ps := r.ps }, false)

/-- The body of a range operation. Assumption 22 (DEDUCED). -/
def rangeBody (k : CpId) (op : LineOp) (f : RForm) : Word → State → State × Option Stop :=
  fun pc s => loopBody k (rangeUnit k op f pc) (fun s => ((s.cr k).gr f.b).data.toNat + 1) pc s

/-- CINV.R (R110, R252). -/
def execCinvR (k : CpId) (f : RForm) (s : State) : Host.Outcome State Fault Refusal :=
  s.retire k .unit (insnWord (.cinvR k f)) (Instr.legal (.cinvR k f)) f.pr (rangeBody k .inval f)

/-- CCLN.R (R110, R252). -/
def execCclnR (k : CpId) (f : RForm) (s : State) : Host.Outcome State Fault Refusal :=
  s.retire k .unit (insnWord (.cclnR k f)) (Instr.legal (.cclnR k f)) f.pr (rangeBody k .clean f)

/-- CFLS.R (R110, R252). -/
def execCflsR (k : CpId) (f : RForm) (s : State) : Host.Outcome State Fault Refusal :=
  s.retire k .unit (insnWord (.cflsR k f)) (Instr.legal (.cflsR k f)) f.pr (rangeBody k .flush f)

/-! RDSET (R70, R73, R110). -/

/-- The descriptor bits that RDSET replaces: CONDEMNED, GEN, POLICY, WP. -/
abbrev rdsetMask : Word := 0x7F80000000000000

/-- RDSET: every RLB copy of the descriptor goes away. Assumption 22 (DEDUCED). -/
def rdsetBody (k : CpId) (f : RForm) (s : State) : Except Stop State := do
  let r := s.cr k
  needSys r
  let a ← numOp 1 r f.a
  let b ← numOp 2 r f.b
  let rn := a.data.toNat
  match s.partOf k with
  | none => .error (regionFault 1 0)
  | some n =>
    let da := s.rdtAddr n rn
    if s.rdtLen n ≤ rn then .error (regionFault 1 (a.data <<< 21))
    else if storageEnd < da + 8 then .error .absent
    else if s.mem.poison.contains da then .error (machineCheck 3 da)
    else
      let d := (s.mem.data da &&& ~~~rdsetMask) ||| (b.data &&& rdsetMask)
      let s := (s.markUnverified k).releaseStore k ⟨da, d, 0xFF, none, none, true⟩ 2
      .ok (s.rlbInval n rn)

/-- RDSET (R70, R73). -/
def execRdset (k : CpId) (f : RForm) (s : State) : Host.Outcome State Fault Refusal :=
  s.retire k .sync (insnWord (.rdset k f)) (Instr.legal (.rdset k f)) f.pr (stateBody fun _ s => rdsetBody k f s)

/-! k registers (R209, R217). -/

/-- The data bits of k[n]. -/
def CpRegs.kRead (r : CpRegs) (n : Nat) : Word :=
  match n with
  | 0 => r.tsp
  | 1 => r.tvec
  | 2 => r.feVec
  | 3 => r.feStat
  | 4 => r.evpend
  | 5 => r.wdog
  | 16 => r.escv
  | 17 => r.cardb
  | 18 => r.colctl
  | 19 => r.axen
  | _ => (r.fe.toList.getD (n - 48) .raw0).data

/-- MFK: EVPEND stands in a pair's input log (R284). -/
def mfkBody (k : CpId) (f : RForm) (s : State) : Except Stop State := do
  let r := s.cr k
  needSys r
  let v := TWord.ofRaw (r.kRead (kNum f))
  let s := if kNum f = 4 then s.logLoad k v else s
  .ok (s.putG k f.d v)

/-- MFK (R110, R209, R217). -/
def execMfk (k : CpId) (f : RForm) (s : State) : Host.Outcome State Fault Refusal :=
  s.retire k .plain (insnWord (.mfk k f)) (Instr.legal (.mfk k f)) f.pr (stateBody fun _ s => mfkBody k f s)

/-- The RW bits of k[n] but the fe registers. -/
def kMask (n : Nat) : Word :=
  match n with
  | 0 => 0xFFFFFFFFFFFFFFC0
  | 1 => 0xFFFFFFFFFFFFFFFD
  | 2 => 0xFFFFFFFFFFFFFFFD
  | 5 => 0x00000000FFFFFFFF
  | 16 => 0xFFFFFFFFFFFFFF01
  | 17 => 0xFFFFFFFFFFFFF001
  | 18 => 0x000000000000000F
  | 19 => 0x000000000000061F
  | _ => 0

/-- Write k[n] plainly; FE_STAT and EVPEND are read-only. Assumption 23 (DEDUCED). -/
def CpRegs.kWrite (r : CpRegs) (n : Nat) (v : Word) : CpRegs :=
  let w := v &&& kMask n
  match n with
  | 0 => { r with tsp := w }
  | 1 => { r with tvec := w }
  | 2 => { r with feVec := w }
  | 3 => r
  | 4 => r
  | 5 => { r with wdog := w }
  | 16 => { r with escv := w }
  | 17 => { r with cardb := w }
  | 18 => { r with colctl := w }
  | 19 => { r with axen := w }
  | _ => { r with fe := r.fe.setIfInBounds (n - 48) (.ofRaw v) }

/-- R131: the table words through c15. All checks of one word go before those of the next: the model's order,
Assumption 88 (DESIGN CHOICE). -/
def State.readVectors (s : State) (k : CpId) (base : Word) : Except Stop (State × Vector (Option Word) 32) := do
  let ws ← (List.range 32).mapM fun i => do
    let ea := base + BitVec.ofNat 64 (8 * i)
    let (pa, _) ← s.access k (s.cr k).c[15] pLOAD ea 8 8 false
    s.useWord k pa
  .ok ((s.touchWords k base 32).forEach ws fun w s => s.logLoad k w,
    Vector.ofFn fun i => match ws[i.val]? with
      | some w => if w.tag = tagCODE then some w.data else none
      | none => none)

/-- Bits of k[n] that are no field: not in kMask and not read-only (FE_STAT, EVPEND). Assumption 87 (DESIGN CHOICE). -/
def kReserved (n : Nat) : Word :=
  if n < 48 then ~~~(kMask n ||| (if n = 3 then 0xFFF00F03 else if n = 4 then 0x7F else 0)) else 0

/-- R11: a write of a reserved bit of a k register has no effect but an access record, whose INFO0 names no offset.
Assumption 87 (DESIGN CHOICE). -/
def State.kRecord (s : State) (k : CpId) (n : Nat) (v : Word) : State :=
  if v &&& kReserved n = 0 then s else (s.accessRecord (.cp k) s.freeVal.toNat true).freeStep

/-- MTK: an entry vector with V set is checked and captures c15 (R196); ESCV with EN set fills its cache (R131). -/
def mtkBody (k : CpId) (f : RForm) (s : State) : Except Stop State := do
  let r := s.cr k
  needSys r
  let w ← numOp 0 r f.d
  let n := kNum f
  let entry := w.data &&& ~~~3#64
  let rec_ := fun (s : State) => s.kRecord k n w.data
  if (n = 1 ∨ n = 2) ∧ bit w.data 0 = true then
    match targetCheck r.c[15] entry with
    | some e => .error e
    | none =>
      .ok (rec_ (s.modRegs k fun r =>
        let r' := r.kWrite n w.data
        if n = 1 then { r' with trapCap := r.c[15] } else { r' with feCap := r.c[15] }))
  else if n = 16 ∧ bit w.data 0 = true then
    let (s, v) ← s.readVectors k (w.data &&& ~~~0xFF#64)
    .ok (rec_ (s.modRegs k fun r => { r.kWrite n w.data with escVec := v }))
  else .ok (rec_ (s.modRegs k fun r => r.kWrite n w.data))

/-- MTK (R110, R131, R196, R209, R217, R273). -/
def execMtk (k : CpId) (f : RForm) (s : State) : Host.Outcome State Fault Refusal :=
  s.retire k .ckpt (insnWord (.mtk k f)) (Instr.legal (.mtk k f)) f.pr (stateBody fun _ s => mtkBody k f s)

/-! The event mask and WAIT (R87, R110). -/

/-- Set or clear PS.EM. -/
def emBody (v : Nat) (r : CpRegs) : Except Stop CpRegs := do
  needSys r
  .ok (r.withPs 14 14 v)

/-- EMSET (R110). -/
def execEmset (k : CpId) (f : RForm) (s : State) : Host.Outcome State Fault Refusal :=
  regInsn s k (.emset k f) f.pr (emBody 1)

/-- EMCLR (R110, R198). -/
def execEmclr (k : CpId) (f : RForm) (s : State) : Host.Outcome State Fault Refusal :=
  regInsn s k (.emclr k f) f.pr (emBody 0)

/-- WRPSK. -/
def wrpskBody (f : RForm) (r : CpRegs) : Except Stop CpRegs := do
  needSys r
  wrpsBody psRwk f r

/-- WRPSK (R87, R110). -/
def execWrpsk (k : CpId) (f : RForm) (s : State) : Host.Outcome State Fault Refusal :=
  regInsn s k (.wrpsk k f) f.pr (wrpskBody f)

/-- WAIT stops issue until an interrupt is pending; with PS.EM clear it is taken before the next instruction.
Assumption 23 (DEDUCED). -/
def waitBody (k : CpId) (s : State) : State :=
  if bits (s.cr k).evpend 6 3 ≠ 0 then s.modCp k fun c => { c with evDue := !c.regs.em } else s.modCp k fun c => { c with waiting := true }

/-- WAIT (R110, R179). -/
def execWait (k : CpId) (f : RForm) (s : State) : Host.Outcome State Fault Refusal :=
  s.retireArith k .plain (.wait k f) f.pr (stateBody fun _ s => .ok (waitBody k s))

/-! Events of a CP (R198 to R202). -/

/-- The CP takes events: it could issue an instruction but for WAIT or a customer routine that waits, and a pair's buffer
has room for the frame (R285). -/
def State.live (s : State) (k : CpId) : Bool := s.standing k && s.pairRoom k 8 1

/-- EVENT_DELIVERY (R199): at an instruction boundary with PS.EM clear the lowest pending event is taken. -/
def execEventDelivery (k : CpId) (s : State) : Host.Outcome State Fault Refusal :=
  .next (if s.live k && s.eventOpen k then s.takeEvent k else s)

/-- WDOG_EXPIRY (R201): the warning becomes pending; a second expiry while it is pending checkstops the core. -/
def execWdogExpiry (k : CpId) (s : State) : Host.Outcome State Fault Refusal :=
  let c := s.cp k
  .next (if !c.inService || c.halted || c.checkstop || bits c.regs.wdog 31 0 == 0 then s
    else if bit c.regs.evpend 2 then s.doCheckstop k false else s.setPend k 2)

end Sys2Proof.Machine
end

