-- ==== Sys2Proof/Machine/Gate.lean ====
section
/-!
DEFINITION. Gates, traps and their returns: GATE, GATE.F, GRET, RETF, TRAP and TRET (R194, R195, R206, R208, R211 to R213).
-/

namespace Sys2Proof.Machine

/-- R211: what a gate call requires of the code capability g and the data capability dc. -/
def gateCheck (g dc : Cap) : Option Stop :=
  let ot := g.otype
  if !g.isSealed || g.perms &&& (pEXEC ||| pGATE) ≠ (pEXEC ||| pGATE) || ot == 0 || ot == 0xFE || ot == 0xFF then
    some (capFault 8)
  else if dc ≠ Cap.null ∧ !(dc.isSealed && dc.otype == ot) then some (capFault 8)
  else if g.base.toNat % 4 ≠ 0 ∨ g.len.toNat < 4 then some (capFault 3 g.base)
  else none

/-- R212: the gate information word. -/
def gateInfo (fast : Bool) (ot : Byte) (depth dreg : Nat) : Word :=
  BitVec.ofNat 64 (2 ^ 63 + (if fast then 2 ^ 62 else 0) + ot.toNat * 2 ^ 16 + depth * 2 ^ 8 + dreg)

/-- R212: words 0 to 7 of a gate frame. -/
def gateFrame (r : CpRegs) (fast : Bool) (g dc : Cap) (ret : Word) (dreg : Nat) : List TWord :=
  [ .ofRaw r.ps, .ofCode ret, .ofRaw (gateInfo fast g.otype r.rs.length dreg), .ofRaw 0,
    r.c[15].pair.1, r.c[15].pair.2, dc.pair.1, dc.pair.2 ]

/-- R211: the callee's authority set begins. -/
def CpRegs.enterGate (r : CpRegs) (b : BitVec 5) (g dc : Cap) : CpRegs :=
  let r := if dc = Cap.null then r else r.setC b { dc with isSealed := false }
  { r with rs := [], c := r.c.set 15 { g with isSealed := false }, pc := g.base,
           ps := insBits (insBits r.ps 39 32 g.otype.toNat) 16 16 0 }

/-- GATE: the frame goes to the trap stack. -/
def gateBody (k : CpId) (f : RForm) : Word → State → State × Option Stop :=
  fun pc s =>
    let r := s.cr k
    let g := r.cr f.a
    let dc := r.cr f.b
    match c13Check r [f.a] with
    | .error e => (s, some e)
    | .ok _ =>
      match gateCheck g dc with
      | some e => (s, some e)
      | none =>
        match s.pushCheck k 40 with
        | .error (_, w) =>
          let s' := match w with
            | some (code, pa) => s.record (mkRec 5 (s.srcOf k) code (s.partOf k) (some k) (BitVec.ofNat 64 pa))
            | none => s
          (s', some (capFault 9))
        | .ok at_ =>
          let ws := gateFrame r false g dc (pc + 4) (f.b.toNat % 16) ++ r.rs.reverse.map TWord.ofCode
          ((s.pushWords k 320 at_ ws).modRegs k fun r => r.enterGate f.b g dc, none)

/-- GATE (R179, R211, R212). -/
def execGate (k : CpId) (f : RForm) (s : State) : Host.Outcome State Fault Refusal :=
  s.retireArith k .after (.gate k f) f.pr (gateBody k f)

/-- GATE.F: the frame goes to the gate half of the fast entry bank. -/
def gateFBody (k : CpId) (f : RForm) (pc : Word) (s : State) : Except Stop State := do
  let r := s.cr k
  c13Check r [f.a]
  let g := r.cr f.a
  let dc := r.cr f.b
  match gateCheck g dc with
  | some e => .error e
  | none =>
    if bit r.feStat 1 then .error (flowFault 5)
    else
      let ws := gateFrame r true g dc (pc + 4) (f.b.toNat % 16)
      let r' : CpRegs := { r with
        fe := Vector.ofFn fun i => if 8 ≤ i.val then ws.getD (i.val - 8) .raw0 else r.fe[i]
        feStat := insBits (insBits r.feStat 31 26 r.rs.length) 1 1 1
        shG := r.rs }
      .ok (s.modRegs k fun _ => r'.enterGate f.b g dc)

/-- GATE.F (R179, R211, R212). -/
def execGateF (k : CpId) (f : RForm) (s : State) : Host.Outcome State Fault Refusal :=
  s.retireArith k .after (.gateF k f) f.pr (stateBody (gateFBody k f))

/-! Frame pops (R195). -/

/-- The words of a frame of n words at TSP. Assumption 15 (DEDUCED). -/
def State.popFrame (s : State) (k : CpId) (n : Nat) : Except Stop (List TWord) :=
  let r := s.cr k
  let top := r.tsp.toNat
  if !(r.c[13].grants (pLOAD ||| pLDCAP) && r.c[13].covers top (8 * n)) then .error (flowFault 3)
  else
    (List.range n).mapM fun i => do
      let (pa, _) ← s.cpXlate k (BitVec.ofNat 64 (top + 8 * i)) false
      s.useWord k pa

/-- The defined fields of PS. Assumption 15 (DEDUCED). -/
abbrev psMask : Word := 0xFF0001FE1F

/-- The registers of a frame, words from a list: PS, the return address and c15, the address checked (R107).
Assumption 15 (DEDUCED). -/
def restoreBase (r : CpRegs) (ws : List TWord) (addrOk : BitVec 6 → Bool) (i15 : Nat) : Except Stop CpRegs :=
  let w := fun (i : Nat) => ws.getD i TWord.raw0
  match Cap.ofPair (w i15) (w (i15 + 1)) with
  | none => .error (flowFault 7)
  | some c15 =>
    if !addrOk (w 1).tag then .error (flowFault 7)
    else
      match targetCheck c15 (w 1).data with
      | some e => .error e
      | none => .ok { r with ps := (w 0).data &&& psMask, c := r.c.set 15 c15, pc := (w 1).data }

/-- R206, R208: CODE or RAW. -/
def codeOrRaw (t : BitVec 6) : Bool := t == tagCODE || t == tagRAW

/-- TRET. -/
def tretBody (k : CpId) (s : State) : Except Stop State := do
  let r := s.cr k
  needSys r
  let ws ← s.popFrame k 8
  if bit (ws.getD 2 .raw0).data 63 then .error (flowFault 4)
  else
    let r' ← restoreBase r ws codeOrRaw 6
    .ok (((s.touchWords k r.tsp 8).forEach ws fun w s => s.logLoad k w).modRegs k fun _ => { r' with tsp := r.tsp + 64 })

/-- TRET (R206). -/
def execTret (k : CpId) (f : RForm) (s : State) : Host.Outcome State Fault Refusal :=
  s.retire k .after (insnWord (.tret k f)) (Instr.legal (.tret k f)) f.pr (stateBody fun _ s => tretBody k s)

/-- RETF of the event half. -/
def retfEventBody (f : RForm) (r : CpRegs) : Except Stop CpRegs := do
  needSys r
  let m ← numOp 2 r f.b
  if bit r.feStat 0 = false then .error (flowFault 6)
  else
    let r' ← restoreBase r (r.fe.toList.take 8) codeOrRaw 6
    let r'' := r'.clearC m.data [13, 15]
    .ok { r'' with rs := r.shE, feStat := insBits r.feStat 0 0 0 }

/-- RETF with a = 0 (R208). -/
def execRetfEvent (k : CpId) (f : RForm) (s : State) : Host.Outcome State Fault Refusal :=
  s.retire k .after (insnWord (.retfEvent k f)) (Instr.legal (.retfEvent k f)) f.pr (regBody k (retfEventBody f))

/-- R213: what a gate frame restores: the caller's registers, c_DREG, and the clearing of the mask. -/
def gateRestore (r : CpRegs) (ws : List TWord) (mask : Word) (rs : List Word)
    (addrOk : BitVec 6 → Bool) : Except Stop CpRegs := do
  let w := fun (i : Nat) => ws.getD i TWord.raw0
  let dreg := bits (w 2).data 3 0
  if dreg = 13 ∨ dreg = 15 then .error (flowFault 7)
  else if (w 0).tag ≠ tagRAW then .error (flowFault 7)
  else
    match Cap.ofPair (w 6) (w 7) with
    | none => .error (flowFault 7)
    | some dc =>
      let r' ← restoreBase r ws addrOk 4
      .ok { (r'.clearC mask [13, 15]).setC (BitVec.ofNat 5 dreg) dc with rs := rs }

/-- GRET. Assumption 15 (DEDUCED). -/
def gretBody (k : CpId) (f : RForm) (s : State) : Except Stop State := do
  let r := s.cr k
  let m ← numOp 1 r f.a
  let ws ← s.popFrame k 40
  let info := (ws.getD 2 .raw0).data
  if bit info 63 = false ∨ bit info 62 = true then .error (flowFault 4)
  else
    let depth := bits info 13 8
    let es := (ws.drop 8).take depth
    if 32 < depth ∨ es.any (·.tag ≠ tagCODE) = true then .error (flowFault 7)
    else
      let r' ← gateRestore r ws m.data (es.reverse.map TWord.data) (· == tagCODE)
      .ok (((s.touchWords k r.tsp 40).forEach ws fun w s => s.logLoad k w).modRegs k fun _ => { r' with tsp := r.tsp + 320 })

/-- GRET (R195, R213). -/
def execGret (k : CpId) (f : RForm) (s : State) : Host.Outcome State Fault Refusal :=
  s.retire k .after (insnWord (.gret k f)) (Instr.legal (.gret k f)) f.pr (stateBody fun _ s => gretBody k f s)

/-- RETF of the gate half. Assumption 15 (DEDUCED). -/
def retfGateBody (f : RForm) (r : CpRegs) : Except Stop CpRegs := do
  let m ← numOp 2 r f.b
  if bit r.feStat 1 = false then .error (flowFault 6)
  else
    let ws := r.fe.toList.drop 8
    let info := (ws.getD 2 .raw0).data
    if bit info 63 = false ∨ bit info 62 = false then .error (flowFault 4)
    else
      let r' ← gateRestore r ws m.data r.shG codeOrRaw
      .ok { r' with feStat := insBits r.feStat 1 1 0 }

/-- RETF with a = 1 (R208, R213). -/
def execRetfGate (k : CpId) (f : RForm) (s : State) : Host.Outcome State Fault Refusal :=
  s.retire k .after (insnWord (.retfGate k f)) (Instr.legal (.retfGate k f)) f.pr (regBody k (retfGateBody f))

/-! TRAP (R179, R204, R205). -/

/-- The 10-bit value of TRAP. -/
def trapValue (f : RForm) : Nat := f.a.toNat * 32 + f.b.toNat

/-- TRAP: its effect is to take the trap; the handler returns behind it. -/
def execTrap (k : CpId) (f : RForm) (s : State) : Host.Outcome State Fault Refusal :=
  s.retireArith k .plain (.trap k f) f.pr (fun _ s => (s, some (.mk 0x09 (trapValue f))))

end Sys2Proof.Machine
end

