-- ==== Sys2Proof/Machine/Jtag.lean ====
section
/-!
DEFINITION. Register and storage access through the IEEE 1149.1 port (R482, R502).
-/

namespace Sys2Proof.Machine

/-- Partitions whose scope alone is open. -/
def State.jtagParts (s : State) : List PartId := (List.finRange 8).filter fun n => s.flag oESF_STAT (12 + n)

/-- The bits of a location that the port reaches: all of them at device scope, Esfort's apart (R488); what a view shows at
partition scope. Assumption 71 (DEDUCED). -/
def State.jtagMask (s : State) (off : Nat) (write : Bool) : Word :=
  match regFields off with
  | none => 0
  | some fs =>
    let all := BitVec.ofNat 64 (definedMask fs)
    if s.debugOpen none then (if write && isEsf off then 0 else all)
    else s.jtagParts.foldl (fun (m : Word) (n : PartId) =>
      match viewX n off with
      | some x => if s.viewLoc n x = some off then m ||| s.viewFilter n off all else m
      | none => m) 0

/-- The port reaches a word of storage. Assumption 71 (DEDUCED). -/
def State.jtagReaches (s : State) (pa : Nat) : Bool :=
  s.debugOpen none || s.jtagParts.any fun n => (s.mappedFrames n).contains (pa / 2 ^ 21)

/-- JTAG_DEBUG_ACCESS (R502): an address beyond main storage does not exist. A write of storage replaces the data bits of
the word: no type tag changes (R62), no capability pair is broken, the collector bits stay, and poison ends as for any
full-word write (R78). Assumption 71 (DEDUCED). -/
def execJtagDebugAccess (a : JtagAccess) (s : State) : Host.Outcome State Fault Refusal :=
  if s.running = false then .next s
  else
    match a with
    | .regRead off => .next { s with resp := .word (s.liveReg off.toNat &&& s.jtagMask off.toNat false) }
    | .regWrite off v =>
      let m := s.jtagMask off.toNat true
      let old := s.reg off.toNat
      if m = 0 then .next s
      else .next ((s.setReg off.toNat ((old &&& ~~~m) ||| (v &&& m))).regEffect .lkp off.toNat old (v &&& m) off.toNat)
    | .memRead pa =>
      let w := s.mem.word (pa.toNat / 8 * 8)
      if storageEnd < pa.toNat / 8 * 8 + 8 then .fault .noStorage
      else if s.jtagReaches pa.toNat then
        .next { s with resp := .bytes (leBytes 8 w.data.toNat ++ [w.col ++ w.tag]) w.poison }
      else .next s
    | .memWrite pa v =>
      let at_ := pa.toNat / 8 * 8
      if storageEnd < at_ + 8 then .fault .noStorage
      else if s.jtagReaches pa.toNat then
        .next (s.dmaStore none ⟨at_, v, 0xFF, none, none, true⟩)
      else .next s

end Sys2Proof.Machine
end

