-- ==== Sys2Proof/Machine/Lisp.lean ====
section
/-!
DEFINITION. Generic arithmetic, lists, allocation and collector instructions (R124 to R157).
-/

namespace Sys2Proof.Machine

/-! GEN (R127, R128, R133). -/

/-- An escape of a GEN instruction: g29 and g30 are the operands, the link is PC + 4. -/
def genEscape (vec reason : Nat) (a b : TWord) : Stop := .escape ⟨vec, reason, true, a, b⟩

/-- The signed value of a FIX word. -/
def fixVal (w : TWord) : Int := w.data.toInt

/-- R128: a FIX or FLO operand as binary64, with NX when the conversion is inexact. -/
def genFloat (rm : Nat) (w : TWord) : FVal × Exc :=
  if w.tag = tagFIX then
    let c := FFmt.b64.pack rm (.ofInt (fixVal w))
    (FFmt.b64.unpack c.1, c.2)
  else (FFmt.b64.unpack w.data.toNat, 0)

/-- A FIX or FLO operand exactly. -/
def genExact (w : TWord) : FVal := if w.tag = tagFIX then .ofInt (fixVal w) else FFmt.b64.unpack w.data.toNat

/-- The pair of tags is FIX or FLO on each side. -/
def genPair (a b : TWord) : Bool := (a.tag == tagFIX || a.tag == tagFLO) && (b.tag == tagFIX || b.tag == tagFLO)

/-- A FIX result that fits in 64 signed bits. -/
def fitsFix (v : Int) : Bool := decide (-(2 : Int) ^ 63 ≤ v ∧ v < (2 : Int) ^ 63)

/-- GADD, GSUB, GMUL. -/
def genBody (vec : Nat) (iop : Int → Int → Int) (fop : FFmt → Nat → FVal → FVal → Nat × Exc) (f : RForm) (r : CpRegs) :
    Except Stop (CpRegs × Exc) := do
  let a ← anyOp r f.a
  let b ← anyOp r f.b
  if a.tag = tagFIX ∧ b.tag = tagFIX then
    let v := iop (fixVal a) (fixVal b)
    if fitsFix v then .ok (r.setG f.d (.ofFix (BitVec.ofInt 64 v)), 0) else .error (genEscape vec 1 a b)
  else if genPair a b then
    let x := genFloat r.rm a
    let y := genFloat r.rm b
    let z := fop .b64 r.rm x.1 y.1
    .ok (r.setG f.d (fpWord false z.1), x.2 ||| y.2 ||| z.2)
  else .error (genEscape vec 0 a b)

/-- GADD (R127, R128). -/
def execGadd (k : CpId) (f : RForm) (s : State) : Host.Outcome State Fault Refusal :=
  arithInsn s k (.gadd k f) f.pr (genBody 0 (fun a b => a + b) (fun F rm a b => F.addV rm a b) f)

/-- GSUB (R127, R128). -/
def execGsub (k : CpId) (f : RForm) (s : State) : Host.Outcome State Fault Refusal :=
  arithInsn s k (.gsub k f) f.pr (genBody 1 (fun a b => a - b) (fun F rm a b => F.addV rm a b.neg) f)

/-- GMUL (R127, R128). -/
def execGmul (k : CpId) (f : RForm) (s : State) : Host.Outcome State Fault Refusal :=
  arithInsn s k (.gmul k f) f.pr (genBody 2 (fun a b => a * b) (fun F rm a b => F.mulV rm a b) f)

/-- GNEG: g_a only. -/
def gnegBody (f : RForm) (r : CpRegs) : Except Stop (CpRegs × Exc) := do
  let a ← anyOp r f.a
  if a.tag = tagFIX then
    if fitsFix (-fixVal a) then .ok (r.setG f.d (.ofFix (-a.data)), 0) else .error (genEscape 3 1 a .raw0)
  else if a.tag = tagFLO then fpSignBody (fun b => !b) false f r
  else .error (genEscape 3 0 a .raw0)

/-- GNEG (R127). -/
def execGneg (k : CpId) (f : RForm) (s : State) : Host.Outcome State Fault Refusal :=
  arithInsn s k (.gneg k f) f.pr (gnegBody f)

/-- GCMPLT and GCMPEQ: exact comparison of the values; flags as FCMPLT and FCMPEQ raise them. -/
def genCmpBody (vec : Nat) (ok : Ordering → Bool) (quietNv : Bool) (f : RForm) (r : CpRegs) :
    Except Stop (CpRegs × Exc) := do
  let a ← anyOp r f.a
  let b ← anyOp r f.b
  if genPair a b then
    let x := genExact a
    let y := genExact b
    let v := match x.cmp y with
      | some o => ok o
      | none => false
    let nv := x.isSig || y.isSig || (quietNv && (x.isNan || y.isNan))
    .ok (r.putP f.d v, if nv then xNV else 0)
  else .error (genEscape vec 0 a b)

/-- GCMPLT (R127, R128). -/
def execGcmplt (k : CpId) (f : RForm) (s : State) : Host.Outcome State Fault Refusal :=
  arithInsn s k (.gcmplt k f) f.pr (genCmpBody 4 (fun o => o == .lt) true f)

/-- GCMPEQ (R127, R128). -/
def execGcmpeq (k : CpId) (f : RForm) (s : State) : Host.Outcome State Fault Refusal :=
  arithInsn s k (.gcmpeq k f) f.pr (genCmpBody 5 (fun o => o == .eq) false f)

/-! Lists (R138 to R141). -/

/-- An escape of a LIST instruction: g29 is w, g30 is g_a. -/
def listEscape (reason : Nat) (w ga : TWord) : Stop := .escape ⟨8, reason, true, w, ga⟩

/-- R140: the address of the cell that a CONS word names, after up to 4 forwarding words; fuel bounds the hops. A poisoned
first word is consumed here: the model's choice, Assumption 88 (DESIGN CHOICE). -/
def State.cellAt (s : State) (k : CpId) (ga : TWord) : Nat → Nat → TWord → Except Stop (State × Word)
  | 0, _, p => .error (listEscape 3 p ga)
  | fuel + 1, hops, p => do
    let (pa, d) ← s.access k (s.cr k).c[12] pLOAD p.data 8 8 false
    let w ← s.useWord k pa
    let s := (s.touchLoad k p.data pa d).logLoad k w
    if w.tag ≠ tagFWD then .ok (s, p.data)
    else if hops = 4 then .error (listEscape 3 p ga)
    else s.cellAt k ga fuel (hops + 1) { p with data := w.data }

/-- The heap capability (R125). -/
def State.heapCap (s : State) (k : CpId) : Cap := (s.cr k).c[12]

/-- CAR and CDR at a byte offset in the cell. -/
def carBody (k : CpId) (off : Word) (f : RForm) (s : State) : Except Stop State := do
  let a ← anyOp (s.cr k) f.a
  if a.tag = tagNIL then .ok (s.putG k f.d .nil)
  else if a.tag = tagCONS then
    let (s, ea) ← s.cellAt k a 5 0 a
    let (s, w) ← s.loadWord k (s.heapCap k) (ea + off)
    .ok (s.putG k f.d w)
  else .error (listEscape 2 a a)

/-- CAR (R138, R140). -/
def execCar (k : CpId) (f : RForm) (s : State) : Host.Outcome State Fault Refusal :=
  s.retire k .plain (insnWord (.car k f)) (Instr.legal (.car k f)) f.pr (stateBody fun _ s => carBody k 0 f s)

/-- CDR (R138, R140). -/
def execCdr (k : CpId) (f : RForm) (s : State) : Host.Outcome State Fault Refusal :=
  s.retire k .plain (insnWord (.cdr k f)) (Instr.legal (.cdr k f)) f.pr (stateBody fun _ s => carBody k 8 f s)

/-- RPLACA and RPLACD. -/
def rplacBody (k : CpId) (off : Word) (f : RForm) (s : State) : Except Stop State := do
  let a ← anyOp (s.cr k) f.a
  let b ← anyOp (s.cr k) f.b
  if a.tag = tagCONS then
    let (s, ea) ← s.cellAt k a 5 0 a
    s.storeWord k (s.heapCap k) (ea + off) b
  else .error (listEscape 2 a a)

/-- RPLACA (R139, R140). -/
def execRplaca (k : CpId) (f : RForm) (s : State) : Host.Outcome State Fault Refusal :=
  s.retire k .plain (insnWord (.rplaca k f)) (Instr.legal (.rplaca k f)) f.pr
    (stateBody fun _ s => rplacBody k 0 f s)

/-- RPLACD (R139, R140). -/
def execRplacd (k : CpId) (f : RForm) (s : State) : Host.Outcome State Fault Refusal :=
  s.retire k .plain (insnWord (.rplacd k f)) (Instr.legal (.rplacd k f)) f.pr
    (stateBody fun _ s => rplacBody k 8 f s)

/-- A word that is loaded through the read barrier and used at once, its poison consumed (R79, R141): the model's choice,
Assumption 88 (DESIGN CHOICE). -/
def State.loadUsed (s : State) (k : CpId) (ea : Word) : Except Stop (State × TWord) := do
  let (s', w) ← s.loadWord k (s.heapCap k) ea
  if w.poison then
    let (pa, _) ← s.access k (s.heapCap k) pLOAD ea 8 8 false
    .error (machineCheck 1 pa)
  else .ok (s', w)

/-- R141: whether the element of the current cell ends the search, with the result. -/
def searchHit (k : CpId) (assq : Bool) (key tail car : TWord) (s : State) : Except Stop (State × Option TWord) := do
  if assq then
    if car.tag = tagNIL then .ok (s, none)
    else if car.tag = tagCONS then
      let (s, ea) ← s.cellAt k key 5 0 car
      let (s, w) ← s.loadUsed k ea
      .ok (s, if eqw w key then some car else none)
    else .error (listEscape 2 car key)
  else .ok (s, if eqw car key then some tail else none)

/-- R141: one cell of ASSQ or MEMQ. -/
def searchUnit (k : CpId) (assq : Bool) (f : RForm) (s : State) : Except Stop (State × Bool) := do
  let key ← anyOp (s.cr k) f.a
  let tail ← anyOp (s.cr k) f.b
  if tail.tag = tagNIL then .ok (s.putG k f.d .nil, true)
  else if tail.tag = tagCONS then
    let (s, ea) ← s.cellAt k key 5 0 tail
    let (s, car) ← s.loadUsed k ea
    let (s, hit) ← searchHit k assq key tail car s
    match hit with
    | some w => .ok (s.putG k f.d w, true)
    | none =>
      let (s, cdr) ← s.loadWord k (s.heapCap k) (ea + 8)
      .ok (s.putG k f.b cdr, false)
  else .error (listEscape 2 tail key)

/-- More cells than any list without a cycle has; a search that outlasts it stops between units. -/
abbrev searchFuel : Nat := 2 ^ 34

/-- ASSQ (R121, R140, R141). -/
def execAssq (k : CpId) (f : RForm) (s : State) : Host.Outcome State Fault Refusal :=
  s.retire k .unit (insnWord (.assq k f)) (Instr.legal (.assq k f)) f.pr
    (loopBody k (searchUnit k true f) fun _ => searchFuel)

/-- MEMQ (R121, R140, R141). -/
def execMemq (k : CpId) (f : RForm) (s : State) : Host.Outcome State Fault Refusal :=
  s.retire k .unit (insnWord (.memq k f)) (Instr.legal (.memq k f)) f.pr
    (loopBody k (searchUnit k false f) fun _ => searchFuel)

/-! Allocation (R142 to R145). -/

/-- The write of one word of a new object: its card write, if any, and the word itself (R62, R142, R147). -/
def State.objectWrite (s : State) (k : CpId) (ea : Word) (w : TWord) : Except Stop (List Held) := do
  let (pa, d) ← s.access k (s.cr k).c[14] pSTORE ea 8 8 true
  let card ← s.cardFor k ea d w
  .ok (card.toList ++ [.store (.fresh pa w) (policyOf d)])

/-- R145: allocate and write an object of the words given; its address. -/
def State.allocate (s : State) (k : CpId) (ws : List TWord) : Except Stop (State × Word) := do
  let c14 := (s.cr k).c[14]
  let n := ws.length
  if c14.isSealed then .error (capFault 6 c14.base)
  else if c14.perms &&& pSTORE ≠ pSTORE then .error (capFault 4 c14.base)
  else if c14.len.toNat < 8 * n then .error (.escape ⟨9, 4, false, .ofFix (BitVec.ofNat 64 n), .raw0⟩)
  else
    let outs ← (ws.zipIdx).mapM fun x => s.objectWrite k (c14.base + BitVec.ofNat 64 (8 * x.2)) x.1
    let s := s.forEach ws.zipIdx fun x s =>
      s.touchStore k (c14.base + BitVec.ofNat 64 (8 * x.2)) x.1 (if 1 < (outs.getD x.2 []).length then (outs.getD x.2 []).head? else none)
    let s := s.forEach outs.flatten fun h s => s.hold k h
    let c' := { c14 with base := c14.base + BitVec.ofNat 64 (8 * n), len := c14.len - BitVec.ofNat 40 (8 * n) }
    .ok (s.modRegs k fun r => { r with c := r.c.set 14 c' }, c14.base)

/-- CONS. -/
def consBody (k : CpId) (f : RForm) (s : State) : Except Stop State := do
  let a ← anyOp (s.cr k) f.a
  let b ← anyOp (s.cr k) f.b
  let (s, ea) ← s.allocate k [a, b]
  .ok (s.putG k f.d (.mk0 tagCONS ea))

/-- CONS (R142, R145). -/
def execCons (k : CpId) (f : RForm) (s : State) : Host.Outcome State Fault Refusal :=
  s.retire k .plain (insnWord (.cons k f)) (Instr.legal (.cons k f)) f.pr (stateBody fun _ s => consBody k f s)

/-- R133: LARGE; the words requested. -/
def largeEscape (n : Nat) : Stop := .escape ⟨9, 5, true, .ofFix (BitVec.ofNat 64 n), .raw0⟩

/-- Words rounded up to an even number. -/
def evenUp (n : Nat) : Nat := n + n % 2

/-- ALLOC. -/
def allocBody (k : CpId) (f : RForm) (s : State) : Except Stop State := do
  let a ← numOp 1 (s.cr k) f.a
  let b ← numOp 2 (s.cr k) f.b
  let n := a.data.toNat
  let tag : BitVec 6 := b.data.setWidth 6
  if n = 0 ∨ s.ptrClass k tag = false then .error illegalOperand
  else if 1024 < evenUp n then .error (largeEscape n)
  else
    let (s, ea) ← s.allocate k (List.replicate (evenUp n) .raw0)
    .ok (s.putG k f.d (.mk0 tag ea))

/-- ALLOC (R143, R145). -/
def execAlloc (k : CpId) (f : RForm) (s : State) : Host.Outcome State Fault Refusal :=
  s.retire k .plain (insnWord (.alloc k f)) (Instr.legal (.alloc k f)) f.pr (stateBody fun _ s => allocBody k f s)

/-- R126, R144: the header of an object of n words after it; kind and subtype as bits 63:48 of g_b. -/
def headerWord (b : Word) (n : Nat) : TWord := .mk0 tagHDR ((b &&& 0xFFFF000000000000) ||| BitVec.ofNat 64 n)

/-- ALLOCV. -/
def allocvBody (k : CpId) (f : RForm) (s : State) : Except Stop State := do
  let a ← numOp 1 (s.cr k) f.a
  let b ← numOp 2 (s.cr k) f.b
  let n := a.data.toNat
  let kind : BitVec 6 := b.data.extractLsb' 58 6
  if s.ptrClass k kind = false then .error illegalOperand
  else if 1023 < n then .error (largeEscape (n + 1))
  else
    let (s, ea) ← s.allocate k (headerWord b.data n :: List.replicate (evenUp (n + 1) - 1) .raw0)
    .ok (s.putG k f.d (.mk0 kind ea))

/-- ALLOCV (R126, R144, R145). -/
def execAllocv (k : CpId) (f : RForm) (s : State) : Host.Outcome State Fault Refusal :=
  s.retire k .plain (insnWord (.allocv k f)) (Instr.legal (.allocv k f)) f.pr (stateBody fun _ s => allocvBody k f s)

/-! Collector instructions (R154 to R157). MARK, COLSET and FWDSET are sync points between checkpoints (R273, R286). -/

/-- A write of collector bits alone (R62, R154, R156). -/
def colStore (pa : Nat) (v : BitVec 2) : StoreOut := ⟨pa, 0, 0, none, some v, true⟩

/-- MARK. -/
def markBody (k : CpId) (f : RForm) (s : State) : Except Stop State := do
  let a ← tagOp (s.ptrClass k) 1 (s.cr k) f.a
  let (pa, d) ← s.access k (s.heapCap k) (pLOAD ||| pSTORE) a.data 8 8 true
  let w ← s.readWord k pa
  let s := s.touchLoad k a.data pa d
  let v : BitVec 2 := (s.cr k).colctl.extractLsb' 2 2
  if w.col = v then .ok (s.modRegs k fun r => r.putP f.d true)
  else .ok ((s.hold k (.store (colStore pa v) (policyOf d))).modRegs k fun r => r.putP f.d false)

/-- MARK (R154). -/
def execMark (k : CpId) (f : RForm) (s : State) : Host.Outcome State Fault Refusal :=
  s.retire k .sync (insnWord (.mark k f)) (Instr.legal (.mark k f)) f.pr (stateBody fun _ s => markBody k f s)

/-- R155: the target region of a pointer is valid and condemned. -/
def State.condemned (s : State) (k : CpId) (w : TWord) : Except Stop Bool := do
  if s.ptrClass k w.tag then
    match ← s.targetRegion k w.data with
    | some d => .ok (bit d 62)
    | none => .ok false
  else .ok false

/-- R155: one word of SCANW. -/
def scanwUnit (k : CpId) (f : RForm) (s : State) : Except Stop (State × Bool) := do
  let a ← baseOp (s.ptrClass k) 1 (s.cr k) f.a
  let b ← numOp 2 (s.cr k) f.b
  if b.data = 0 then .ok (s.putG k f.d .nil, true)
  else
    let (pa, d) ← s.access k (s.heapCap k) pLOAD a.data 8 8 false
    let w ← s.useWord k pa
    let hit ← s.condemned k w
    let s := if s.ptrClass k w.tag then s.touchRlb k w.data else s
    let s := (s.touchLoad k a.data pa d).logLoad k w
    let s := (s.putG k f.a (.ofRaw (a.data + 8))).putG k f.b (.ofFix (b.data - 1))
    .ok (if hit then s.putG k f.d (.ofRaw a.data) else s, hit)

/-- SCANW (R121, R155). -/
def execScanw (k : CpId) (f : RForm) (s : State) : Host.Outcome State Fault Refusal :=
  s.retire k .unit (insnWord (.scanw k f)) (Instr.legal (.scanw k f)) f.pr
    (loopBody k (scanwUnit k f) fun s => ((s.cr k).gr f.b).data.toNat + 1)

/-- COLGET. -/
def colgetBody (k : CpId) (f : RForm) (s : State) : Except Stop State := do
  let a ← baseOp (s.ptrClass k) 1 (s.cr k) f.a
  let (pa, d) ← s.access k (s.heapCap k) pLOAD a.data 8 8 false
  let w ← s.readWord k pa
  .ok (((s.touchLoad k a.data pa d).logLoad k w).putG k f.d (.ofFix (w.col.setWidth 64)))

/-- COLGET (R156). -/
def execColget (k : CpId) (f : RForm) (s : State) : Host.Outcome State Fault Refusal :=
  s.retire k .plain (insnWord (.colget k f)) (Instr.legal (.colget k f)) f.pr (stateBody fun _ s => colgetBody k f s)

/-- COLSET. -/
def colsetBody (k : CpId) (f : RForm) (s : State) : Except Stop State := do
  let a ← baseOp (s.ptrClass k) 1 (s.cr k) f.a
  let b ← numOp 2 (s.cr k) f.b
  let (pa, d) ← s.access k (s.heapCap k) pSTORE a.data 8 8 true
  let _ ← s.readWord k pa
  .ok ((s.touchLoad k a.data pa d).hold k (.store (colStore pa (b.data.setWidth 2)) (policyOf d)))

/-- COLSET (R156). -/
def execColset (k : CpId) (f : RForm) (s : State) : Host.Outcome State Fault Refusal :=
  s.retire k .sync (insnWord (.colset k f)) (Instr.legal (.colset k f)) f.pr (stateBody fun _ s => colsetBody k f s)

/-- FWDSET. -/
def fwdsetBody (k : CpId) (f : RForm) (s : State) : Except Stop State := do
  let a ← baseOp (s.ptrClass k) 1 (s.cr k) f.a
  let b ← anyOp (s.cr k) f.b
  let c ← anyOp (s.cr k) f.d
  let (pa, d) ← s.access k (s.heapCap k) (pLOAD ||| pSTORE) a.data 8 8 true
  let w ← s.useWord k pa
  let s := s.touchLoad k a.data pa d
  let s := if eqw w c then s.hold k (.store ⟨pa, b.data, 0xFF, some tagFWD, none, false⟩ (policyOf d)) else s
  .ok ((s.logLoad k (asG w)).putG k f.d (asG w))

/-- FWDSET (R157). -/
def execFwdset (k : CpId) (f : RForm) (s : State) : Host.Outcome State Fault Refusal :=
  s.retire k .sync (insnWord (.fwdset k f)) (Instr.legal (.fwdset k f)) f.pr (stateBody fun _ s => fwdsetBody k f s)

end Sys2Proof.Machine
end

