-- ==== Sys2Proof/Machine/Micro.lean ====
section
/-!
DEFINITION. Customer microcode (chapter 08): the sequencer, customer instructions of a CP and
customer routines of a channel engine, the event routine, the watchdog and control-store errors (R219 to R242, R316, R350,
R351).
-/

namespace Sys2Proof.Machine

/-- R223: the ALU operations: the INT-class operation of minor ALU − 1, PASSA, PASSB. Assumption 32 (DEDUCED). -/
def aluOp (op : Nat) (a b : Word) : Word :=
  match op with
  | 0x01 => a + b
  | 0x02 => a - b
  | 0x03 => a &&& b
  | 0x04 => a ||| b
  | 0x05 => a ^^^ b
  | 0x06 => a &&& ~~~b
  | 0x07 => a <<< shiftAmount b
  | 0x08 => a >>> shiftAmount b
  | 0x09 => a.sshiftRight (shiftAmount b)
  | 0x0A => a.rotateLeft (shiftAmount b)
  | 0x0B => if a.slt b then a else b
  | 0x0C => if a.slt b then b else a
  | 0x0D => if a.ult b then a else b
  | 0x0E => if a.ult b then b else a
  | 0x11 => b
  | _ => a

/-- The ALU operation reads RA, RB. -/
def MW.usesA (w : MW) : Bool := w.alu != 0 && w.alu != 0x11
def MW.usesB (w : MW) : Bool := w.bsrc == 0 && w.alu != 0 && w.alu != 0x0F && w.alu != 0x10

/-- The B operand (R223). -/
def MW.bVal (w : MW) (rb : Word) : Word :=
  match w.bsrc with
  | 0 => rb
  | 1 => BitVec.ofNat 64 w.imm
  | 2 => (BitVec.ofNat 32 w.imm).signExtend 64
  | _ => BitVec.ofNat 64 (w.imm * 2 ^ 32)

/-- The flags that COND 1 to 4 test: zero, negative, carry, tag check passed. The carry of an operation other than the
addition is not stated. Assumption 33 (DEDUCED). -/
def aluFlags (w : MW) (old : BitVec 4) (a b r : Word) (open_ : Bool) : BitVec 4 :=
  if w.alu = 0 then old
  else
    let carry := if w.alu = 1 then decide (2 ^ 64 ≤ a.toNat + b.toNat) else open_
    BitVec.ofNat 4 ((if r = 0 then 1 else 0) + (if r.msb then 2 else 0) + (if carry then 4 else 0)) ||| (old &&& 8)

/-- R223: the CRC unit: the seed in RA, 8 or 4 bytes of RB, low byte first. Assumption 32 (DEDUCED). -/
def MW.crcVal (w : MW) (ra rb : Word) : Word :=
  let poly : BitVec 32 := if w.crc % 2 = 1 then 0x82F63B78 else 0xEDB88320
  let bs := leBytes (if w.crc ≤ 2 then 8 else 4) rb.toNat
  (bs.foldl (crcByte poly) (ra.setWidth 32)).setWidth 64

/-- R225: base clocks that the operations need. -/
def MW.needs (w : MW) : Nat :=
  let tests := w.seq == 1 || w.seq == 2 || w.waitev == 3
  let own := ((w.cond == 1 || w.cond == 2 || w.cond == 3) && w.alu != 0) || (w.cond == 4 && (w.tagu == 1 || w.tagu == 2))
  if (tests && own) || w.seq == 5 || w.crc == 1 || w.crc == 2 then 2 else 1

/-- The microcycle is stretched. -/
def MW.stretched (w : MW) : Bool := decide (w.clen + 1 < w.needs)

/-- The loop counter (R223). -/
def MW.loopVal (w : MW) (lc : BitVec 16) : BitVec 16 :=
  match w.loop with
  | 1 => BitVec.ofNat 16 w.imm
  | 2 => lc - 1
  | _ => lc

/-! Sequencing. -/

/-- What follows a microword. -/
inductive Flow where
  | go (upc : Nat) (st : List (BitVec 14))
  | finish
  | fault
  /-- RETM with nothing on the microstack -/
  | under
  /-- CALL with the microstack full -/
  | full
  deriving DecidableEq, Repr

/-- R223: SEQ; depth is the number of microstack entries that a routine may use, space the control-store size. -/
def MW.flow (w : MW) (upc : Nat) (st : List (BitVec 14)) (cond : Bool) (res : Word) (depth space : Nat) : Flow :=
  let next := (upc + 1) % space
  match w.seq with
  | 0x0 => .go (w.next % space) st
  | 0x1 => .go (if cond then w.next % space else next) st
  | 0x2 => .go (if cond then next else w.next % space) st
  | 0x3 => if depth ≤ st.length then .full else .go (w.next % space) (BitVec.ofNat 14 next :: st)
  | 0x4 => match st with | a :: t => .go a.toNat t | [] => .under
  | 0x5 => .go ((w.next + res.toNat % 16) % space) st
  | 0x6 => .finish
  | 0x7 => .fault
  | _ => .go next st

/-- A microword by location. -/
def Seq.word (q : Seq) (a : Nat) : Option MW := (q.store.find? fun x => x.1 = a).map fun x => MW.of x.2

/-- R236: a transfer out of the customer region reaches only marked locations. -/
def Seq.mayGo (q : Seq) (base frm to_ : Nat) : Bool := frm < base || base ≤ to_ || q.entries.contains to_

/-- R226: microwords that one command runs at most; a routine that has not ended by then runs on. Assumption 34 (DEDUCED). -/
abbrev microFuel : Nat := 65536

/-! Customer instructions of a CP (R231 to R242). -/

/-- What a customer instruction's routine works on. -/
structure CpMicro where
  s : State
  q : Seq
  /-- the CP as it stands when the routine is abandoned: before the instruction, or at the last COMMIT -/
  base : Cp

/-- The instruction: its site, fields, word, decode entry and address. -/
structure CustIn where
  k : CpId
  t : SiteId
  f : RForm
  insn : BitVec 32
  cdt : Word
  pc : Word

/-- DUSE, AUSE or BUSE. -/
def CustIn.use (c : CustIn) (i : Nat) : Nat := bits c.cdt (51 - 2 * i) (50 - 2 * i)
/-- The d, a or b field. -/
def CustIn.field (c : CustIn) (i : Nat) : BitVec 5 := match i with | 0 => c.f.d | 1 => c.f.a | _ => c.f.b

/-- R224: a register as the microword reads it. Assumption 33 (DEDUCED). -/
def CpMicro.read (m : CpMicro) (c : CustIn) (i : Nat) : TWord :=
  let r := m.s.cr c.k
  if i < 32 then r.gr (BitVec.ofNat 5 i)
  else if i < 48 then m.q.t.toList.getD (i - 32) TWord.raw0
  else if i < 51 then
    let f := c.field (i - 48)
    match c.use (i - 48) with
    | 1 => r.gr f
    | 2 => .ofRaw (if r.pr f then 1 else 0)
    | _ => TWord.raw0
  else if i = 51 then .ofRaw (c.insn.setWidth 64)
  else if i = 52 then .ofRaw c.pc
  else if i = 53 then .ofRaw r.ps
  else .ofRaw m.s.freeVal

/-- R236: what a microword of the customer region may write. -/
def CustIn.mayWrite (c : CustIn) (upc i : Nat) : Bool :=
  decide (upc < cpCustBase) || (32 ≤ i && i < 48) || (i == 48 && bit c.cdt 44) || ((i == 49 || i == 50) && bit c.cdt 61)

/-- R224, R236: a register write. -/
def CpMicro.write (m : CpMicro) (c : CustIn) (upc i : Nat) (v : TWord) : CpMicro :=
  if !c.mayWrite upc i then m
  else if i < 32 then { m with s := m.s.modRegs c.k fun r => r.setG (BitVec.ofNat 5 i) v }
  else if i < 48 then { m with q := { m.q with t := m.q.t.setIfInBounds (i - 32) v } }
  else if i < 51 then
    let f := c.field (i - 48)
    match c.use (i - 48) with
    | 1 => { m with s := m.s.modRegs c.k fun r => r.setG f v }
    | 2 => { m with s := m.s.modRegs c.k fun r => r.putP f (bit v.data 0) }
    | _ => m
  else m

/-- The operand number of a register in a tag fault. -/
def opndOf (i dflt : Nat) : Nat := if i = 48 then 0 else if i = 49 then 1 else if i = 50 then 2 else dflt

/-- The memory port of a CP (R223, R236). Assumption 32 (DEDUCED). -/
def CpMicro.port (m : CpMicro) (c : CustIn) (w : MW) (ea : Word) (v : TWord) : Except Stop (State × TWord) := do
  let k := c.k
  let r := m.s.cr k
  let cap := r.c.toList.getD w.mcap Cap.null
  if w.mem ≠ 0 then c13Check r [BitVec.ofNat 5 w.mcap]
  let keep := m.q.memData
  -- R79: a poisoned register that is stored is used, after the checks of the store
  let stored := fun (s : State) => if v.poison then (.error poisonReg : Except Stop (State × TWord)) else .ok (s, keep)
  match w.mem with
  | 1 => m.s.loadWord k cap ea
  | 2 => stored (← m.s.storeWord k cap ea { v with poison := false })
  | 3 => let x ← m.s.loadBytes k cap ea 4; .ok (x.1, .ofRaw x.2)
  | 4 => stored (← m.s.storeBytes k cap ea 4 v.data)
  | 5 => let x ← m.s.loadBytes k cap ea 1; .ok (x.1, .ofRaw x.2)
  | 6 => stored (← m.s.storeBytes k cap ea 1 v.data)
  | _ => .ok (m.s, keep)

/-- The operations of one microword: the new state, the condition and the ALU result. Assumption 32 (DEDUCED). -/
def CpMicro.ops (m : CpMicro) (c : CustIn) (w : MW) (upc : Nat) : Except Stop (CpMicro × Bool × Word) := do
  let a := m.read c w.ra
  let rb := m.read c w.rb
  let ptr := m.s.ptrClass c.k
  -- R79: a poisoned operand is used
  if (w.usesA || w.tagu == 1 || w.tagu == 2 || w.tagu == 4 || w.crc != 0) && a.poison then .error poisonReg
  if (w.usesB || w.tagu == 1 || w.crc != 0) && rb.poison then .error poisonReg
  if w.tagu = 1 ∧ !isNum a.tag then .error (tagFault (opndOf w.ra 1))
  if w.tagu = 1 ∧ !isNum rb.tag then .error (tagFault (opndOf w.rb 2))
  if w.tagu = 2 ∧ !ptr a.tag then .error (tagFault (opndOf w.ra 1))
  if w.tagu = 3 ∧ tagForbidden (BitVec.ofNat 6 w.imm) then .error illegalOperand
  let b := w.bVal rb.data
  let res := if w.alu = 0 then Config.freeWord (m.s.freeCtr + 1) else aluOp w.alu a.data b
  let srcs := (if w.usesA then [a] else []) ++ (if w.usesB then [rb] else [])
  let plain : TWord :=
    -- R99: an immediate counts as FIX
    if w.alu = 0x0F then a else .mk0 (numTag srcs) res
  let val : TWord := match w.tagu with
    | 3 => { plain with tag := BitVec.ofNat 6 w.imm }
    | 4 => .ofFix (a.tag.setWidth 64)
    | _ => plain
  let fl := aluFlags w m.q.flags a.data b res (bit (Config.freeWord (m.s.freeCtr + 2)) 0)
  let fl := if w.tagu = 1 ∨ w.tagu = 2 then fl ||| 8 else fl
  let (s, d) ← m.port c w res rb
  let q := { m.q with flags := fl, lc := w.loopVal m.q.lc, memData := d }
  let m1 : CpMicro := { m with s := { s with freeCtr := s.freeCtr + 3 }, q := q }
  let v2 : Option TWord := match w.w2src with
    | 1 => some d
    | 2 => some (.ofRaw (w.crcVal a.data rb.data))
    | _ => none
  let m2 := if w.alu = 0 then m1 else m1.write c upc w.rd val
  let m3 := match v2 with
    | some v => m2.write c upc w.rd2 (if w.alu ≠ 0 ∧ w.rd = w.rd2 then .ofRaw (Config.freeWord (s.freeCtr + 2)) else v)
    | none => m2
  let cond := match w.cond with
    | 0 => true
    | 1 => fl.getLsbD 0
    | 2 => fl.getLsbD 1
    | 3 => fl.getLsbD 2
    | 4 => fl.getLsbD 3
    | 5 => (m.s.cr c.k).res
    | 6 => q.lc == 0
    | _ => bit (Config.freeWord (s.freeCtr + 1)) 0
  .ok (m3, cond, res)

/-- How a routine ends for now. -/
inductive CpEnd where
  | done
  | stop (x : Stop)
  /-- it waits at a microword that has done its operations (R226) -/
  | hold
  /-- it has run as many microwords as one command runs -/
  | more
  /-- R228, R232: an event is taken at a safe point -/
  | event
  /-- R230: watchdog, microstack error or forbidden transfer -/
  | bad (stack : Bool)

/-- R225: a stretched microcycle is counted and marked. -/
def State.stretchMark (s : State) (t : SiteId) (on : Bool) : State :=
  if on then (s.count (cSITE t 11)).setFlag (oSITE t 0x100) 3 true else s

/-- R231, R233: COMMIT makes the routine's writes visible together and is a checkpoint. -/
def CpMicro.commit (m : CpMicro) (c : CustIn) : CpMicro :=
  let s := (m.s.modRegs c.k fun r => { r.withPs 16 16 1 with pc := c.pc }).checkpoint c.k
  { m with s := s, base := s.cp c.k }

/-- A safe point (R228): the CP polls its events (R199). -/
def CpMicro.poll (m : CpMicro) (c : CustIn) : Option CpEnd := if m.s.eventOpen c.k then some .event else none

/-- SEQ acts (R223, R236): the next microaddress, or the routine's end. The count of R230 starts again at a safe point, and
END is one (R228). Assumption 34 (DEDUCED). -/
def CpMicro.next (m : CpMicro) (c : CustIn) (w : MW) (cond : Bool) (res : Word) : CpMicro × Option CpEnd :=
  let upc := m.q.upc.toNat
  let cyc := if w.safe || w.seq == 6 then 0 else m.q.cycles + 1
  if 4096 ≤ cyc then (m, some (.bad false))
  else
    match w.flow upc m.q.ustack cond res 4 16384 with
    | .finish => (m, some .done)
    | .fault =>
      let cls := w.imm % 256
      if upc < cpCustBase ∨ cls = 0x02 ∨ cls = 0x06 then (m, some (.stop (.mk cls (w.imm / 65536)))) else (m, some (.bad false))
    | .under => (m, some (.bad true))
    | .full => (m, some (.bad true))
    | .go to_ st =>
      if m.q.mayGo cpCustBase upc to_ then
        let m := { m with q := { m.q with upc := BitVec.ofNat 14 to_, ustack := st, cycles := cyc } }
        (m, if w.safe then m.poll c else none)
      else (m, some (.bad false))

/-- The routine from a microaddress. Assumption 34 (DEDUCED). -/
def CpMicro.run (c : CustIn) : Nat → CpMicro → CpMicro × CpEnd
  | 0, m => (m, .more)
  | fuel + 1, m =>
    let upc := m.q.upc.toNat
    match m.q.word upc with
    | none => (m, .bad false)
    | some w =>
      match ({ m with s := m.s.stretchMark c.t w.stretched } : CpMicro).ops c w upc with
      | .error x => (m, .stop x)
      | .ok (m, cond, res) =>
        let m := if w.ctl = 1 then m.commit c else m
        if (w.waitev = 3 ∧ !cond) ∨ w.waitev = 2 ∨ w.waitev = 4 then
          ({ m with q := { m.q with disp := res.setWidth 4, cycles := 0 } }, (m.poll c).getD .hold)
        else
          match m.next c w cond res with
          | (m, none) => CpMicro.run c fuel m
          | (m, some e) => (m, e)

/-- The state in which the CP is left when the routine does not complete: its writes since the last COMMIT are not visible
(R231); while it goes on they stand aside. Assumption 34 (DEDUCED). -/
def CpMicro.abandon (m : CpMicro) (c : CustIn) (waits : Bool) : State :=
  m.s.setCp c.k { m.base with custInsn := waits, custSlot := c.insn.toNat % 64, custWord := c.insn
                              custRegs := m.s.cr c.k, custHeld := (m.s.cp c.k).held }

/-- What a run of the routine leaves (R230 to R232). An event at a safe point goes before anything else of the CP. -/
def CpMicro.left (c : CustIn) (m : CpMicro) : CpEnd → State × Option Stop
  | .done => ((m.s.modSite c.t fun x => { x with seq := m.q }).modRegs c.k fun r => { r.withPs 16 16 0 with pc := c.pc + 4 }, none)
  | .stop x => (m.abandon c false, some x)
  | .hold => ((m.abandon c true).modSite c.t fun x => { x with seq := { m.q with waiting := true } }, some .suspend)
  | .more => ((m.abandon c true).modSite c.t fun x => { x with seq := m.q }, some .suspend)
  | .event => ((m.abandon c false).modCp c.k fun x => { x with evDue := true }, some .suspend)
  | .bad stack =>
    let s := (m.abandon c true).modSite c.t fun x => { x with seq := { m.q with running := true } }
    (s.setFlag (oSITE c.t 0x100) (if stack then 5 else 4) true, some .suspend)

/-- The body of a customer instruction: SYS (R241), then the routine at ENTRY. Assumption 34 (DEDUCED). -/
def custBody (c : CustIn) (s : State) : State × Option Stop :=
  let r := s.cr c.k
  let fence := if bit c.cdt 60 then fenceBody c.k s else .ok s
  match (do (if bit c.cdt 62 then needSys r else .ok ()); fence : Except Stop State) with
  | .error x => (s, some x)
  | .ok s =>
    let base := { s.cp c.k with regs := { r with pc := c.pc } }
    let (s, t) := s.freeRegs
    let q := { (s.site c.t).seq with
      t := t, upc := BitVec.ofNat 14 (bits c.cdt 13 0), ustack := [], cycles := 0, running := false, waiting := false
      lc := (s.freeVal).setWidth 16, flags := (s.freeVal >>> 16).setWidth 4
      memData := .ofRaw (Config.freeWord (s.freeCtr + 1)) }
    let e := CpMicro.run c microFuel ⟨{ s with freeCtr := s.freeCtr + 2 }, q, base⟩
    e.1.left c e.2

/-- The record of R230 on a core site, with the microaddress. Assumption 36 (DEDUCED). -/
def State.mcRecord (s : State) (t : SiteId) (part : Option PartId) (k : Option CpId) : State :=
  s.record (mkRec 1 t 0xF00E part k 0 (((s.site t).seq.upc).setWidth 64) (s.reg (oSITE t 0x100)))

/-- The routine of a site is dropped. -/
def State.mcDrop (s : State) (t : SiteId) : State :=
  s.modSite t fun x => { x with seq := { x.seq with running := false, waiting := false, ustack := [] } }

/-- R230: the watchdog in a customer region: record, rollback, and the slot is disabled on every CP of the partition.
Assumption 34 (DEDUCED). -/
def State.custWatchdog (s : State) (k : CpId) (t : SiteId) : State :=
  let slot := (s.cp k).custSlot
  let s := ((s.mcRecord t (s.partOf k) (some k)).rollback k).mcDrop t
  match s.partOf k with
  | some n =>
    let s := s.count (cPART n 1)
    s.forEach ((List.finRange 20).filter fun u => decide (s.sitePart u = some n)) fun u s => s.setFlag (oCS_CDT u slot) 63 false
  | none => s

/-- R230: the watchdog in the Selaufen region: the fault is persistent and the CP is spared (R277). -/
def State.selWatchdog (s : State) (k : CpId) (t : SiteId) : State :=
  let s := s.mcRecord t (s.partOf k) (some k)
  if s.executing k then ((s.rollback k).mcDrop t).freezeSite k t else s

/-- R230: by the region of the microaddress. -/
def State.siteWatchdog (s : State) (k : CpId) (t : SiteId) : State :=
  if (s.cp k).custInsn && decide (cpCustBase ≤ (s.site t).seq.upc.toNat) then s.custWatchdog k t else s.selWatchdog k t

/-- After a run of a customer routine on a site: a watchdog or microstack error is dealt with (R230). -/
def custDone (k : CpId) (t : SiteId) : Host.Outcome State Fault Refusal → Host.Outcome State Fault Refusal
  | .next s => .next (if (s.site t).seq.running && (s.cp k).custInsn then s.siteWatchdog k t else s)
  | o => o

/-- R241, R93: an encoding that the decode table accepts. -/
def custLegal (cdt : Word) (minor : BitVec 7) (f : RForm) : Bool :=
  let ok := fun (use : Nat) (v : BitVec 5) =>
    match use with
    | 0 => v == 0
    | 1 => true
    | 2 => decide (v.toNat < 8)
    | _ => decide (v.toNat < 16)
  !minor.getLsbD 6 && bit cdt 63 && ok (bits cdt 51 50) f.d && ok (bits cdt 49 48) f.a && ok (bits cdt 47 46) f.b

/-- R119, R231: a customer instruction that resumes keeps PS.RES; SER puts a checkpoint before and after it. -/
def custKind (r : CpRegs) (cdt : Word) : Kind := ⟨r.res, bit cdt 60, false, false⟩

/-- CUSTOMER_INSN (R231 to R234, R236, R241). -/
def execCustomerInsn (k : CpId) (minor : BitVec 7) (f : RForm) (s : State) : Host.Outcome State Fault Refusal :=
  let t : SiteId := (s.siteOf k).getD 0
  let cdt := s.reg (oCS_CDT t (minor.toNat % 64))
  let insn := insnWord (.customerInsn k minor f)
  custDone k t (s.retire k (custKind (s.cr k) cdt) insn (custLegal cdt minor f) f.pr
    (fun pc s => custBody ⟨k, t, f, insn, cdt, pc⟩ s))

/-- MICROWORD_WAIT_END on a core site (R226): the routine that waits, or that had not ended, goes on from its microword. The
CP's own conditions do not change while it waits; one on a pin of CE_T counts as come true. Assumption 34 (DEDUCED). -/
def State.siteGoesOn (s : State) (t : SiteId) : Host.Outcome State Fault Refusal :=
  let k := cpField (s.fld (oCS_BIND t) 11 8)
  let p := s.cp k
  let q := (s.site t).seq
  if s.siteOf k = some t ∧ p.custInsn = true ∧ q.running = false ∧ s.standing k = true then
    let cdt := s.reg (oCS_CDT t p.custSlot)
    let c : CustIn := ⟨k, t, rOf p.custWord, p.custWord, cdt, p.regs.pc⟩
    let m : CpMicro :=
      ⟨s.modCp k fun x => { x with regs := { x.custRegs with evpend := x.regs.evpend }, held := x.custHeld, custInsn := false },
       { q with waiting := false }, { p with custInsn := false }⟩
    let go : Option (CpMicro × CpEnd) :=
      if q.waiting then
        match q.word q.upc.toNat with
        | some w =>
          if w.waitev = 3 ∧ 7 ≤ w.cond then
            match m.next c { w with safe := true } true (q.disp.setWidth 64) with
            | (m, none) => some (CpMicro.run c microFuel m)
            | (m, some e) => some (m, e)
          else none
        | none => none
      else some (CpMicro.run c microFuel m)
    match go with
    | some r => custDone k t (s.afterBody k (custKind p.regs cdt) p.custWord p.regs.pc p.regs.em (r.1.left c r.2))
    | none => .next s
  else .next s

/-! Customer routines of an engine (R224, R235, R316). -/

/-- The customer region of an engine begins here; the size of its store; its working store. -/
abbrev ceCustBase : Nat := 0x1800
abbrev ceStore : Nat := 0x2000
abbrev sramSize : Nat := 0x1F000

/-- Change an engine's sequencer. -/
def State.modSeq (s : State) (e : UnitId) (f : Seq → Seq) : State := s.modEng e fun g => { g with seq := f g.seq }

/-- R224, R235: a register as the microword reads it; the event routine has the second bank of temporaries. Without a
current command its words are free values. Assumption 33 (DEDUCED). -/
def State.ceRead (s : State) (e : UnitId) (c : Option Ctx) (i : Nat) : Word :=
  let q := (s.eng e).seq
  if i < 32 then q.e.toList.getD i 0
  else if i < 48 then ((if q.inEvent then q.t2 else q.t).toList.getD (i - 32) TWord.raw0).data
  else if i < 52 then (match c with | some c => c.regs.getD (i - 48) 0 | none => s.freeVal)
  else if i = 52 then BitVec.ofNat 64 s.tickNum
  else if i = 53 then s.reg oTCK_EDGE
  else s.freeVal

/-- R224: a register write: e0 to e31, the temporaries of the running routine, the words of the current command. -/
def State.ceWrite (s : State) (e : UnitId) (x : Option CtxId) (i : Nat) (v : Word) : State :=
  if i < 32 then s.modSeq e fun q => { q with e := q.e.setIfInBounds i v }
  else if i < 48 then
    s.modSeq e fun q =>
      if q.inEvent then { q with t2 := q.t2.setIfInBounds (i - 32) (.ofRaw v) }
      else { q with t := q.t.setIfInBounds (i - 32) (.ofRaw v) }
  else if i < 52 then (match x with | some x => s.modCtx e x fun c => { c with regs := c.regs.set (i - 48) v } | none => s)
  else s

/-- The memory port of an engine: local working store and storage (R311); an access to storage that no program stands
behind has no capability and faults. Assumption 32 (DEDUCED). -/
def State.cePort (s : State) (e : UnitId) (c : Option Ctx) (w : MW) (a v : Word) : State :=
  let ok := fun (s : State) => s.modSeq e fun q => { q with memFault := false }
  let bad := fun (s : State) => s.modSeq e fun q => { q with memFault := true }
  let ea := a.toNat
  match w.mem with
  | 0x8 =>
    if sramSize ≤ ea ∨ ea % 8 ≠ 0 then bad s
    else (ok s).modSeq e fun q => { q with memData := .ofRaw (alGet 0 q.sram ea) }
  | 0x9 => if sramSize ≤ ea ∨ ea % 8 ≠ 0 then bad s else (ok s).modSeq e fun q => { q with sram := alSet 0 q.sram ea v }
  | 0xA =>
    match c with
    | none => bad s
    | some c =>
      let n := c.prog.part
      match (do s.dmaCheck n c.prog.cap pLOAD ea 8 false; s.dmaReadable n ea 8 : Except EngStop Unit) with
      | .error f => bad (s.engRecord e n c.prog.addr f)
      | .ok _ =>
        (ok (s.dmaTouch n ea 8)).modSeq e fun q => { q with memData := .ofRaw (BitVec.ofNat 64 (leNat (s.dmaBytes n ea 8))) }
  | 0xB =>
    match c with
    | none => bad s
    | some c =>
      match s.dmaCheck c.prog.part c.prog.cap pSTORE ea 8 true with
      | .error f => bad (s.engRecord e c.prog.part c.prog.addr f)
      | .ok _ => (ok s).dmaWrite c.prog.part ea (leBytes 8 v.toNat)
  | _ => s

/-- R227: the Towpath outputs that a microword of CE_T changes; none while TOW_CTL.ENABLE is 0. -/
def State.towPins (s : State) (e : UnitId) (w : MW) (rb : Word) : State :=
  if e.val ≠ 8 ∨ s.towPresent = false ∨ s.flag oTOW_CTL 0 = false then s
  else
    let old := (s.eng e).seq.tpCtl
    let m : Byte := BitVec.ofNat 8 w.pmsk
    let new := (old &&& ~~~m) ||| (BitVec.ofNat 8 w.pval &&& m)
    (s.modSeq e fun q =>
      { q with tpCtl := new
               tpAd := match w.adbus with
                 | 1 => some (rb.setWidth 32)
                 | 2 => none
                 | 3 => some (BitVec.ofNat 32 w.imm)
                 | _ => q.tpAd }).landsFrom s

/-- R387: the interrupt line k whose PENDING bit COND 20 + k or 12 + k tests, and whether for 1. -/
def State.towLine (s : State) (e : UnitId) (c : Nat) : Option (Nat × Bool) :=
  let k := c % 4
  if e.val = 8 ∧ (12 ≤ c ∧ c < 16 ∨ 20 ≤ c ∧ c < 24) ∧ s.flag (oTOW_INT k) 0 = true then some (k, decide (20 ≤ c)) else none

/-- R387: a true test of COND 20 + k clears the PENDING bit. -/
def State.towTaken (s : State) (e : UnitId) (w : MW) (cond : Bool) : State :=
  match s.towLine e w.cond with
  | some (k, true) =>
    if cond && (w.seq == 1 || w.seq == 2 || w.waitev == 3) then s.setFlag oTOW_INTSTAT (16 + k) false else s
  | _ => s

/-- A condition of CE_T that no state of the device decides: the level on a TP_STAT land that is no interrupt line. -/
def State.pinCond (s : State) (e : UnitId) (c : Nat) : Bool := 8 ≤ c && c ≤ 23 && (s.towLine e c).isNone

/-- R223, R387: a condition of an engine; the levels on TP_STAT are inputs, each test drawing a free value.
Assumption 33 (DEDUCED). -/
def State.ceCond (s : State) (e : UnitId) (c : Nat) : Bool :=
  let q := (s.eng e).seq
  match c with
  | 0 => true
  | 1 => q.flags.getLsbD 0
  | 2 => q.flags.getLsbD 1
  | 3 => q.flags.getLsbD 2
  | 4 => q.flags.getLsbD 3
  | 6 => q.lc == 0
  | 7 => q.memFault
  | 24 => q.tickEv
  | _ =>
    match s.towLine e c with
    | some (k, b) => s.flag oTOW_INTSTAT (16 + k) == b
    | none => bit (Config.freeWord (s.freeCtr + 3)) 0

/-- The operations of one microword of an engine; the ALU result. -/
def State.ceOps (s : State) (e : UnitId) (x : Option CtxId) (w : MW) : State × Word :=
  let c := x.bind (s.ctx e)
  let a := s.ceRead e c w.ra
  let rb := s.ceRead e c w.rb
  let b := w.bVal rb
  let res := if w.alu = 0 then Config.freeWord (s.freeCtr + 1) else aluOp w.alu a b
  let s := if w.stretched then s.setFlag (oCE_MC e) 3 true else s
  let s := s.towPins e w rb
  let s := s.modSeq e fun q =>
    { q with flags := aluFlags w q.flags a b res (bit (Config.freeWord (s.freeCtr + 2)) 0), lc := w.loopVal q.lc }
  let s := s.cePort e c w res rb
  let v2 : Option Word := match w.w2src with
    | 1 => some (s.eng e).seq.memData.data
    | 2 => some (w.crcVal a rb)
    | 3 => some (BitVec.ofNat 64 (Config.freeWord (s.freeCtr + 4)).toNat &&& 0xFFFFFFFF)
    | _ => none
  let s := if w.alu = 0 then s else s.ceWrite e x w.rd res
  let s := match v2 with
    | some v => s.ceWrite e x w.rd2 (if w.alu ≠ 0 ∧ w.rd = w.rd2 then Config.freeWord (s.freeCtr + 5) else v)
    | none => s
  (s, res)

/-- How an engine's routine ends for now. -/
inductive CeEnd where
  | done
  /-- it waits at a microword that has done its operations (R226) -/
  | hold
  /-- it has run as many microwords as one command runs -/
  | more
  /-- the event routine returned to the dispatch loop -/
  | idle
  /-- the sequencer met a fault (R230) -/
  | bad (cause : EngineFaultCause)

/-- A wait of which the event is already there (R226). -/
def State.ceEvent (s : State) (e : UnitId) (w : MW) : Bool :=
  match w.waitev with
  | 2 => (s.eng e).seq.tickEv
  | 3 => if s.pinCond e w.cond then false else s.ceCond e w.cond
  | 4 => !(s.eng e).queue.isEmpty
  | _ => true

/-- R235: at a safe point with a tick or error event pending the event routine of the Selaufen image is called as if by
CALL, to return to a microaddress; the event is no longer pending. Of an image with nothing at the entry the second bank alone
shows the routine. Assumptions 35 (DEDUCED), 85 (DESIGN CHOICE). -/
def State.evCall (s : State) (e : UnitId) (back : BitVec 14) (run wait : Bool) : State × Option CeEnd :=
  let q := (s.eng e).seq
  if q.inEvent || !(q.tickEv || q.errEv) then (s, none)
  else if 3 ≤ q.ustack.length then (s, some (.bad .microstack))
  else
    let s := s.modSeq e fun q => { q with tickEv := false, errEv := false, cycles := 0 }
    if (q.word Config.eventEntry).isNone then
      let r := s.freeRegs
      (r.1.modSeq e fun q => { q with t2 := r.2 }, none)
    else
      (s.modSeq e fun q =>
        { q with inEvent := true, evDepth := q.ustack.length, evRun := run, evWait := wait, waiting := false
                 ustack := back :: q.ustack, upc := BitVec.ofNat 14 Config.eventEntry }, none)

/-- R235: RETM of the event routine returns to what it interrupted. -/
def State.evReturn (s : State) (e : UnitId) (back : BitVec 14) (st : List (BitVec 14)) (cyc : Nat) : State × Option CeEnd :=
  let q := (s.eng e).seq
  let s := s.modSeq e fun q => { q with inEvent := false, upc := back, ustack := st, cycles := cyc }
  (s, if q.evWait then some .hold else if q.evRun then none else some .idle)

/-- What a microword's end leads to: the next microaddress, or the routine's end. The dispatch loop's call takes one
microstack entry, so three are left (R316). At a safe point the engine polls its events (R228); END is one. -/
def State.ceNext (s : State) (e : UnitId) (w : MW) (cond : Bool) (res : Word) : State × Option CeEnd :=
  let q := (s.eng e).seq
  let upc := q.upc.toNat
  let cyc := if w.safe || w.seq == 6 then 0 else q.cycles + 1
  if 4096 ≤ cyc then (s, some (.bad .watchdog))
  else
    match w.flow upc q.ustack cond res 3 ceStore with
    | .finish => (s, some (if q.inEvent && !q.evRun then .idle else .done))
    | .under => (s, some .done)
    | .full => (s, some (.bad .microstack))
    | .fault => (s, some (.bad .watchdog))
    | .go to_ st =>
      if w.seq = 4 ∧ q.inEvent = true ∧ st.length = q.evDepth then s.evReturn e (BitVec.ofNat 14 to_) st cyc
      else if q.mayGo ceCustBase upc to_ then
        let s := s.modSeq e fun q => { q with upc := BitVec.ofNat 14 to_, ustack := st, cycles := cyc }
        if w.safe then s.evCall e (BitVec.ofNat 14 to_) true false else (s, none)
      else (s, some (.bad .watchdog))

/-- The routine from its present microaddress. -/
def State.ceRun (e : UnitId) (x : Option CtxId) : Nat → State → State × CeEnd
  | 0, s => (s, .more)
  | fuel + 1, s =>
    match (s.eng e).seq.word (s.eng e).seq.upc.toNat with
    | some w =>
      let r := s.ceOps e x w
      let cond := r.1.ceCond e w.cond
      let s := { r.1 with freeCtr := r.1.freeCtr + 6 }
      if s.ceEvent e w then
        match (s.towTaken e w cond).ceNext e w cond r.2 with
        | (s, none) => s.ceRun e x fuel
        | (s, some d) => (s, d)
      else (s.modSeq e fun q => { q with disp := r.2.setWidth 4, cycles := 0 }, .hold)
    | none => (s, .bad .watchdog)

/-- The sequencer is back in the dispatch loop. -/
def State.ceIdle (s : State) (e : UnitId) : State := s.modSeq e Seq.idle

/-- R350, R351: the frames that a Towpath routine passed to the bus: acknowledged when it ended with OK, else RESEND. -/
def State.towEnded (s : State) (e : UnitId) (slots : List Nat) (status : Nat) : State :=
  let mine := (s.entries e).filter fun p => slots.contains p.1 && p.2.state = jSENT
  if status = 0 then (s.forEach mine fun p s => s.freeEntry e p.1).mirrorFrees e (mine.map (·.1))
  else s.forEach mine fun p s => s.modEntry e p.1 fun y => { y with state := jRESEND }

/-- R315: a RECV of CE_T under XF: what its routine has stored at the destination goes through the job chain.
Assumption 35 (DEDUCED). -/
def State.towChain (s : State) (e : UnitId) (x : CtxId) (c : Ctx) (status n : Nat) : State :=
  let n := min n c.count
  match s.dmaReadable c.prog.part (c.w 1).toNat n with
  | .error f => s.failCmd e x c f
  | .ok _ =>
    let bs := s.dmaBytes c.prog.part (c.w 1).toNat n
    (s.dmaTouch c.prog.part (c.w 1).toNat n).modCtx e x fun c =>
      { c with phase := .job, rxStatus := status, got := bs
               stages := match c.stages with | g :: t => { g with inp := bs } :: t | [] => [] }

/-- R350, R351, R316: a routine that stood for SEND or RECV, or for a customer opcode, has ended: e0 bits 7:0 its status,
e1 the bytes moved. Assumption 35 (DEDUCED). -/
def State.ceFinish (s : State) (e : UnitId) (x : Option CtxId) : State :=
  let q := (s.eng e).seq
  let status := bits (q.e[0]) 7 0
  let n := bits q.e[1] 31 0
  let s := s.ceIdle e
  if q.txSlots ≠ [] then s.towEnded e q.txSlots status
  else
    match x with
    | none => s
    | some x =>
      match s.ctx e x with
      | none => s
      | some c =>
        let s := s.modCtx e x fun c => { c with bytes := n }
        if c.op = 2 ∧ c.stages ≠ [] ∧ status ≤ 1 then s.towChain e x c status n else s.finishCmd e x status 0

/-- After a run: the routine ended, waits, goes on later, or is an engine fault (R230, R338). Assumption 35 (DEDUCED). -/
def State.ceOutcome (e : UnitId) (x : Option CtxId) (r : State × CeEnd) : State :=
  match r.2 with
  | .done => r.1.ceFinish e x
  | .hold => r.1.modSeq e fun q => { q with waiting := true }
  | .more => r.1.modSeq e fun q => { q with waiting := false }
  | .idle => r.1.ceIdle e
  | .bad cause => r.1.engineFault e cause (r.1.eng e).seq.upc.toNat x

/-- The routine of a dispatch entry begins, with the journal slots whose frames it passes to the bus (R316).
Assumption 35 (DEDUCED). -/
def State.ceCall (s : State) (e : UnitId) (x : Option CtxId) (slot : Nat) (tx : List Nat) : State :=
  let s := s.modSeq e fun q =>
    { q with upc := BitVec.ofNat 14 (s.fld (oCE_CDISP e slot) 13 0), ustack := [], cycles := 0, running := true, waiting := false
             ctxNo := x, txSlots := tx, inEvent := false }
  State.ceOutcome e x (s.ceRun e x microFuel)

/-! The Towpath's frames (R54, R316, R350 to R353). -/

/-- An entry's frame goes to the bus: SENT with its time; a retransmission raises RTX (R346, R353). -/
def State.towMark (s : State) (e : UnitId) (i : Nat) (y : JEntry) : State :=
  let s := s.modEntry e i fun y =>
    { y with state := jSENT, sent := s.now, rtx := if y.state = jRESEND then min 255 (y.rtx + 1) else y.rtx }
  s.modJn e fun j =>
    { j with sentHi := match j.sentHi.find? (fun z => z.1 = y.ep) with
        | some z => if seqAfter y.seq z.2 then alIns j.sentHi y.ep y.seq else j.sentHi
        | none => alIns j.sentHi y.ep y.seq }

/-- The routine of entry 0 passes frames to the bus. -/
def State.towSend (s : State) (e : UnitId) (x : Option CtxId) (due : List (Nat × JEntry)) : State :=
  if due = [] ∨ s.roleRuns = false ∨ s.flag (oCE_CDISP e 0) 63 = false then s
  else (s.forEach due fun p s => s.towMark e p.1 p.2).ceCall e x 0 (due.map (·.1))

/-- The context whose SEND an entry of the Towpath belongs to. -/
def State.towOwner (s : State) (e : UnitId) (y : JEntry) : Option CtxId :=
  (List.finRange 16).find? fun x =>
    match s.ctx e x with
    | some c => c.phase == .sending && c.ep == y.ep && c.seqs.contains y.seq
    | none => false

/-- READY frames of the Towpath whose tick has begun (R318, R321). -/
def State.towReady (s : State) (e : UnitId) : List (Nat × JEntry) :=
  (s.entries e).filter fun p => p.2.state = jREADY && !(p.2.flag 4 && seqAfter p.2.tick s.tickNum)

/-- READY frames that no command stands behind any more: overrun frames, and those of an ended program (R54, R337).
Assumption 35 (DEDUCED). -/
def State.towRest (s : State) (e : UnitId) : State :=
  s.towSend e none ((s.towReady e).filter fun p => (s.towOwner e p.2).isNone)

/-- RETRANSMIT on the Towpath (R353, R355): the routine of entry 0 sends the frame again. -/
def State.towResend (s : State) (e : UnitId) (payloadOk : Bool) : State :=
  if !s.ceFree e then s
  else
    match s.dueResend e with
    | none => s
    | some (i, y) =>
      if s.rtxMax e ≤ y.rtx then s.holdEndpoint e y.ep y.seq
      else if y.keeps && !y.flag 2 && !(payloadOk && s.payloadOk y.payload) then s.payloadBad e i
      else s.towSend e (s.towOwner e y) [(i, y)]

/-- RETRANSMIT (R353 to R355). -/
def execRetransmit (u : UnitId) (payloadOk : Bool) (s : State) : Host.Outcome State Fault Refusal :=
  .next (if u.val = 8 then s.towResend u payloadOk else s.retransmit u payloadOk)

/-- CMD_CUSTOMER: a customer opcode, or the Towpath's SEND and RECV, call their dispatch entry (R316). -/
def State.cmdCustomer (s : State) (e : UnitId) (x : CtxId) : State :=
  match s.ctx e x with
  | none => s
  | some c =>
    if !s.ceFree e || !s.mayWork e c.prog.part false then s
    else
      match c.slot e with
      | none => s
      | some n =>
        if c.phase = .sending then
          s.towSend e (some x) ((s.towReady e).filter fun p => p.2.ep = c.ep && c.seqs.contains p.2.seq)
        else if c.phase = .routine ∨ (c.phase = .fetched ∧ c.op = c.rawOp ∧ isCustomer c.op = true ∧ s.otherTurn e x = true) then
          ((s.noteTurn e x).modCtx e x fun c => { c with phase := .routine }).ceCall e (some x) n []
        else s

/-- CMD_CUSTOMER (R316). -/
def execCmdCustomer (e : UnitId) (x : CtxId) (s : State) : Host.Outcome State Fault Refusal := .next (s.cmdCustomer e x)

/-- The routine that runs on an engine goes on from its present microaddress. -/
def State.ceGoOn (s : State) (e : UnitId) : State := State.ceOutcome e (s.eng e).seq.ctxNo (s.ceRun e (s.eng e).seq.ctxNo microFuel)

/-- MICROWORD_WAIT_END on an engine (R226): the event that a waiting microword awaits is present; SEQ acts, and the end of the
microcycle is a safe point (R228). A routine that had not ended goes on. Assumption 35 (DEDUCED). -/
def State.engGoesOn (s : State) (e : UnitId) : State :=
  let g := (s.eng e).seq
  if !g.running || !s.ceWorks e then s
  else if (match g.ctxNo with | some x => (s.ctx e x).isNone | none => false) then s.ceIdle e
  else if !g.waiting then s.ceGoOn e
  else
    match g.word g.upc.toNat with
    | none => s
    | some w =>
      if (w.waitev = 3 ∧ s.pinCond e w.cond = true) ∨ s.ceEvent e w = true then
        let cond := w.waitev == 3 || s.ceCond e w.cond
        let s := ({ s.towTaken e w cond with freeCtr := s.freeCtr + 4 }).modSeq e fun q => { q with waiting := false }
        match s.ceNext e { w with safe := true } cond (g.disp.setWidth 64) with
        | (s, none) => s.ceGoOn e
        | (s, some d) => State.ceOutcome e g.ctxNo (s, d)
      else s

/-- MICROWORD_WAIT_END. -/
def execMicrowordWaitEnd (q : SeqRef) (s : State) : Host.Outcome State Fault Refusal :=
  match q with
  | .site t => s.siteGoesOn t
  | .engine e => .next (s.engGoesOn e)

/-- ENGINE_EVENT_ROUTINE (R235, R242): the event routine of the Selaufen image runs from the dispatch loop, or at the safe
point of a microword that waits, whose wait goes on when the routine returns. Assumption 35 (DEDUCED).
Assumption 85 (DESIGN CHOICE). -/
def State.eventRoutine (s : State) (e : UnitId) : State :=
  let g := (s.eng e).seq
  if !s.ceWorks e || !(g.tickEv || g.errEv) || g.inEvent || (g.running && !g.waiting) then s
  else
    let here := match g.word g.upc.toNat with
      | some w => g.running && !(w.waitev == 3 && s.pinCond e w.cond) && s.ceEvent e w
      | none => false
    if here then s.engGoesOn e
    else
      let s := if g.running then s else s.modSeq e fun q => { q with ustack := [], ctxNo := none }
      match s.evCall e g.upc g.running g.running with
      | (s, some d) => State.ceOutcome e g.ctxNo (s, d)
      | (s, none) =>
        if (s.eng e).seq.inEvent then (s.modSeq e fun q => { q with running := true }).ceGoOn e else s

/-- ENGINE_EVENT_ROUTINE; after it CE_T passes the frames to the bus that no command stands behind (R54). -/
def execEngineEventRoutine (e : UnitId) (s : State) : Host.Outcome State Fault Refusal :=
  let s := s.eventRoutine e
  .next (if e.val = 8 && s.ceFree e then s.towRest e else s)

/-! The watchdog and control-store errors. -/

/-- The pair whose follower runs on a site. -/
def State.followerOf (s : State) (t : SiteId) : Option PairId :=
  (List.finRange 10).find? fun n => decide (s.follower n = some t)

/-- MC_WATCHDOG (R230): by region on a CP, where a follower fails alone (R289); an engine fault on an engine.
Assumption 36 (DEDUCED). -/
def State.mcWatchdog (s : State) (q : SeqRef) (stack : Bool) : State :=
  match q with
  | .site t =>
    let s := s.setFlag (oSITE t 0x100) (if stack then 5 else 4) true
    if s.bindSt t = bBOUND then s.siteWatchdog (cpField (s.fld (oCS_BIND t) 11 8)) t
    else
      let s := s.mcRecord t (s.sitePart t) none
      match s.followerOf t with
      | some n => s.followerFails n
      | none => s
  | .engine e => s.engineFault e (if stack then .microstack else .watchdog) (s.eng e).seq.upc.toNat (s.eng e).seq.ctxNo

/-- MC_WATCHDOG. -/
def execMcWatchdog (q : SeqRef) (stack : Bool) (s : State) : Host.Outcome State Fault Refusal := .next (s.mcWatchdog q stack)

/-- CONTROL_STORE_ERROR (R221): a single-bit error is corrected; on a double-bit error the location is rewritten from the
image, and the instruction is retried, or the command is an engine fault. -/
def State.ctlStoreError (s : State) (q : SeqRef) (double : Bool) : State :=
  match q with
  | .site t =>
    if double then
      let s := s.setFlag (oSITE t 0x100) 7 true
      let k := cpField (s.fld (oCS_BIND t) 11 8)
      if s.bindSt t = bBOUND ∧ s.executing k = true then s.transientFault k .ctlStore else s
    else (s.count (cSITE t 10)).setFlag (oSITE t 0x100) 6 true
  | .engine e => if double then s.engineFault e .ctlStore 0 none else s.setFlag (oCE_MC e) 6 true

/-- CONTROL_STORE_ERROR. -/
def execControlStoreError (q : SeqRef) (_addr : BitVec 14) (double : Bool) (s : State) :
    Host.Outcome State Fault Refusal := .next (s.ctlStoreError q double)

end Sys2Proof.Machine
end

