-- ==== Sys2Proof/Machine/Pcie.lean ====
section
/-!
DEFINITION. The PCIe interface (chapter 21): configuration requests, MSI-X messages, the storage windows, link loss and function
resets.
-/

namespace Sys2Proof.Machine

/-- The MSI-X function behind a PCIe function. -/
def fnNo : PcieFn → Fin 9
  | .pf0 => 0
  | .vf n => vfFn n

/-- Change a function's configuration. -/
def State.modFn (s : State) (f : Fin 9) (g : FnState → FnState) : State :=
  { s with pcie := { s.pcie with fns := s.pcie.fns.set f (g s.pcie.fns[f]) } }

/-! MSI-X (R554). -/

/-- The message of a vector may be sent. -/
def State.msixReady (s : State) (fn : PcieFn) (vec : Nat) : Bool :=
  let f := s.pcie.fns[fnNo fn]
  s.running && s.flag oPCI_STAT 0 && f.busMaster && f.msixEn && !f.fnMask && f.unmasked.contains vec && f.pend.contains vec
    && (match fn with | .pf0 => true | .vf _ => s.pcie.vfEnable)

/-- MSIX_SEND (R554): the message goes out and the pending bit clears. -/
def execMsixSend (fn : PcieFn) (vec : BitVec 11) (s : State) : Host.Outcome State Fault Refusal :=
  .next (if s.msixReady fn vec.toNat then
      (s.modFn (fnNo fn) fun f => { f with pend := f.pend.filter (· ≠ vec.toNat) }).emit (.msix (fnNo fn) vec.toNat)
    else s)

/-! Storage windows (R552, R555). -/

/-- The words under a range of n bytes at an offset: their addresses by an address function, none where it fails. -/
def wordsUnder (paOf : Nat → Option Nat) (x n : Nat) : Option (List Nat) :=
  if n = 0 then some []
  else (List.range ((x + n - 1) / 8 - x / 8 + 1)).mapM fun i => paOf (8 * (x / 8 + i))

/-- R61, R80: the first word that the host may not have, and whether its tag is reserved. -/
def State.unreadable (s : State) (ws : List Nat) : Option (Nat × Bool) :=
  ws.findSome? fun pa =>
    let w := s.mem.word pa
    if tagReserved w.tag then some (pa, true) else if w.poison then some (pa, false) else none

/-- A read of n bytes: the data, or a poisoned TLP, which delivers no data, with the one record of R80 (R61); of several
bad words the record names the first: the model's choice, Assumption 88 (DESIGN CHOICE). -/
def State.hostRead (s : State) (requester : Nat) (part : Option PartId) (paOf : Nat → Option Nat) (x n : Nat) (ws : List Nat) :
    State :=
  let bs := (List.range n).map fun i => s.mem.byte (((paOf (8 * ((x + i) / 8))).getD 0) + (x + i) % 8)
  match s.unreadable ws with
  | some (pa, reserved) =>
    ({ s with resp := .bytes [] true }).record
      (mkRec 3 0x68 0xF010 part none (BitVec.ofNat 64 pa) 0 (BitVec.ofNat 64 (requester + if reserved then 256 else 0)))
  | none => { s with resp := .bytes bs false }

/-- An access that delivers nothing. -/
def State.readZero (s : State) (n : Nat) : State := { s with resp := .bytes (List.replicate n 0) false }

/-- PCI_WIN.BASE closes the window when it is above 111. -/
def State.windowClosed (s : State) : Bool := decide (111 < s.fld oPCI_WIN 51 30)
/-- The physical address of a BAR2 offset. -/
def State.bar2Pa (s : State) (x : Nat) : Nat := s.fld oPCI_WIN 51 30 * 2 ^ 30 + x

/-- BAR2_READ (R552). -/
def State.bar2Read (s : State) (x n : Nat) : State :=
  if s.running = false ∨ s.ready = false then s.readZero n
  else if s.windowClosed ∨ 2 ^ 30 < x + n then (s.readZero n).accessRecord .pf0 x false
  else
    let paOf := fun a => some (s.bar2Pa a)
    let ws := (wordsUnder paOf x n).getD []
    let s := s.forEach (ws.map lineOf).dedup fun la s => s.sharedRead none 0 la
    s.hostRead 0x80 none paOf x n ws

/-- BAR2_WRITE (R552, R559): every word it touches becomes RAW. Assumption 81 (DEDUCED). -/
def State.bar2Write (s : State) (x : Nat) (bs : List Byte) (poisoned ideOk : Bool) : State :=
  if s.running = false ∨ s.ready = false then s
  else if poisoned = true ∨ ideOk = false then s.recordOpen (mkRec 1 0x68 0)
  else if s.windowClosed ∨ 2 ^ 30 < x + bs.length then s.accessRecord .pf0 x true
  else s.forEach (byteWrites s.bar2Pa x bs) fun o s => s.dmaStore none o

/-- BAR2_READ. -/
def execBar2Read (off : BitVec 30) (n : Nat) (s : State) : Host.Outcome State Fault Refusal := .next (s.bar2Read off.toNat n)
/-- BAR2_WRITE. -/
def execBar2Write (off : BitVec 30) (bytes : List Byte) (poisoned ideOk : Bool) (s : State) :
    Host.Outcome State Fault Refusal :=
  .next (s.bar2Write off.toNat bytes poisoned ideOk)

/-- The offset of the storage window in a view. -/
abbrev vfWindowAt : Nat := 0xC0000

/-- What a window access meets: the addresses, or the address of a rejected descriptor, or a failed check. -/
def State.windowWords (s : State) (n : PartId) (ea len : Nat) (store : Bool) : Except (Option Nat) (List Nat) :=
  if 2 ^ 64 < ea + len then .error none
  else if len = 0 then .ok []
  else
    (List.range ((ea + len - 1) / 8 - ea / 8 + 1)).mapM fun i =>
      match s.xlate n (BitVec.ofNat 64 (8 * (ea / 8 + i))) store with
      | .ok pa _ => .ok pa
      | .bad da => .error (some da)
      | _ => .error none

/-- A window access that fails (R71, R555). -/
def State.windowFail (s : State) (n : PartId) (x : Nat) (write : Bool) : Option Nat → State
  | some da => s.record (mkRec 5 0x68 0xF004 (some n) none (BitVec.ofNat 64 da))
  | none => s.accessRecord (.vf n) (vfWindowAt + x) write

/-- The window answers: not in NONE, and no write in CLEARING (R475, R509). -/
def State.windowShut (s : State) (n : PartId) (write : Bool) : Bool :=
  s.partState n == ptNONE || (write && s.partState n == ptCLEARING)

/-- The effective address of a window offset. -/
def State.windowEa (s : State) (n : PartId) (x : Nat) : Nat := (s.pcie.vwin[n]).toNat + x

/-- VF_WINDOW_READ (R555). Assumption 81 (DEDUCED). -/
def State.vfRead (s : State) (n : PartId) (x len : Nat) : State :=
  if s.running = false then s.readZero len
  else if s.windowShut n false ∨ 2 ^ 18 < x + len then (s.readZero len).accessRecord (.vf n) (vfWindowAt + x) false
  else
    match s.windowWords n (s.windowEa n x) len false with
    | .error e => (s.readZero len).windowFail n x false e
    | .ok ws => (s.dmaTouch n (s.windowEa n x) len).hostRead (0x90 + n) (some n) (fun a => some (s.dmaPa n a)) (s.windowEa n x) len ws

/-- VF_WINDOW_WRITE (R555). -/
def State.vfWrite (s : State) (n : PartId) (x : Nat) (bs : List Byte) : State :=
  if s.running = false then s
  else if s.windowShut n true ∨ 2 ^ 18 < x + bs.length then s.accessRecord (.vf n) (vfWindowAt + x) true
  else
    match s.windowWords n (s.windowEa n x) bs.length true with
    | .error e => s.windowFail n x true e
    | .ok _ => s.dmaWrite n (s.windowEa n x) bs

/-- VF_WINDOW_READ. -/
def execVfWindowRead (vf : PartId) (off : BitVec 18) (n : Nat) (s : State) : Host.Outcome State Fault Refusal :=
  .next (s.vfRead vf off.toNat n)
/-- VF_WINDOW_WRITE. -/
def execVfWindowWrite (vf : PartId) (off : BitVec 18) (bytes : List Byte) (s : State) : Host.Outcome State Fault Refusal :=
  .next (s.vfWrite vf off.toNat bytes)

/-! Configuration requests (R509, R548, R549). -/

/-- What an operation writes to the function's configuration. Assumption 72 (PRESUMED). -/
def State.configWrite (s : State) (fn : PcieFn) : ConfigOp → State
  | .busMaster b => s.modFn (fnNo fn) fun f => { f with busMaster := b }
  | .msixEnable b => s.modFn (fnNo fn) fun f => { f with msixEn := b }
  | .functionMask b => s.modFn (fnNo fn) fun f => { f with fnMask := b }
  | .vectorMask v m =>
    let top := match fn with | .pf0 => 2048 | .vf _ => 256
    if top ≤ v.toNat then s
    else s.modFn (fnNo fn) fun f =>
      { f with unmasked := if m then f.unmasked.filter (· ≠ v.toNat) else v.toNat :: f.unmasked.filter (· ≠ v.toNat) }
  | .vfEnable b => (match fn with | .pf0 => { s with pcie := { s.pcie with vfEnable := b } } | .vf _ => s)
  | .ideStream k b =>
    let keyed := s.pcie.ideKeys.any fun e => e.1 / 4 == k.val
    (match fn with | .pf0 => s.setFlag oPCI_STAT (16 + k.val) (b && keyed) | .vf _ => s)
  | _ => s

/-- What a configuration read answers: the identity of R549; a capability that is not exposed reads zero. -/
def configValue (fn : PcieFn) : ConfigOp → BitVec 32
  | .readIds => (match fn with | .pf0 => 0x96001E5F | .vf _ => 0x96011E5F)
  | .readClass => 0x0B4000A1
  | .readSubsys => 0x96001E5F
  | _ => 0

/-- CONFIG_REQUEST (R509): retry status until 30 ms after RST_L rises. Assumption 81 (DEDUCED). -/
def State.configRequest (s : State) (fn : PcieFn) (op : ConfigOp) (t : Word) : State :=
  if s.running = false then s
  else
    let s := s.advanceTo t
    if s.now.toNat < 30000000 then { s with resp := .config false 0 }
    else { s.configWrite fn op with resp := .config true (configValue fn op) }

/-- CONFIG_REQUEST. -/
def execConfigRequest (fn : PcieFn) (op : ConfigOp) (t : Word) (s : State) : Host.Outcome State Fault Refusal :=
  .next (s.configRequest fn op t)

/-! Link loss and resets (R560). -/

/-- A function's configuration and MSI-X table return to reset; its pending bits stay. -/
def State.fnReset (s : State) (f : Fin 9) : State := s.modFn f fun x => { FnState.reset with pend := x.pend }

/-- The link's fields after loss, the count of losses and the record. -/
def State.linkLost (s : State) : State :=
  let n := min 255 (s.fld oPCI_STAT 31 24 + 1)
  (s.setReg oPCI_STAT (BitVec.ofNat 64 (n * 2 ^ 24 + 2))).recordOpen (mkRec 1 0x68 0)

/-- The configuration of every function returns to reset (R560). -/
def State.configReset (s : State) : State :=
  let s := s.forEach (List.finRange 9) fun f s => s.fnReset f
  { s.setFld oPCI_STAT 19 16 0 with pcie := { s.pcie with vfEnable := false } }

/-- PERST_ASSERT (R507, R560). -/
def execPerstAssert (s : State) : Host.Outcome State Fault Refusal :=
  .next (if s.running then s.configReset.linkLost else s)
/-- PCIE_LINK_DOWN (R560). -/
def execPcieLinkDown (s : State) : Host.Outcome State Fault Refusal :=
  .next (if s.running && s.flag oPCI_STAT 0 then s.linkLost else s)
/-- PCIE_LINK_UP (R547, R554): a width and a speed that exist. -/
def execPcieLinkUp (width : BitVec 5) (speed : BitVec 3) (s : State) : Host.Outcome State Fault Refusal :=
  .next (if s.running && [1, 2, 4, 8, 16].contains width.toNat && speed != 7#3 then
      ((s.setFld oPCI_STAT 12 8 width.toNat).setFld oPCI_STAT 7 5 speed.toNat).setFlag oPCI_STAT 0 true
    else s)
/-- FLR_VF (R560). -/
def execFlrVf (n : PartId) (s : State) : Host.Outcome State Fault Refusal := .next (s.fnReset (vfFn n))
/-- FLR_PF (R560). Assumption 81 (DEDUCED). -/
def execFlrPf (s : State) : Host.Outcome State Fault Refusal := .next s.configReset

end Sys2Proof.Machine
end

