-- ==== Sys2Proof/Machine/Rows.lean ====
section
/-!
DEFINITION. The commands that are one write or read of a register: each writes the fields that its row names and leaves the
register's other writable fields as they stand. A VF and a CP reach the register through their view (R478, R479).
-/

namespace Sys2Proof.Machine

/-- A field value at its place in a register. -/
def fldVal (lo v : Nat) : Word := BitVec.ofNat 64 (v * 2 ^ lo)

/-- A register as software reads it to write it back: reserved bits read zero (R11). -/
def State.asRead (s : State) (off : Nat) : Word := s.reg off &&& BitVec.ofNat 64 (definedMask ((regFields off).getD []))

/-- PAIR_REPAIR (R295). -/
def execPairRepair (i : Initiator) (n : PairId) (s : State) : Host.Outcome State Fault Refusal :=
  .next (s.rowWrite i (oCMP_PAIR n) (s.asRead (oCMP_PAIR n) ||| fldVal 60 1))

/-- TICK_SOURCE_CHANGE (R29). -/
def execTickSourceChange (i : Initiator) (src : BitVec 3) (s : State) : Host.Outcome State Fault Refusal :=
  .next (s.rowWrite i oTCK_CTL (insBits (s.asRead oTCK_CTL) 2 0 src.toNat))

/-- TICK_ENABLE (R35). -/
def execTickEnable (i : Initiator) (src : BitVec 3) (s : State) : Host.Outcome State Fault Refusal :=
  .next (s.rowWrite i oTCK_CTL (fldVal 3 1 ||| fldVal 0 src.toNat))

/-- TICK_DISABLE (R35). -/
def execTickDisable (i : Initiator) (src : BitVec 3) (s : State) : Host.Outcome State Fault Refusal :=
  .next (s.rowWrite i oTCK_CTL (fldVal 0 src.toNat))

/-- TCK_TIMER_WRITE (R31). -/
def execTckTimerWrite (i : Initiator) (v : Word) (s : State) : Host.Outcome State Fault Refusal :=
  .next (s.rowWrite i oTCK_TIMER v)

/-- TCK_IN_WRITE (R28). -/
def execTckInWrite (i : Initiator) (n : Fin 4) (v : Word) (s : State) : Host.Outcome State Fault Refusal :=
  .next (s.rowWrite i (oTCK_IN n) v)

/-- TCK_NUM_WRITE (R33). -/
def execTckNumWrite (i : Initiator) (v : Word) (s : State) : Host.Outcome State Fault Refusal :=
  .next (s.rowWrite i oTCK_NUM v)

/-- TCK_FILT_WRITE (R36). -/
def execTckFiltWrite (i : Initiator) (v : Word) (s : State) : Host.Outcome State Fault Refusal :=
  .next (s.rowWrite i oTCK_FILT v)

/-- TICK_DONE_SET (R48). -/
def execTickDoneSet (i : Initiator) (n : PartId) (s : State) : Host.Outcome State Fault Refusal :=
  .next (s.rowWrite i (oTCK_PART n) (s.asRead (oTCK_PART n) ||| fldVal 63 1))

/-- CACHE_INVALIDATE_ALL (R255). -/
def execCacheInvalidateAll (i : Initiator) (c : CacheSel) (s : State) : Host.Outcome State Fault Refusal :=
  .next (s.rowWrite i (ctlOff c) (insBits (s.asRead (ctlOff c)) 2 1 1))

/-- CACHE_FLUSH_ALL (R255). -/
def execCacheFlushAll (i : Initiator) (c : CacheSel) (s : State) : Host.Outcome State Fault Refusal :=
  .next (s.rowWrite i (ctlOff c) (insBits (s.asRead (ctlOff c)) 2 1 2))

/-- CACHE_DISABLE (R262). -/
def execCacheDisable (i : Initiator) (c : CacheSel) (s : State) : Host.Outcome State Fault Refusal :=
  .next (s.rowWrite i (ctlOff c) (insBits (s.asRead (ctlOff c)) 2 0 0))

/-- CACHE_ENABLE (R263). -/
def execCacheEnable (i : Initiator) (c : CacheSel) (s : State) : Host.Outcome State Fault Refusal :=
  .next (s.rowWrite i (ctlOff c) (insBits (s.asRead (ctlOff c)) 2 0 1))

/-- L2_LOCK_WRITE (R248). -/
def execL2LockWrite (i : Initiator) (t : SiteId) (v : Word) (s : State) : Host.Outcome State Fault Refusal :=
  .next (s.rowWrite i (oL2_LOCK t) v)

/-- L3MASK_WRITE (R248). -/
def execL3maskWrite (i : Initiator) (n : PartId) (v : Word) (s : State) : Host.Outcome State Fault Refusal :=
  .next (s.rowWrite i (oPRT_L3MASK n) v)

/-- DOORBELL (R306). -/
def execDoorbell (i : Initiator) (n : PartId) (v : Word) (s : State) : Host.Outcome State Fault Refusal :=
  .next (s.rowWrite i (oPRT_DB n) v)

/-- ENGINE_RUN (R300). -/
def execEngineRun (i : Initiator) (e : UnitId) (s : State) : Host.Outcome State Fault Refusal :=
  .next (s.rowWrite i (oCE_CTL e) (insBits (s.asRead (oCE_CTL e)) 1 0 1))

/-- ENGINE_STOP (R300). -/
def execEngineStop (i : Initiator) (e : UnitId) (s : State) : Host.Outcome State Fault Refusal :=
  .next (s.rowWrite i (oCE_CTL e) (insBits (s.asRead (oCE_CTL e)) 1 0 0))

/-- ENGINE_DRAIN (R300). -/
def execEngineDrain (i : Initiator) (e : UnitId) (s : State) : Host.Outcome State Fault Refusal :=
  .next (s.rowWrite i (oCE_CTL e) (insBits (s.asRead (oCE_CTL e)) 1 1 1))

/-- CANCEL_PROGRAM (R337). -/
def execCancelProgram (i : Initiator) (e : UnitId) (part : BitVec 4) (pgm : BitVec 16) (s : State) : Host.Outcome State Fault Refusal :=
  .next (s.rowWrite i (oCE_CANCEL e) (fldVal 20 part.toNat ||| fldVal 0 pgm.toNat))

/-- CANCEL_ALL (R337). -/
def execCancelAll (i : Initiator) (e : UnitId) (part : BitVec 4) (s : State) : Host.Outcome State Fault Refusal :=
  .next (s.rowWrite i (oCE_CANCEL e) (fldVal 20 part.toNat ||| fldVal 16 1))

/-- ENDPOINT_RESUME (R353). -/
def execEndpointResume (i : Initiator) (u : UnitId) (eps : Word) (s : State) : Host.Outcome State Fault Refusal :=
  .next (s.rowWrite i (oJNL_HOLD u) eps)

/-- PORT_RETRAIN (R369). -/
def execPortRetrain (i : Initiator) (u : PortId) (s : State) : Host.Outcome State Fault Refusal :=
  .next (s.rowWrite i (oPORT_CTL u) (s.asRead (oPORT_CTL u) ||| fldVal 8 1))

/-- TP_INT_UNMASK (R388). -/
def execTpIntUnmask (i : Initiator) (lines : BitVec 4) (s : State) : Host.Outcome State Fault Refusal :=
  .next (s.rowWrite i oTOW_INTSTAT (fldVal 20 lines.toNat))

/-- ROUTE_ARM (R439). -/
def execRouteArm (i : Initiator) (s : State) : Host.Outcome State Fault Refusal :=
  .next (s.rowWrite i oNOC_ROUTE (fldVal 8 1))

/-- PROBE_CTL_WRITE (R442). -/
def execProbeCtlWrite (i : Initiator) (p : Fin 8) (v : Word) (s : State) : Host.Outcome State Fault Refusal :=
  .next (s.rowWrite i (oPROBE p 0) v)

/-- STATS_SNAPSHOT (R545). -/
def execStatsSnapshot (i : Initiator) (s : State) : Host.Outcome State Fault Refusal :=
  .next (s.rowWrite i oNOC_SNAP (s.asRead oNOC_SNAP &&& fldVal 1 1 ||| fldVal 0 1))

/-- TAKEOVER (R464). -/
def execTakeover (i : Initiator) (s : State) : Host.Outcome State Fault Refusal :=
  .next (s.rowWrite i oTWN_CMD 1)

/-- FORCE_TAKEOVER (R464). -/
def execForceTakeover (i : Initiator) (s : State) : Host.Outcome State Fault Refusal :=
  .next (s.rowWrite i oTWN_CMD 2)

/-- RESYNC (R465). -/
def execResync (i : Initiator) (s : State) : Host.Outcome State Fault Refusal :=
  .next (s.rowWrite i oTWN_CMD 3)

/-- HANDOVER (R466). -/
def execHandover (i : Initiator) (s : State) : Host.Outcome State Fault Refusal :=
  .next (s.rowWrite i oTWN_CMD 4)

/-- STAND_DOWN (R464). -/
def execStandDown (i : Initiator) (s : State) : Host.Outcome State Fault Refusal :=
  .next (s.rowWrite i oTWN_CMD 5)

/-- PRT_START (R470). -/
def execPrtStart (i : Initiator) (n : PartId) (s : State) : Host.Outcome State Fault Refusal :=
  .next (s.rowWrite i oPRT_CMD (fldVal 8 n.val ||| 1))

/-- PRT_HALT (R470). -/
def execPrtHalt (i : Initiator) (n : PartId) (s : State) : Host.Outcome State Fault Refusal :=
  .next (s.rowWrite i oPRT_CMD (fldVal 8 n.val ||| 2))

/-- PRT_RESUME (R470). -/
def execPrtResume (i : Initiator) (n : PartId) (s : State) : Host.Outcome State Fault Refusal :=
  .next (s.rowWrite i oPRT_CMD (fldVal 8 n.val ||| 3))

/-- PRT_RESTART (R470). -/
def execPrtRestart (i : Initiator) (n : PartId) (s : State) : Host.Outcome State Fault Refusal :=
  .next (s.rowWrite i oPRT_CMD (fldVal 8 n.val ||| 4))

/-- CFG_COMMIT (R520). -/
def execCfgCommit (i : Initiator) (s : State) : Host.Outcome State Fault Refusal :=
  .next (s.rowWrite i oCFG_CMD 1)

/-- CFG_ACCEPT (R521). -/
def execCfgAccept (i : Initiator) (s : State) : Host.Outcome State Fault Refusal :=
  .next (s.rowWrite i oCFG_CMD 2)

/-- CFG_ROLLBACK (R522). -/
def execCfgRollback (i : Initiator) (s : State) : Host.Outcome State Fault Refusal :=
  .next (s.rowWrite i oCFG_CMD 3)

/-- CFG_CAPTURE (R520). -/
def execCfgCapture (i : Initiator) (s : State) : Host.Outcome State Fault Refusal :=
  .next (s.rowWrite i oCFG_CMD 4)

/-- STORE_SELAUFEN (R516). -/
def execStoreSelaufen (i : Initiator) (s : State) : Host.Outcome State Fault Refusal :=
  .next (s.rowWrite i oCFG_CMD 5)

/-- ERR_TAIL_WRITE (R533). -/
def execErrTailWrite (i : Initiator) (tail : BitVec 32) (s : State) : Host.Outcome State Fault Refusal :=
  .next (s.rowWrite i oERR_IDX (insBits (s.asRead oERR_IDX) 63 32 tail.toNat))

/-- ERR_PIDX_TAIL_WRITE (R537). -/
def execErrPidxTailWrite (i : Initiator) (n : PartId) (lost tail : BitVec 16) (s : State) : Host.Outcome State Fault Refusal :=
  .next (s.rowWrite i (oERR_PIDX n) (insBits (insBits (s.asRead (oERR_PIDX n)) 63 48 lost.toNat) 31 16 tail.toNat))

/-- PCI_WIN_WRITE (R553). -/
def execPciWinWrite (i : Initiator) (v : Word) (s : State) : Host.Outcome State Fault Refusal :=
  .next (s.rowWrite i oPCI_WIN v)

/-- PCI_HNOTE (R556). -/
def execPciHnote (i : Initiator) (n : PartId) (v : Word) (s : State) : Host.Outcome State Fault Refusal :=
  .next (s.rowWrite i (oPCI_HNOTE n) v)

/-- PCI_MSG (R557). -/
def execPciMsg (i : Initiator) (n : PartId) (v : Word) (s : State) : Host.Outcome State Fault Refusal :=
  .next (s.rowWrite i (oPCI_MSG n) v)

/-- LKP_SPARE_CP (R570). -/
def execLkpSpareCp (i : Initiator) (tag : Byte) (s : State) : Host.Outcome State Fault Refusal :=
  .next (s.rowWrite i oLKP_CMD (fldVal 8 tag.toNat ||| 1))

/-- LKP_POWER_DOWN (R570). -/
def execLkpPowerDown (i : Initiator) (tag : Byte) (s : State) : Host.Outcome State Fault Refusal :=
  .next (s.rowWrite i oLKP_CMD (fldVal 8 tag.toNat ||| 2))

/-- LKP_ECHO (R570). -/
def execLkpEcho (i : Initiator) (tag : Byte) (s : State) : Host.Outcome State Fault Refusal :=
  .next (s.rowWrite i oLKP_CMD (fldVal 8 tag.toNat ||| 3))

/-- LKP_RESERVED_CODE (R570). -/
def execLkpReservedCode (i : Initiator) (tag code : Byte) (s : State) : Host.Outcome State Fault Refusal :=
  .next (s.rowWrite i oLKP_CMD (fldVal 8 tag.toNat ||| fldVal 0 code.toNat))

/-- CS_FREQ_WRITE (R583). -/
def execCsFreqWrite (i : Initiator) (t : SiteId) (v : Word) (s : State) : Host.Outcome State Fault Refusal :=
  .next (s.rowWrite i (oCS_CLK t) v)

/-- REGISTER_WRITE (R8, R562): a write of any location of the initiator's own space. -/
def execRegisterWrite (i : Initiator) (off : BitVec 24) (v : Word) (s : State) : Host.Outcome State Fault Refusal :=
  .next (s.ownWrite i off.toNat v)

/-- A location of the initiator's own space is reserved, for it (R562, R571). -/
def State.reservedFor (s : State) (i : Initiator) (off : Nat) : Bool :=
  match i with
  | .vf n => off != 0x20 && (s.viewLoc n off).isNone
  | .cp k => (match s.partOf k with | some n => off != 0x20 && (s.viewLoc n off).isNone | none => false)
  | _ => (regFields off).isNone

/-- RESERVED_ACCESS (R562). -/
def execReservedAccess (i : Initiator) (off : BitVec 24) (write : Bool) (s : State) : Host.Outcome State Fault Refusal :=
  .next (if s.reservedFor i off.toNat = false then s
    else if write then s.ownWrite i off.toNat 0
    else s.ownRead i off.toNat)

/-- COUNTER_WRITE (R542): the write takes effect first, the coinciding increments then. -/
def execCounterWrite (i : Initiator) (off : BitVec 24) (v : Word) (inc : Nat) (s : State) : Host.Outcome State Fault Refusal :=
  .next (if isCounter off.toNat then (s.rowWrite i off.toNat v).count off.toNat inc else s)

/-- ERROR_RING_READ (R535, R538): a VF and a CP see their view's ring, PF0 every ring. -/
def State.ringRead (s : State) (i : Initiator) (r : RingRead) : State :=
  let off := match r with
    | .errIdx => oERR_IDX
    | .errPidx n => oERR_PIDX n
    | .ringWord0 j => oERR_RING j 0
    | .viewWord0 n j => oERR_VRING n j 0
  let through := fun (n : PartId) =>
    match r with
    | .errPidx m => if m = n then s.ownRead i 0x18 else s
    | .viewWord0 m j => if m = n then s.ownRead i (0x3000 + 64 * j.val) else s
    | _ => s
  match i with
  | .vf n => through n
  | .cp k => (match s.partOf k with | some n => through n | none => s)
  | _ => s.ownRead i off

/-- ERROR_RING_READ. -/
def execErrorRingRead (i : Initiator) (r : RingRead) (s : State) : Host.Outcome State Fault Refusal := .next (s.ringRead i r)

/-- ERROR_RECORD_ARRIVE (R525, R531 to R536). -/
def execErrorRecordArrive (r : RecordIn) (s : State) : Host.Outcome State Fault Refusal :=
  .next (if s.running then s.record r else s)

end Sys2Proof.Machine
end

