-- ==== Sys2Proof/Machine/Start.lean ====
section
/-!
DEFINITION. START (R301 to R304) and the performance of a sync point in a pair (R286).
-/

namespace Sys2Proof.Machine

/-- The checks of R301 in the order of R96: the engine, the channel capability, the address of the first command. -/
def startCheck (f : RForm) (r : CpRegs) : Except Stop (UnitId × Cap × Word) := do
  c13Check r [f.a]
  let d ← numOp 0 r f.d
  let b ← numOp 2 r f.b
  if h : d.data.toNat < 9 then
    if b.data.toNat % 32 ≠ 0 then .error (alignFault b.data)
    else
      match (r.cr f.a).check b.data 32 (pPORT ||| pLOAD) with
      | some c => .error (capFault c b.data)
      | none => .ok (⟨d.data.toNat, h⟩, r.cr f.a, b.data)
  else .error illegalOperand

/-- START: the program is queued and its number goes to g_d, or the reason of the refusal. -/
def startBody (k : CpId) (f : RForm) (s : State) : Except Stop State := do
  let (e, cap, a) ← startCheck f (s.cr k)
  match s.partOf k with
  | none => .ok (s.putG k f.d (.ofFix (-3)))
  | some n =>
    match s.startRefusal e n with
    | some reason => .ok (s.putG k f.d (.ofFix (-(BitVec.ofNat 64 reason))))
    | none =>
      let r := s.queueProgram e ⟨n, 0, cap, a, false, 0, (s.pairUnverified k).isSome⟩
      .ok ((r.1.markUnverified k).putG k f.d (.ofFix (r.2.setWidth 64)))

/-- START (R301, R302, R304, R273, R286). -/
def execStart (k : CpId) (f : RForm) (s : State) : Host.Outcome State Fault Refusal :=
  s.retire k .sync (insnWord (.start k f)) (Instr.legal (.start k f)) f.pr (stateBody fun _ s => startBody k f s)

/-- What a pair's leader holds is verified and goes out. -/
def State.verifyAll (s : State) (n : PairId) : State :=
  let k := s.pairCp n
  let s := s.forEach s.pairs[n].dsb fun h s => s.releaseOut k h
  let s := s.setDsb n []
  (s.modPair n fun p =>
    { p with verified := (s.cp k).ckpt, verArith := (s.cp k).ckptArith, ivals := [], log := [], logMark := 0, disagreed := 0,
             attempts := 0 }).setFld (oCMP_PSTAT n) 48 36 0

/-- The operands of a sync-point instruction in one copy: the g, c and p registers that its fields name (R286).
Assumption 86 (DESIGN CHOICE). -/
def syncOperands (w : BitVec 32) (r : CpRegs) : List Nat :=
  let f := fun (lo : Nat) => (w >>> lo).setWidth 5
  let one := fun (i : BitVec 5) => [(r.gr i).data.toNat, (r.gr i).tag.toNat, (r.cr i).pair.1.data.toNat, (r.cr i).pair.2.data.toNat]
  one (f 17) ++ one (f 12) ++ one (f 7) ++ [r.p.toNat, w.toNat]

/-- The sync-point instructions of R286. Assumption 40 (DEDUCED). -/
def runSync (i : Instr) (s : State) : Host.Outcome State Fault Refusal :=
  match i with
  | .start k f => execStart k f s
  | .casw k f => execCasw k f s
  | .swpw k f => execSwpw k f s
  | .faddw k f => execFaddw k f s
  | .mark k f => execMark k f s
  | .colset k f => execColset k f s
  | .fwdset k f => execFwdset k f s
  | .rdset k f => execRdset k f s
  | .fenceI k f => execFenceI k f s
  | _ => .next s

/-- SYNC_POINT_PERFORM (R286): every earlier interval is verified and the buffer empty, and the comparator finds both
copies' operands equal; the wait is counted and the leader performs the instruction, whose own outputs go out. Operands
that differ are a disagreement (R288). Assumption 40 (DEDUCED). -/
def execSyncPointPerform (n : SyncCompare) (s : State) : Host.Outcome State Fault Refusal :=
  let d := n.diff
  let n := n.pair
  let k := s.pairCp n
  match (s.cp k).syncWait with
  | none => .next s
  | some w =>
    if s.pairSt n ≠ pPAIRED ∨ s.pairs[n].ivals ≠ [] ∨ s.pairs[n].dsb ≠ [] ∨ s.pairs[n].testing = true ∨ (s.cp k).frozen = true
    then .next s
    else if Config.pairSignature (syncOperands w (s.cr k)) ≠ Config.pairSignature (syncOperands w (diffRegs d (s.cr k))) then
      .next (s.pairDisagree n)
    else
      let cur := match s.siteOf k with | some t => s.fld (oCS_CLK t) 23 16 | none => 0
      let s := s.countSite k 20 ((s.now - (s.cp k).syncSince).toNat * cur * 25 / 1000)
      let s := s.modCp k fun c => { c with syncWait := none, syncGo := true }
      match decodeRilel k w with
      | none => .next s
      | some i =>
        match runSync i s with
        | .next s' => .next (if s'.pairSt n = pPAIRED then (s'.modCp k fun c => { c with syncGo := false }).verifyAll n else s')
        | o => o

end Sys2Proof.Machine
end

