-- ==== Sys2Proof/Machine/Dispatch.lean ====
section
/-! DEFINITION. The dispatcher: one arm per command, each one direct call of its meaning. -/

namespace Sys2Proof.Machine

/-- The effect of a command on everything but the queue. -/
def exec (i : Instr) (s : State) : Host.Outcome State Fault Refusal :=
  match i with
  | .add cp f => Sys2Proof.Machine.execAdd cp f s
  | .sub cp f => Sys2Proof.Machine.execSub cp f s
  | .and cp f => Sys2Proof.Machine.execAnd cp f s
  | .or cp f => Sys2Proof.Machine.execOr cp f s
  | .xor cp f => Sys2Proof.Machine.execXor cp f s
  | .andn cp f => Sys2Proof.Machine.execAndn cp f s
  | .sll cp f => Sys2Proof.Machine.execSll cp f s
  | .srl cp f => Sys2Proof.Machine.execSrl cp f s
  | .sra cp f => Sys2Proof.Machine.execSra cp f s
  | .rol cp f => Sys2Proof.Machine.execRol cp f s
  | .min cp f => Sys2Proof.Machine.execMin cp f s
  | .max cp f => Sys2Proof.Machine.execMax cp f s
  | .minu cp f => Sys2Proof.Machine.execMinu cp f s
  | .maxu cp f => Sys2Proof.Machine.execMaxu cp f s
  | .mov cp f => Sys2Proof.Machine.execMov cp f s
  | .addi cp f => Sys2Proof.Machine.execAddi cp f s
  | .andi cp f => Sys2Proof.Machine.execAndi cp f s
  | .ori cp f => Sys2Proof.Machine.execOri cp f s
  | .xori cp f => Sys2Proof.Machine.execXori cp f s
  | .shi cp f => Sys2Proof.Machine.execShi cp f s
  | .cmpEq cp f => Sys2Proof.Machine.execCmpEq cp f s
  | .cmpNe cp f => Sys2Proof.Machine.execCmpNe cp f s
  | .cmpLt cp f => Sys2Proof.Machine.execCmpLt cp f s
  | .cmpLe cp f => Sys2Proof.Machine.execCmpLe cp f s
  | .cmpLtu cp f => Sys2Proof.Machine.execCmpLtu cp f s
  | .cmpLeu cp f => Sys2Proof.Machine.execCmpLeu cp f s
  | .cmpEqw cp f => Sys2Proof.Machine.execCmpEqw cp f s
  | .cmpi cp f => Sys2Proof.Machine.execCmpi cp f s
  | .pand cp f => Sys2Proof.Machine.execPand cp f s
  | .por cp f => Sys2Proof.Machine.execPor cp f s
  | .pxor cp f => Sys2Proof.Machine.execPxor cp f s
  | .pandn cp f => Sys2Proof.Machine.execPandn cp f s
  | .pnot cp f => Sys2Proof.Machine.execPnot cp f s
  | .pset cp f => Sys2Proof.Machine.execPset cp f s
  | .pclr cp f => Sys2Proof.Machine.execPclr cp f s
  | .prdg cp f => Sys2Proof.Machine.execPrdg cp f s
  | .pwrg cp f => Sys2Proof.Machine.execPwrg cp f s
  | .tagget cp f => Sys2Proof.Machine.execTagget cp f s
  | .tagset cp f => Sys2Proof.Machine.execTagset cp f s
  | .tagchk cp f => Sys2Proof.Machine.execTagchk cp f s
  | .class cp f => Sys2Proof.Machine.execClass cp f s
  | .tagseti cp f => Sys2Proof.Machine.execTagseti cp f s
  | .mul cp f => Sys2Proof.Machine.execMul cp f s
  | .mulh cp f => Sys2Proof.Machine.execMulh cp f s
  | .mulhu cp f => Sys2Proof.Machine.execMulhu cp f s
  | .mulhsu cp f => Sys2Proof.Machine.execMulhsu cp f s
  | .dprep cp f => Sys2Proof.Machine.execDprep cp f s
  | .dprepu cp f => Sys2Proof.Machine.execDprepu cp f s
  | .dstep cp f => Sys2Proof.Machine.execDstep cp f s
  | .dquot cp f => Sys2Proof.Machine.execDquot cp f s
  | .drem cp f => Sys2Proof.Machine.execDrem cp f s
  | .fadd cp single f => Sys2Proof.Machine.execFadd cp single f s
  | .fsub cp single f => Sys2Proof.Machine.execFsub cp single f s
  | .fmul cp single f => Sys2Proof.Machine.execFmul cp single f s
  | .fmadd cp single f => Sys2Proof.Machine.execFmadd cp single f s
  | .fmsub cp single f => Sys2Proof.Machine.execFmsub cp single f s
  | .fnmadd cp single f => Sys2Proof.Machine.execFnmadd cp single f s
  | .fmin cp single f => Sys2Proof.Machine.execFmin cp single f s
  | .fmax cp single f => Sys2Proof.Machine.execFmax cp single f s
  | .fabs cp single f => Sys2Proof.Machine.execFabs cp single f s
  | .fneg cp single f => Sys2Proof.Machine.execFneg cp single f s
  | .fclass cp single f => Sys2Proof.Machine.execFclass cp single f s
  | .fcmpeq cp single f => Sys2Proof.Machine.execFcmpeq cp single f s
  | .fcmplt cp single f => Sys2Proof.Machine.execFcmplt cp single f s
  | .fcmple cp single f => Sys2Proof.Machine.execFcmple cp single f s
  | .fcmpun cp single f => Sys2Proof.Machine.execFcmpun cp single f s
  | .fdinit cp single f => Sys2Proof.Machine.execFdinit cp single f s
  | .fdstep cp single f => Sys2Proof.Machine.execFdstep cp single f s
  | .fdfin cp single f => Sys2Proof.Machine.execFdfin cp single f s
  | .fsqinit cp single f => Sys2Proof.Machine.execFsqinit cp single f s
  | .fsqstep cp single f => Sys2Proof.Machine.execFsqstep cp single f s
  | .fsqfin cp single f => Sys2Proof.Machine.execFsqfin cp single f s
  | .dadd cp f => Sys2Proof.Machine.execDadd cp f s
  | .dsub cp f => Sys2Proof.Machine.execDsub cp f s
  | .dcmp cp f => Sys2Proof.Machine.execDcmp cp f s
  | .dval cp f => Sys2Proof.Machine.execDval cp f s
  | .ldw cp rlbParity f => Sys2Proof.Machine.execLdw cp rlbParity f s
  | .stw cp f => Sys2Proof.Machine.execStw cp f s
  | .ldb cp f => Sys2Proof.Machine.execLdb cp f s
  | .ldbs cp f => Sys2Proof.Machine.execLdbs cp f s
  | .ldh cp f => Sys2Proof.Machine.execLdh cp f s
  | .ldhs cp f => Sys2Proof.Machine.execLdhs cp f s
  | .stb cp f => Sys2Proof.Machine.execStb cp f s
  | .sth cp f => Sys2Proof.Machine.execSth cp f s
  | .ldc cp f => Sys2Proof.Machine.execLdc cp f s
  | .stc cp f => Sys2Proof.Machine.execStc cp f s
  | .ldpc cp f => Sys2Proof.Machine.execLdpc cp f s
  | .br cp f => Sys2Proof.Machine.execBr cp f s
  | .call cp f => Sys2Proof.Machine.execCall cp f s
  | .jr cp f => Sys2Proof.Machine.execJr cp f s
  | .callr cp f => Sys2Proof.Machine.execCallr cp f s
  | .ret cp f => Sys2Proof.Machine.execRet cp f s
  | .gadd cp f => Sys2Proof.Machine.execGadd cp f s
  | .gsub cp f => Sys2Proof.Machine.execGsub cp f s
  | .gmul cp f => Sys2Proof.Machine.execGmul cp f s
  | .gneg cp f => Sys2Proof.Machine.execGneg cp f s
  | .gcmplt cp f => Sys2Proof.Machine.execGcmplt cp f s
  | .gcmpeq cp f => Sys2Proof.Machine.execGcmpeq cp f s
  | .car cp f => Sys2Proof.Machine.execCar cp f s
  | .cdr cp f => Sys2Proof.Machine.execCdr cp f s
  | .rplaca cp f => Sys2Proof.Machine.execRplaca cp f s
  | .rplacd cp f => Sys2Proof.Machine.execRplacd cp f s
  | .cons cp f => Sys2Proof.Machine.execCons cp f s
  | .assq cp f => Sys2Proof.Machine.execAssq cp f s
  | .memq cp f => Sys2Proof.Machine.execMemq cp f s
  | .tdisp cp f => Sys2Proof.Machine.execTdisp cp f s
  | .alloc cp f => Sys2Proof.Machine.execAlloc cp f s
  | .allocv cp f => Sys2Proof.Machine.execAllocv cp f s
  | .mark cp f => Sys2Proof.Machine.execMark cp f s
  | .scanw cp f => Sys2Proof.Machine.execScanw cp f s
  | .colget cp f => Sys2Proof.Machine.execColget cp f s
  | .colset cp f => Sys2Proof.Machine.execColset cp f s
  | .fwdset cp f => Sys2Proof.Machine.execFwdset cp f s
  | .cmov cp f => Sys2Proof.Machine.execCmov cp f s
  | .cbnd cp f => Sys2Proof.Machine.execCbnd cp f s
  | .cperm cp f => Sys2Proof.Machine.execCperm cp f s
  | .cseal cp f => Sys2Proof.Machine.execCseal cp f s
  | .cunseal cp f => Sys2Proof.Machine.execCunseal cp f s
  | .cgetb cp f => Sys2Proof.Machine.execCgetb cp f s
  | .cgetl cp f => Sys2Proof.Machine.execCgetl cp f s
  | .cgetp cp f => Sys2Proof.Machine.execCgetp cp f s
  | .ctest cp f => Sys2Proof.Machine.execCtest cp f s
  | .cclr cp f => Sys2Proof.Machine.execCclr cp f s
  | .bcopy cp f => Sys2Proof.Machine.execBcopy cp f s
  | .bfill cp f => Sys2Proof.Machine.execBfill cp f s
  | .saveRs cp f => Sys2Proof.Machine.execSaveRs cp f s
  | .loadRs cp f => Sys2Proof.Machine.execLoadRs cp f s
  | .rsdepth cp f => Sys2Proof.Machine.execRsdepth cp f s
  | .start cp f => Sys2Proof.Machine.execStart cp f s
  | .casw cp f => Sys2Proof.Machine.execCasw cp f s
  | .swpw cp f => Sys2Proof.Machine.execSwpw cp f s
  | .faddw cp f => Sys2Proof.Machine.execFaddw cp f s
  | .pref cp f => Sys2Proof.Machine.execPref cp f s
  | .prefw cp f => Sys2Proof.Machine.execPrefw cp f s
  | .lzero cp f => Sys2Proof.Machine.execLzero cp f s
  | .ccln cp f => Sys2Proof.Machine.execCcln cp f s
  | .cfls cp f => Sys2Proof.Machine.execCfls cp f s
  | .fcvtFixD cp f => Sys2Proof.Machine.execFcvtFixD cp f s
  | .fcvtDFix cp f => Sys2Proof.Machine.execFcvtDFix cp f s
  | .fcvtSD cp f => Sys2Proof.Machine.execFcvtSD cp f s
  | .fcvtDS cp f => Sys2Proof.Machine.execFcvtDS cp f s
  | .fcvtFixS cp f => Sys2Proof.Machine.execFcvtFixS cp f s
  | .fcvtSFix cp f => Sys2Proof.Machine.execFcvtSFix cp f s
  | .clz cp f => Sys2Proof.Machine.execClz cp f s
  | .ctz cp f => Sys2Proof.Machine.execCtz cp f s
  | .popc cp f => Sys2Proof.Machine.execPopc cp f s
  | .brev cp f => Sys2Proof.Machine.execBrev cp f s
  | .bswap cp f => Sys2Proof.Machine.execBswap cp f s
  | .rdtick cp f => Sys2Proof.Machine.execRdtick cp f s
  | .rdtime cp f => Sys2Proof.Machine.execRdtime cp f s
  | .rdcyc cp f => Sys2Proof.Machine.execRdcyc cp f s
  | .rdps cp f => Sys2Proof.Machine.execRdps cp f s
  | .wrps cp f => Sys2Proof.Machine.execWrps cp f s
  | .gate cp f => Sys2Proof.Machine.execGate cp f s
  | .gateF cp f => Sys2Proof.Machine.execGateF cp f s
  | .gret cp f => Sys2Proof.Machine.execGret cp f s
  | .retfEvent cp f => Sys2Proof.Machine.execRetfEvent cp f s
  | .retfGate cp f => Sys2Proof.Machine.execRetfGate cp f s
  | .trap cp f => Sys2Proof.Machine.execTrap cp f s
  | .tret cp f => Sys2Proof.Machine.execTret cp f s
  | .fence cp f => Sys2Proof.Machine.execFence cp f s
  | .fenceA cp f => Sys2Proof.Machine.execFenceA cp f s
  | .fenceI cp f => Sys2Proof.Machine.execFenceI cp f s
  | .cinvR cp f => Sys2Proof.Machine.execCinvR cp f s
  | .cclnR cp f => Sys2Proof.Machine.execCclnR cp f s
  | .cflsR cp f => Sys2Proof.Machine.execCflsR cp f s
  | .rdset cp f => Sys2Proof.Machine.execRdset cp f s
  | .mfk cp f => Sys2Proof.Machine.execMfk cp f s
  | .mtk cp f => Sys2Proof.Machine.execMtk cp f s
  | .emset cp f => Sys2Proof.Machine.execEmset cp f s
  | .emclr cp f => Sys2Proof.Machine.execEmclr cp f s
  | .wrpsk cp f => Sys2Proof.Machine.execWrpsk cp f s
  | .wait cp f => Sys2Proof.Machine.execWait cp f s
  | .customerInsn cp minor f => Sys2Proof.Machine.execCustomerInsn cp minor f s
  | .eventDelivery cp => Sys2Proof.Machine.execEventDelivery cp s
  | .wdogExpiry cp => Sys2Proof.Machine.execWdogExpiry cp s
  | .lkpCpRestart cp => Sys2Proof.Machine.execLkpCpRestart cp s
  | .checkpoint cp => Sys2Proof.Machine.execCheckpoint cp s
  | .cpTransientFault cp check => Sys2Proof.Machine.execCpTransientFault cp check s
  | .coreSparing cp ckptLost => Sys2Proof.Machine.execCoreSparing cp ckptLost s
  | .sparingComplete cp => Sys2Proof.Machine.execSparingComplete cp s
  | .pairIntervalCompare n d => Sys2Proof.Machine.execPairIntervalCompare n d s
  | .pairSelfTestDone n leaderOk followerOk => Sys2Proof.Machine.execPairSelfTestDone n leaderOk followerOk s
  | .syncPointPerform n => Sys2Proof.Machine.execSyncPointPerform n s
  | .comparatorSuspect k => Sys2Proof.Machine.execComparatorSuspect k s
  | .comparatorTestDone k pass => Sys2Proof.Machine.execComparatorTestDone k pass s
  | .pairLogEccError n verified entry => Sys2Proof.Machine.execPairLogEccError n verified entry s
  | .debugHalt st => Sys2Proof.Machine.execDebugHalt st s
  | .pairRepair ini n => Sys2Proof.Machine.execPairRepair ini n s
  | .pairRepairCopyDone n => Sys2Proof.Machine.execPairRepairCopyDone n s
  | .controlStoreError q addr double => Sys2Proof.Machine.execControlStoreError q addr double s
  | .mcWatchdog q stackErr => Sys2Proof.Machine.execMcWatchdog q stackErr s
  | .microwordWaitEnd q => Sys2Proof.Machine.execMicrowordWaitEnd q s
  | .engineEventRoutine e => Sys2Proof.Machine.execEngineEventRoutine e s
  | .tickEdge pin rising t => Sys2Proof.Machine.execTickEdge pin rising t s
  | .timerCandidate => Sys2Proof.Machine.execTimerCandidate s
  | .tmaxExpiry => Sys2Proof.Machine.execTmaxExpiry s
  | .coastTick => Sys2Proof.Machine.execCoastTick s
  | .lostTick => Sys2Proof.Machine.execLostTick s
  | .commitPoint => Sys2Proof.Machine.execCommitPoint s
  | .cpResvCheck n => Sys2Proof.Machine.execCpResvCheck n s
  | .tickSourceChange ini src => Sys2Proof.Machine.execTickSourceChange ini src s
  | .tickEnable ini src => Sys2Proof.Machine.execTickEnable ini src s
  | .tickDisable ini src => Sys2Proof.Machine.execTickDisable ini src s
  | .tckTimerWrite ini v => Sys2Proof.Machine.execTckTimerWrite ini v s
  | .tckInWrite ini n v => Sys2Proof.Machine.execTckInWrite ini n v s
  | .tckNumWrite ini v => Sys2Proof.Machine.execTckNumWrite ini v s
  | .tckFiltWrite ini v => Sys2Proof.Machine.execTckFiltWrite ini v s
  | .tickDoneSet ini n => Sys2Proof.Machine.execTickDoneSet ini n s
  | .cacheInvalidateAll ini c => Sys2Proof.Machine.execCacheInvalidateAll ini c s
  | .cacheFlushAll ini c => Sys2Proof.Machine.execCacheFlushAll ini c s
  | .fullCacheOpDone c => Sys2Proof.Machine.execFullCacheOpDone c s
  | .cacheDisable ini c => Sys2Proof.Machine.execCacheDisable ini c s
  | .cacheEnable ini c => Sys2Proof.Machine.execCacheEnable ini c s
  | .l2LockWrite ini st v => Sys2Proof.Machine.execL2LockWrite ini st v s
  | .l3maskWrite ini n v => Sys2Proof.Machine.execL3maskWrite ini n v s
  | .dirParityError c set way addrLost => Sys2Proof.Machine.execDirParityError c set way addrLost s
  | .cacheDataError c set way word double => Sys2Proof.Machine.execCacheDataError c set way word double s
  | .hbmReadError pa err => Sys2Proof.Machine.execHbmReadError pa err s
  | .patrolScrub stack words => Sys2Proof.Machine.execPatrolScrub stack words s
  | .doorbell ini n v => Sys2Proof.Machine.execDoorbell ini n v s
  | .programDispatch e => Sys2Proof.Machine.execProgramDispatch e s
  | .cmdFetch e x => Sys2Proof.Machine.execCmdFetch e x s
  | .cmdSend e x => Sys2Proof.Machine.execCmdSend e x s
  | .cmdRecv e x => Sys2Proof.Machine.execCmdRecv e x s
  | .cmdXform e x => Sys2Proof.Machine.execCmdXform e x s
  | .cmdJump e x => Sys2Proof.Machine.execCmdJump e x s
  | .cmdWaitt e x => Sys2Proof.Machine.execCmdWaitt e x s
  | .cmdSync e x => Sys2Proof.Machine.execCmdSync e x s
  | .cmdNop e x => Sys2Proof.Machine.execCmdNop e x s
  | .cmdCustomer e x => Sys2Proof.Machine.execCmdCustomer e x s
  | .sendStaging e x => Sys2Proof.Machine.execSendStaging e x s
  | .commandComplete e x => Sys2Proof.Machine.execCommandComplete e x s
  | .stalledRecordPost e x => Sys2Proof.Machine.execStalledRecordPost e x s
  | .engineRun ini e => Sys2Proof.Machine.execEngineRun ini e s
  | .engineStop ini e => Sys2Proof.Machine.execEngineStop ini e s
  | .engineDrain ini e => Sys2Proof.Machine.execEngineDrain ini e s
  | .cancelProgram ini e part pgm => Sys2Proof.Machine.execCancelProgram ini e part pgm s
  | .cancelAll ini e part => Sys2Proof.Machine.execCancelAll ini e part s
  | .engineFault e cause uaddr x t => Sys2Proof.Machine.execEngineFault e cause uaddr x t s
  | .engineRestartDone e => Sys2Proof.Machine.execEngineRestartDone e s
  | .engineSliceEnd e n => Sys2Proof.Machine.execEngineSliceEnd e n s
  | .rtoTimeout u slot t => Sys2Proof.Machine.execRtoTimeout u slot t s
  | .retransmit u payloadOk => Sys2Proof.Machine.execRetransmit u payloadOk s
  | .endpointResume ini u eps => Sys2Proof.Machine.execEndpointResume ini u eps s
  | .hwmPersist => Sys2Proof.Machine.execHwmPersist s
  | .inboundAckSend u ep => Sys2Proof.Machine.execInboundAckSend u ep s
  | .dataFrameSend u => Sys2Proof.Machine.execDataFrameSend u s
  | .idleFrameSend u => Sys2Proof.Machine.execIdleFrameSend u s
  | .creditFrameSend u => Sys2Proof.Machine.execCreditFrameSend u s
  | .epochFrameResend u ep => Sys2Proof.Machine.execEpochFrameResend u ep s
  | .rxData u fr => Sys2Proof.Machine.execRxData u fr s
  | .rxEpoch u fr => Sys2Proof.Machine.execRxEpoch u fr s
  | .rxAck u fr => Sys2Proof.Machine.execRxAck u fr s
  | .rxCredit u fr => Sys2Proof.Machine.execRxCredit u fr s
  | .rxAbort u fr => Sys2Proof.Machine.execRxAbort u fr s
  | .rxMarker u fr => Sys2Proof.Machine.execRxMarker u fr s
  | .rxIdle u fr => Sys2Proof.Machine.execRxIdle u fr s
  | .rxTrain u fr => Sys2Proof.Machine.execRxTrain u fr s
  | .portRetrain ini u => Sys2Proof.Machine.execPortRetrain ini u s
  | .trainPhaseComplete u => Sys2Proof.Machine.execTrainPhaseComplete u s
  | .trainPhaseTimeout u failed => Sys2Proof.Machine.execTrainPhaseTimeout u failed s
  | .paramTimeout u => Sys2Proof.Machine.execParamTimeout u s
  | .portDownRetry u => Sys2Proof.Machine.execPortDownRetry u s
  | .laneLockLoss u lane => Sys2Proof.Machine.execLaneLockLoss u lane s
  | .uncorrLimitExceeded u => Sys2Proof.Machine.execUncorrLimitExceeded u s
  | .tpIntEvent k active t => Sys2Proof.Machine.execTpIntEvent k active t s
  | .tpIntUnmask ini lines => Sys2Proof.Machine.execTpIntUnmask ini lines s
  | .encrypt e x stage => Sys2Proof.Machine.execEncrypt e x stage s
  | .decrypt e x stage => Sys2Proof.Machine.execDecrypt e x stage s
  | .compress e x stage => Sys2Proof.Machine.execCompress e x stage s
  | .decompress e x stage => Sys2Proof.Machine.execDecompress e x stage s
  | .keyload e x => Sys2Proof.Machine.execKeyload e x s
  | .keyclr e x => Sys2Proof.Machine.execKeyclr e x s
  | .jobComplete e x => Sys2Proof.Machine.execJobComplete e x s
  | .jobSuspend e x => Sys2Proof.Machine.execJobSuspend e x s
  | .xfSliceEnd k n => Sys2Proof.Machine.execXfSliceEnd k n s
  | .xfUnitFault k ini t => Sys2Proof.Machine.execXfUnitFault k ini t s
  | .niResponse src dst req answer => Sys2Proof.Machine.execNiResponse src dst req answer s
  | .linkFlitCrcError l t => Sys2Proof.Machine.execLinkFlitCrcError l t s
  | .routeArm ini => Sys2Proof.Machine.execRouteArm ini s
  | .routeSwitch => Sys2Proof.Machine.execRouteSwitch s
  | .rerouteReturn src dst req repoch router => Sys2Proof.Machine.execRerouteReturn src dst req repoch router s
  | .domainClose d => Sys2Proof.Machine.execDomainClose d s
  | .domainDrained d => Sys2Proof.Machine.execDomainDrained d s
  | .domainOpen d => Sys2Proof.Machine.execDomainOpen d s
  | .domainAbsentAnswer src dst req k off => Sys2Proof.Machine.execDomainAbsentAnswer src dst req k off s
  | .probeCtlWrite ini p v => Sys2Proof.Machine.execProbeCtlWrite ini p v s
  | .probeMatch router port head t => Sys2Proof.Machine.execProbeMatch router port head t s
  | .statsSnapshot ini => Sys2Proof.Machine.execStatsSnapshot ini s
  | .heartbeatSend => Sys2Proof.Machine.execHeartbeatSend s
  | .heartbeatReceive path w t => Sys2Proof.Machine.execHeartbeatReceive path w t s
  | .heartbeatMiss path => Sys2Proof.Machine.execHeartbeatMiss path s
  | .joinWaitExpiry => Sys2Proof.Machine.execJoinWaitExpiry s
  | .takeover ini => Sys2Proof.Machine.execTakeover ini s
  | .forceTakeover ini => Sys2Proof.Machine.execForceTakeover ini s
  | .resync ini => Sys2Proof.Machine.execResync ini s
  | .handover ini => Sys2Proof.Machine.execHandover ini s
  | .handoverSwitch => Sys2Proof.Machine.execHandoverSwitch s
  | .standDown ini => Sys2Proof.Machine.execStandDown ini s
  | .ownGntAssert => Sys2Proof.Machine.execOwnGntAssert s
  | .dalnosLinkLoss => Sys2Proof.Machine.execDalnosLinkLoss s
  | .dalnosLinkUp lanes delay => Sys2Proof.Machine.execDalnosLinkUp lanes delay s
  | .dalPayload fr => Sys2Proof.Machine.execDalPayload fr s
  | .dalEntry fr => Sys2Proof.Machine.execDalEntry fr s
  | .dalMack fr => Sys2Proof.Machine.execDalMack fr s
  | .dalFree fr => Sys2Proof.Machine.execDalFree fr s
  | .dalState fr => Sys2Proof.Machine.execDalState fr s
  | .dalTick fr => Sys2Proof.Machine.execDalTick fr s
  | .dalBulk fr => Sys2Proof.Machine.execDalBulk fr s
  | .dalRdreq fr => Sys2Proof.Machine.execDalRdreq fr s
  | .dalRdrsp fr => Sys2Proof.Machine.execDalRdrsp fr s
  | .dalLnak fr => Sys2Proof.Machine.execDalLnak fr s
  | .dalIdle fr => Sys2Proof.Machine.execDalIdle fr s
  | .resyncComplete => Sys2Proof.Machine.execResyncComplete s
  | .prtStart ini n => Sys2Proof.Machine.execPrtStart ini n s
  | .prtHalt ini n => Sys2Proof.Machine.execPrtHalt ini n s
  | .prtResume ini n => Sys2Proof.Machine.execPrtResume ini n s
  | .prtRestart ini n => Sys2Proof.Machine.execPrtRestart ini n s
  | .partitionEnterService n => Sys2Proof.Machine.execPartitionEnterService n s
  | .frameClearDone n => Sys2Proof.Machine.execFrameClearDone n s
  | .getChallenge m => Sys2Proof.Machine.execGetChallenge m s
  | .getIdentity m => Sys2Proof.Machine.execGetIdentity m s
  | .attest m nonce => Sys2Proof.Machine.execAttest m nonce s
  | .extend m v => Sys2Proof.Machine.execExtend m v s
  | .enrollOwner m owner debug sg => Sys2Proof.Machine.execEnrollOwner m owner debug sg s
  | .transferOwner m owner debug clearParts sg => Sys2Proof.Machine.execTransferOwner m owner debug clearParts sg s
  | .enrollPart m n owner debug sg => Sys2Proof.Machine.execEnrollPart m n owner debug sg s
  | .setDebug m sc debug sg => Sys2Proof.Machine.execSetDebug m sc debug sg s
  | .setPassword m sc salt digest sg => Sys2Proof.Machine.execSetPassword m sc salt digest sg s
  | .kwkSet m sc underD seed sg => Sys2Proof.Machine.execKwkSet m sc underD seed sg s
  | .svnAdvance m kind svn sg => Sys2Proof.Machine.execSvnAdvance m kind svn sg s
  | .ideKey m body sg => Sys2Proof.Machine.execIdeKey m body sg s
  | .lifecycle m target sg => Sys2Proof.Machine.execLifecycle m target sg s
  | .faResponse m sc sg => Sys2Proof.Machine.execFaResponse m sc sg s
  | .faPassword m sc pw => Sys2Proof.Machine.execFaPassword m sc pw s
  | .faClose m sc => Sys2Proof.Machine.execFaClose m sc s
  | .challengeExpiry m => Sys2Proof.Machine.execChallengeExpiry m s
  | .pwBackoffExpiry => Sys2Proof.Machine.execPwBackoffExpiry s
  | .jtagBoundaryControl => Sys2Proof.Machine.execJtagBoundaryControl s
  | .coldReset b => Sys2Proof.Machine.execColdReset b s
  | .hbmTrainingDone ok => Sys2Proof.Machine.execHbmTrainingDone ok s
  | .selfTestDone r => Sys2Proof.Machine.execSelfTestDone r s
  | .startupReady => Sys2Proof.Machine.execStartupReady s
  | .auxPowerUp => Sys2Proof.Machine.execAuxPowerUp s
  | .ageingThreshold ev => Sys2Proof.Machine.execAgeingThreshold ev s
  | .cfgCommit ini => Sys2Proof.Machine.execCfgCommit ini s
  | .cfgCheckDone => Sys2Proof.Machine.execCfgCheckDone s
  | .generationApply => Sys2Proof.Machine.execGenerationApply s
  | .cfgAccept ini => Sys2Proof.Machine.execCfgAccept ini s
  | .cfgRollback ini => Sys2Proof.Machine.execCfgRollback ini s
  | .cfgCapture ini => Sys2Proof.Machine.execCfgCapture ini s
  | .storeSelaufen ini => Sys2Proof.Machine.execStoreSelaufen ini s
  | .probationExpiry => Sys2Proof.Machine.execProbationExpiry s
  | .rollbackApply => Sys2Proof.Machine.execRollbackApply s
  | .errorRecordArrive r => Sys2Proof.Machine.execErrorRecordArrive r s
  | .errTailWrite ini tail => Sys2Proof.Machine.execErrTailWrite ini tail s
  | .errPidxTailWrite ini n lost tail => Sys2Proof.Machine.execErrPidxTailWrite ini n lost tail s
  | .counterWrite ini off v inc => Sys2Proof.Machine.execCounterWrite ini off v inc s
  | .msixSend fn vec => Sys2Proof.Machine.execMsixSend fn vec s
  | .bar2Read off n => Sys2Proof.Machine.execBar2Read off n s
  | .bar2Write off bytes poisoned ideOk => Sys2Proof.Machine.execBar2Write off bytes poisoned ideOk s
  | .vfWindowRead vf off n => Sys2Proof.Machine.execVfWindowRead vf off n s
  | .vfWindowWrite vf off bytes => Sys2Proof.Machine.execVfWindowWrite vf off bytes s
  | .pciWinWrite ini v => Sys2Proof.Machine.execPciWinWrite ini v s
  | .pciHnote ini n v => Sys2Proof.Machine.execPciHnote ini n v s
  | .pciMsg ini n v => Sys2Proof.Machine.execPciMsg ini n v s
  | .configRequest fn op t => Sys2Proof.Machine.execConfigRequest fn op t s
  | .perstAssert => Sys2Proof.Machine.execPerstAssert s
  | .pcieLinkDown => Sys2Proof.Machine.execPcieLinkDown s
  | .pcieLinkUp width speed => Sys2Proof.Machine.execPcieLinkUp width speed s
  | .flrVf n => Sys2Proof.Machine.execFlrVf n s
  | .flrPf => Sys2Proof.Machine.execFlrPf s
  | .lkpSpareCp ini tag => Sys2Proof.Machine.execLkpSpareCp ini tag s
  | .lkpPowerDown ini tag => Sys2Proof.Machine.execLkpPowerDown ini tag s
  | .lkpEcho ini tag => Sys2Proof.Machine.execLkpEcho ini tag s
  | .lkpReservedCode ini tag code => Sys2Proof.Machine.execLkpReservedCode ini tag code s
  | .csFreqWrite ini st v => Sys2Proof.Machine.execCsFreqWrite ini st v s
  | .thermalWarn sensor temp => Sys2Proof.Machine.execThermalWarn sensor temp s
  | .throtLChange low => Sys2Proof.Machine.execThrotLChange low s
  | .throttleStep temps t => Sys2Proof.Machine.execThrottleStep temps t s
  | .powerCap watts => Sys2Proof.Machine.execPowerCap watts s
  | .emergencyShutdown thermal => Sys2Proof.Machine.execEmergencyShutdown thermal s
  | .reservedAccess ini off write => Sys2Proof.Machine.execReservedAccess ini off write s
  | .registerWrite ini off v => Sys2Proof.Machine.execRegisterWrite ini off v s
  | .resetAssert => Sys2Proof.Machine.execResetAssert s
  | .auxPowerLoss => Sys2Proof.Machine.execAuxPowerLoss s
  | .pwrokEdge level => Sys2Proof.Machine.execPwrokEdge level s
  | .errorRingRead ini r => Sys2Proof.Machine.execErrorRingRead ini r s
  | .jtagDebugAccess a => Sys2Proof.Machine.execJtagDebugAccess a s

end Sys2Proof.Machine
end

