-- ==== Sys2Proof/Safety.lean ====
section
/-!
DEFINITION. What a safe run is, and the vocabulary of the statements: when a CP runs an instruction to its end, and what
"nothing else changes" says after it.
-/

namespace Sys2Proof.Machine

/-- The outcome of one step is a next state. -/
def Completes (o : Host.Outcome State Fault Refusal) : Prop := ∃ t, o = .next t

/-- n steps from a state all answer next states. -/
def SafeFor : Nat → State → Prop
  | 0, _ => True
  | n + 1, s => ∃ t, step s = .next t ∧ SafeFor n t

/-- The delay store buffer and the input log of CP_k's pair, if it has one, have room for an instruction's outputs and loads and
for the frame of an event after it (R285). -/
def State.roomy (s : State) (k : CpId) : Prop :=
  ∀ n, s.pairOf k = some n →
    s.pairStores k n + 32 ≤ 256 ∧ s.pairs[n].log.length + 64 ≤ 4096 ∧ s.fld (oCMP_PSTAT n) 48 36 < 4095

/-- No disabled cache has left contents behind that differ from main storage, and no copy differs from it (R257, R263). -/
def Fresh (s : State) : Prop := s.l3Stale = [] ∧ ∀ t, (s.site t).l2Stale = [] ∧ (s.site t).l1dStale = []

/-- y is the core site x but for its caches and its RLB. -/
def SiteCaches (x y : Site) : Prop :=
  y = { x with l1i := y.l1i, l1d := y.l1d, l2 := y.l2, l2Stale := y.l2Stale, l1dStale := y.l1dStale, l1iBad := y.l1iBad,
               rlb := y.rlb, rlbD := y.rlbD, rlbBad := y.rlbBad }

/-- t is s after accesses through the caches: only what the caches hold, what the HBM holds under dirty lines and the copies of
descriptors follow; with nothing aged in the L3 no byte, tag or poison of main storage changes, and fresh caches stay so. -/
structure CacheOnly (s t : State) : Prop where
  rest : t = { s with mem := t.mem, sites := t.sites, l3 := t.l3, l3Stale := t.l3Stale, tagCache := t.tagCache }
  sites : ∀ x, SiteCaches (s.site x) (t.site x)
  still : s.l3Stale = [] → t.l3Stale = [] ∧ t.mem.cells = s.mem.cells ∧ t.mem.poison = s.mem.poison
  fresh : Fresh s → Fresh t

/-- CP_k executes instruction i (R92, R95, R96): it issues, the fetch passes, the encoding is legal and the predicate holds;
no checkpoint is due with this instruction (R273); a pair has room for what the instruction puts out (R285); events are masked,
or no arithmetic trap waits to be taken (R179). -/
structure Ready (s : State) (k : CpId) (i : Instr) (pr : Pred) : Prop where
  issuing : s.issuing k = true
  fetch : s.fetchCheck k = none
  legal : i.legal = true
  holds : (s.cr k).holds pr = true
  room : (s.cp k).retired < 255
  roomy : s.roomy k
  quiet : (s.cr k).em = true ∨ (s.cp k).arith = none

/-- CP_k runs outside a pair, and its outputs are verified (R283, R296). -/
def Solo (s : State) (k : CpId) : Prop := s.pairOf k = none ∧ s.pairUnverified k = none

/-- The next instruction's registers, but for what the instruction writes. -/
def CpRegs.next (r : CpRegs) : CpRegs := { r with pc := r.pc + 4 }

/-- What stands around the body of an instruction that needs no checkpoint: the state it starts from. -/
def State.atBody (s : State) (k : CpId) : State :=
  ((s.fetched k).modCp k fun c => { c with syncGo := false }).modRegs k CpRegs.next

/-- t is s after an instruction of CP_k that leaves registers r: one more instruction is counted, only caches and RLB copies take
note of the accesses (a parity error of one is counted), main storage holds what it held, and nothing else changes. What a
pair logs of it is log. -/
structure RetiredWith (s t : State) (k : CpId) (r : CpRegs) (log : PairId → List LogEntry) : Prop where
  cp : t.cp k = { s.cp k with
    regs := r, retired := (s.cp k).retired + 1, syncGo := false
    arith := (s.cp k).arith.map fun a => { a with age := a.age + 1 } }
  others : ∀ j, j ≠ k → t.cp j = s.cp j
  pairs : ∀ n : PairId, t.pairs[n] =
    if s.pairOf k = some n then { s.pairs[n] with retired := s.pairs[n].retired + 1, log := log n } else s.pairs[n]
  rest : t = { s with cps := t.cps, regs := t.regs, pairs := t.pairs, mem := t.mem, sites := t.sites, l3 := t.l3,
                      l3Stale := t.l3Stale, tagCache := t.tagCache }
  sites : ∀ x, SiteCaches (s.site x) (t.site x)
  mem : s.l3Stale = [] → t.mem.cells = s.mem.cells ∧ t.mem.poison = s.mem.poison
  regs : ∀ o, (∀ x, s.siteOf k = some x → o ≠ cSITE x 1 ∧ o ≠ cSITE x 3) → (∀ n, s.pairOf k = some n → o ≠ oCMP_PSTAT n) →
    t.reg o = s.reg o

/-- An instruction that reads nothing a pair would log. -/
def Retired (s t : State) (k : CpId) (r : CpRegs) : Prop := RetiredWith s t k r fun n => s.pairs[n].log

/-- PS after an operation with exceptions x: bits 4:0 (NV, DZ, OF, UF, NX in the positions of AXEN) and bit 9 are sticky;
no enabled exception is among them. -/
def Quiet (r : CpRegs) (x : Exc) : Prop := x &&& r.axen.setWidth 11 = 0

/-- The registers after an arithmetic instruction with result w and exceptions x. -/
def CpRegs.arith (r : CpRegs) (d : BitVec 5) (w : TWord) (x : Exc) : CpRegs :=
  { r.next.setG d w with ps := raiseFlags r.ps x }
/-- The same for a result in a predicate. -/
def CpRegs.arithP (r : CpRegs) (d : BitVec 5) (v : Bool) (x : Exc) : CpRegs :=
  { r.next.setP (d.toNat % 8) v with ps := raiseFlags r.ps x }

/-- A binary64 operand (FLO or RAW), or a binary32 operand (RAW, upper half zero) (R99, R165). -/
def fpOk (single : Bool) (w : TWord) : Prop :=
  w.poison = false ∧ if single then w.tag = tagRAW ∧ w.data.toNat < 2 ^ 32 else w.tag = tagFLO ∨ w.tag = tagRAW

/-- The tag RAW or FIX, no poison. -/
def numOk (w : TWord) : Prop := (w.tag = tagRAW ∨ w.tag = tagFIX) ∧ w.poison = false

/-- A magnitude as a rational number. -/
def dyadic (m : Nat) (e : Int) : ℚ := m * (2 : ℚ) ^ e

/-- The magnitude of a finite encoding. -/
def FFmt.mag (F : FFmt) (x : Nat) : ℚ :=
  match F.unpack x with
  | .fin _ m e => dyadic m e
  | _ => 0

/-- An operand of an INIT or STEP instruction, which raises no value fault (R170). -/
def stepOk (single : Bool) (w : TWord) : Prop :=
  w.poison = false ∧ if single then w.tag = tagRAW else w.tag = tagFLO ∨ w.tag = tagRAW

/-- The base register and the index register of a load or store are usable, and c13 is named under SYS authority only (R99,
R101, R190). -/
def memOk (s : State) (k : CpId) (f : MemForm) : Prop :=
  let r := s.cr k
  let a := r.gr (memA f)
  (numOk a ∨ (s.ptrClass k a.tag = true ∨ a.tag = tagCODE) ∧ a.poison = false) ∧
  (match f with | .m _ => True | .x g => numOk (r.gr g.b)) ∧ ((memCap f).toNat = 13 → r.sys = true)

/-- R98, R101: base plus displacement, or base plus index, scaled by the size. -/
def memAddr (r : CpRegs) (size : Nat) : MemForm → Word
  | .m f => BitVec.ofInt 64 ((r.gr f.a).data.toInt + f.disp.toInt * size)
  | .x f => BitVec.ofNat 64 ((r.gr f.a).data.toNat + (r.gr f.b).data.toNat * size)

/-- An instruction that loads: in a pair, what it loaded is logged (R284). -/
def Loaded (s t : State) (k : CpId) (r : CpRegs) : Prop := ∃ log, RetiredWith s t k r log

/-- s with outputs that wait for the next checkpoint of CP_k (R272). -/
def State.holdAll (s : State) (k : CpId) (hs : List Held) : State := s.modCp k fun c => { c with held := c.held ++ hs }

/-- An instruction completes, with some registers after it. -/
def CompletesAt (s : State) (k : CpId) (i : Instr) : Prop := ∃ t r, exec i s = .next t ∧ Retired s t k r

/-- No cache holds stale contents, and the RLB of CP_k's core site translates as the region table does (R72, R73). -/
def Coherent (s : State) (k : CpId) : Prop :=
  Fresh s ∧ ∀ n, s.partOf k = some n → ∀ ea st, s.rlbXlate k n ea st = s.xlate n ea st

/-- CP_k stands just after a checkpoint: nothing is held, it runs outside a pair, no site is to be spared and no cache has
stale contents. -/
structure Calm (s : State) (k : CpId) : Prop where
  solo : Solo s k
  held : (s.cp k).held = []
  spare : ∀ x, (s.site x).spareDue = false
  fresh : Fresh s

/-- t follows s with a checkpoint of CP_k behind the instruction: the registers r are saved, nothing is held, main storage
holds what m holds, and every other CP is as before. -/
structure Checkpointed (s t : State) (k : CpId) (r : CpRegs) (m : Mem) : Prop where
  regs : t.cr k = r
  ckpt : (t.cp k).ckpt = r
  held : (t.cp k).held = []
  retired : (t.cp k).retired = 0
  others : ∀ j, j ≠ k → t.cp j = s.cp j
  mem : t.mem.cells = m.cells ∧ t.mem.poison = m.poison

/-- After an instruction that ends with registers r no event is due: events stay masked, or none waits. -/
def NoEvent (s : State) (k : CpId) (r : CpRegs) : Prop := r.em = true ∨ bits r.evpend 6 0 = 0 ∧ (s.cp k).arith = none

/-! The words of instructions. -/

/-- A command is a Rilel instruction of CP_k. (That an RLB word has a parity error is the outside's word on a load, and no
part of the instruction.) -/
def isRilel (k : CpId) : Instr → Prop
  | .add j _ | .sub j _ | .and j _ | .or j _ | .xor j _ | .andn j _ | .sll j _ | .srl j _ | .sra j _ | .rol j _
  | .min j _ | .max j _ | .minu j _ | .maxu j _ | .mov j _ | .addi j _ | .andi j _ | .ori j _ | .xori j _ | .shi j _
  | .cmpEq j _ | .cmpNe j _ | .cmpLt j _ | .cmpLe j _ | .cmpLtu j _ | .cmpLeu j _ | .cmpEqw j _ | .cmpi j _
  | .pand j _ | .por j _ | .pxor j _ | .pandn j _ | .pnot j _ | .pset j _ | .pclr j _ | .prdg j _ | .pwrg j _
  | .tagget j _ | .tagset j _ | .tagchk j _ | .class j _ | .tagseti j _ | .mul j _ | .mulh j _ | .mulhu j _
  | .mulhsu j _ | .dprep j _ | .dprepu j _ | .dstep j _ | .dquot j _ | .drem j _ | .dadd j _ | .dsub j _ | .dcmp j _
  | .dval j _ | .stw j _ | .ldb j _ | .ldbs j _ | .ldh j _ | .ldhs j _ | .stb j _ | .sth j _ | .ldc j _ | .stc j _
  | .ldpc j _ | .br j _ | .call j _ | .jr j _ | .callr j _ | .ret j _ | .gadd j _ | .gsub j _ | .gmul j _ | .gneg j _
  | .gcmplt j _ | .gcmpeq j _ | .car j _ | .cdr j _ | .rplaca j _ | .rplacd j _ | .cons j _ | .assq j _ | .memq j _
  | .tdisp j _ | .alloc j _ | .allocv j _ | .mark j _ | .scanw j _ | .colget j _ | .colset j _ | .fwdset j _
  | .cmov j _ | .cbnd j _ | .cperm j _ | .cseal j _ | .cunseal j _ | .cgetb j _ | .cgetl j _ | .cgetp j _
  | .ctest j _ | .cclr j _ | .bcopy j _ | .bfill j _ | .saveRs j _ | .loadRs j _ | .rsdepth j _ | .start j _
  | .casw j _ | .swpw j _ | .faddw j _ | .pref j _ | .prefw j _ | .lzero j _ | .ccln j _ | .cfls j _ | .fcvtFixD j _
  | .fcvtDFix j _ | .fcvtSD j _ | .fcvtDS j _ | .fcvtFixS j _ | .fcvtSFix j _ | .clz j _ | .ctz j _ | .popc j _
  | .brev j _ | .bswap j _ | .rdtick j _ | .rdtime j _ | .rdcyc j _ | .rdps j _ | .wrps j _ | .gate j _ | .gateF j _
  | .gret j _ | .retfEvent j _ | .retfGate j _ | .trap j _ | .tret j _ | .fence j _ | .fenceA j _ | .fenceI j _
  | .cinvR j _ | .cclnR j _ | .cflsR j _ | .rdset j _ | .mfk j _ | .mtk j _ | .emset j _ | .emclr j _ | .wrpsk j _
  | .wait j _ | .fadd j _ _ | .fsub j _ _ | .fmul j _ _ | .fmadd j _ _ | .fmsub j _ _ | .fnmadd j _ _ | .fmin j _ _
  | .fmax j _ _ | .fabs j _ _ | .fneg j _ _ | .fclass j _ _ | .fcmpeq j _ _ | .fcmplt j _ _ | .fcmple j _ _
  | .fcmpun j _ _ | .fdinit j _ _ | .fdstep j _ _ | .fdfin j _ _ | .fsqinit j _ _ | .fsqstep j _ _ | .fsqfin j _ _
  | .ldw j false _ | .customerInsn j _ _ => j = k
  | _ => False

/-! The units of the I/O die. -/

/-- No register location but those listed reads otherwise in t than in s. -/
def OnlyRegs (s t : State) (os : List Nat) : Prop := ∀ o, o ∉ os → t.reg o = s.reg o

/-- t is s: every register location reads as in s, and all else is the same. -/
def Same (s t : State) : Prop := (∀ o, t.reg o = s.reg o) ∧ t = { s with regs := t.regs }

/-- t is s but for the register locations listed. -/
def Regs (s t : State) (os : List Nat) : Prop := OnlyRegs s t os ∧ t = { s with regs := t.regs }

/-- The Lockkeeper or PF0, on a device that is READY (R8, R509). -/
def Manager (s : State) (i : Initiator) : Prop := (i = .pf0 ∨ i = .lkp) ∧ s.running = true ∧ s.ready = true

/-- Nothing waits for a tick: no channel program is in a context, no command is sealed, no endpoint is paced or has a frame in
preparation, no engine is sliced, no journal entry stands, the ports are down, the unit is not an active twin, no
configuration commit waits for its commit point, no partition's CPs are in service or have a test of DONE to come, and no
request waits. -/
structure Still (s : State) : Prop where
  ctx : ∀ (e : UnitId) (x : CtxId), s.ctx e x = none
  sealedCmds : ∀ e : UnitId, (s.eng e).sealedCmds = []
  paced : ∀ (e : UnitId) (ep : EpId), s.paced e ep = false
  resv : ∀ e : UnitId, (s.eng e).resv = []
  slices : ∀ e : UnitId, s.flag (oCE_CTL e) 8 = false
  cfg : s.heldCfg = []
  slots : ∀ u : UnitId, (s.jn u).slots = []
  ports : ∀ u : PortId, s.portLive u = false
  twin : s.fld oTWN_STAT 3 0 ≠ 2 ∧ s.twin.mirrorNext = false
  lines : ∀ k : Fin 4, s.flag (oTOW_INT k) 0 = false
  absent : ∀ i : NiId, (s.ni i).absent = []
  snap : s.flag oNOC_SNAP 1 = false
  parts : ∀ n : PartId, s.serving n = false
  tests : ∀ n : PartId, s.tick.tested.getLsbD n = true ∨ s.tick.pound = false ∨ s.fld (oTCK_PART n) 23 0 = 0 ∨
    s.flag (oTCK_PART n) 63 = true

/-- What every tick does, numbered T at time at_ (R33, R47, R48, R235); kind 0 is an accepted tick (R41). DONE set in the
cycle of the tick stays. -/
structure Ticked (s t : State) (T at_ kind : Nat) : Prop where
  number : t.tickNum = T
  edge : t.reg oTCK_EDGE = BitVec.ofNat 64 at_
  done : ∀ n : PartId, t.flag (oTCK_PART n) 63 =
    (s.flag (oTCK_PART n) 63 && decide (s.tick.doneAt[n] = some (BitVec.ofNat 64 at_)))
  events : ∀ e : UnitId, s.ceState e ≠ ceOFF → (t.eng e).seq.tickEv = true
  commit : t.tick.commitDone = false
  accepted : t.tick.lastAccepted = decide (kind = 0)
  src : t.tick.src = s.tick.src
  regs : ∀ o, o ∉ [oTCK_TIME, oTCK_NUM, oTCK_EDGE, oTCK_PERIOD, oTCK_STAT, oCFG_STAT, cDEV 1] → (∀ n : PartId, o ≠ oTCK_PART n) →
    t.reg o = s.reg o
  rest : t = { s with regs := t.regs, tick := t.tick, engines := t.engines, noc := t.noc, twin := t.twin, out := t.out }

/-! Channel programs. -/

/-- No key slot waits to be emptied (R395). -/
def KeysCalm (s : State) : Prop := ∀ z ∈ s.xf.slots, z.2.clearDue = false

/-- t is s but for context x of engine e, which holds c. -/
def InCtx (s t : State) (e : UnitId) (x : CtxId) (c : Option Ctx) : Prop :=
  t = { s with engines := t.engines } ∧ (∀ j, j ≠ e → t.eng j = s.eng j) ∧
  t.eng e = { s.eng e with ctx := (s.eng e).ctx.set x c }

/-- t is s but for engine e, which is g, and for what the caches note of accesses to storage. -/
def EngTo (s t : State) (e : UnitId) (g : Engine) : Prop :=
  (∃ u, CacheOnly s u ∧ t = { u with engines := t.engines }) ∧ (∀ j, j ≠ e → t.eng j = s.eng j) ∧ t.eng e = g

/-- A context as the fetch of its command, the engine's fetch number no, leaves it: the four words read, and nothing done yet. -/
def Ctx.fetchedAt (c : Ctx) (ws : List TWord) (tick off no : Nat) : Ctx :=
  { c with
    cmd := ws.map (·.data), regs := ws.map (·.data), stages := [], staged := [], seqs := [], frames := 0, bytes := 0, tick := tick
    got := [], subBits := 0, rxStatus := 0, target := 0, offAt := off, fetchNo := no }

/-- A context that is to fetch its next command at a, after j JUMPs in a row. -/
def Ctx.goesTo (c : Ctx) (a : Word) (j : Nat) : Ctx :=
  { c with phase := .fetch, jumps := j, cmd := [], regs := [], stages := [], staged := [], seqs := [], frames := 0, bytes := 0
           got := [], prog := { c.prog with addr := a } }

/-! Journal and ports. -/

/-- Both copies of a journal entry can be read (R345). -/
def CopiesOk (s : State) (u : UnitId) (i : Nat) : Prop :=
  s.copyOk (entryAddr u i) = true ∧ s.copyOk (entryAddr u i + 0x200) = true

/-- Of the journal's entries only entry i of unit u may have changed: it is e. -/
def EntryTo (s t : State) (u : UnitId) (i : Nat) (e : JEntry) : Prop :=
  t.entry u i = e ∧ ∀ (v : UnitId) (j : Nat), j < 65536 → (v, j) ≠ (u, i) → t.entry v j = s.entry v j

/-- A frame leaves port u, and nothing else does: its type, endpoint, number, epoch, flags, CUT, tick and payload (R370 to R373, R379). -/
def Sends (s t : State) (u : PortId) (ty ep seq epoch flags : Nat) (cut : Bool) (tick : Nat) (bs : List Byte) : Prop :=
  ∃ f, t.out = OutEvent.frame u f :: s.out ∧ f.ty = ty ∧ f.ep = ep ∧ f.seq = seq ∧ f.epoch = epoch ∧
    f.flags = flags ||| s.holdFlag u ∧ f.cut = cut ∧ bits f.h1 15 0 = tick % 65536 ∧ f.payload = bs ∧ f.good = true

/-- t is s but for port u, which is p. -/
def PortTo (s t : State) (u : PortId) (p : Port) : Prop := t.port u = p ∧ ∀ v, v ≠ u → t.port v = s.port v

/-! The twin. -/

/-- A Dalnos frame leaves, and nothing else does: its type, unit, ARG and payload; IDLE and LNAK take no link number (R452, R453). -/
def SendsDal (s t : State) (ty u arg : Nat) (bs : List Byte) : Prop :=
  ∃ f, t.out = OutEvent.dal f :: s.out ∧ f.ty = ty ∧ f.unitj = u ∧ f.arg = arg ∧ f.payload = bs ∧ f.good = true ∧
    f.lseq = (if ty = 0 ∨ ty = 10 then 0 else s.twin.txSeq % 2 ^ 48)

/-- v is s after its unit became ACTIVE: the role, the tick source, an epoch higher by 1 on every port, whose EPOCH frames
stand open, and the engines that may run, running (R445, R450). -/
structure Active (s v : State) : Prop where
  role : v.role = rACTIVE
  source : v.fld oTCK_CTL 2 0 = s.takeSrc
  epochs : ∀ u : PortId, v.portEpoch u = (s.portEpoch u + 1) % 65536
  announced : ∀ (u : PortId) (ep : EpId), s.lstate u = lsUP → s.epOwner u ep < 8 → ep.val ∈ (v.port u).epochOpen
  engines : ∀ e : UnitId, s.ceState e = ceSTOPPED → s.flag (oCE_CTL e) 0 = true → (s.eng e).retired = false →
    v.ceState e = ceRUNNING

/-- v is s after its unit took over from its twin: SWITCHED, the mirrored entries to be sent again (at a handover those not
acknowledged stay SENT, and mirroring goes on), and EVPEND.LKP on every CP (R22, R458, R466). -/
structure TookOver (s v : State) (handover : Bool) : Prop where
  active : Active s v
  mirroring : v.twin.mirrorOn = handover
  switched : v.flag oTWN_STAT 13 = (!handover || s.flag oTWN_STAT 13)
  entries : (∀ u : UnitId, (s.jn u).slots.Nodup ∧ ∀ i ∈ (s.jn u).slots, i < 65536) → ∀ (u : UnitId) (i : Nat),
    i ∈ (s.jn u).slots → CopiesOk s u i →
      let e := s.entry u i
      v.entry u i =
        if e.state = jHELD then e
        else if i ∈ (s.jn u).mirPayload then { e.setFlag 3 with state := if e.state = jWRITTEN then jREADY else e.state }
        else if handover = true then { e with state := jSENT, sent := s.now } else { e with state := jRESEND }
  events : ∀ k, v.cp k =
    { s.cp k with
      regs := { (s.cp k).regs with evpend := insBits (s.cp k).regs.evpend 6 6 1 }, waiting := false }

end Sys2Proof.Machine
end

