-- ==== Sys2Proof/Certificates/Slice0/Obligations.lean ====
section
/-!
DEFINITION. The statements about the model for the provers: what each command does, what it leaves unchanged, and where it
completes.
-/

open Sys2Proof Sys2Proof.Machine

/-! The queue, reset and the shared frame. -/

/-- step takes the command at the front of the queue and answers exec of it on the state with the queue's rest; on an empty
queue a nanosecond passes while RST_L is high (the model's choice, assumption 1). -/
def Obligations.StepRunsFront : Prop :=
  (∀ (c : Instr) (q : List Instr) (s : State), step { s with pending := c :: q } = exec c { s with pending := q }) ∧
  ∀ s : State, s.pending = [] → ∃ t, step s = .next t ∧ (∀ o, o ≠ oTCK_TIME → t.reg o = s.reg o) ∧
    t = { s with regs := t.regs }

/-- Right after reset every register field reads what its Reset column gives: the value, the default generation's value for G (R568), 0
for a strap (R13; the last is assumption 7). The queue is empty and storage lists no byte, in canonical form. No logical CP issues, every
engine is OFF, every port DOWN, no partition is defined, no cache and no RLB holds an entry; a CP that is brought into service with entry capability c
starts in the state of R85. -/
def Obligations.ResetState : Prop :=
  (∀ off fs, regFields off = some fs → ∀ f ∈ fs, State.reset.fld off f.hi f.lo =
     match f.rst with
     | .val v => v
     | .g d => d
     | .s => 0) ∧
  State.reset.pending = [] ∧ State.reset.mem.cells = [] ∧ State.reset.mem.poison = [] ∧ State.reset.mem.wf ∧
  (∀ k, State.reset.issuing k = false) ∧ (∀ e : UnitId, State.reset.ceState e = ceOFF) ∧
  (∀ u : PortId, State.reset.lstate u = 0) ∧ (∀ n : PartId, State.reset.partState n = ptNONE) ∧
  (∀ t : SiteId, (State.reset.site t).l1d = [] ∧ (State.reset.site t).l1i = [] ∧ (State.reset.site t).l2 = [] ∧
    (State.reset.site t).rlb = []) ∧
  (∀ n : Fin 4, State.reset.tagCache[n] = []) ∧
  ∀ c : Cap, let r := CpRegs.init c
    (∀ d : BitVec 5, r.gr d = if d = 0 then TWord.ofFix 0 else TWord.ofRaw 0) ∧
    (∀ n : BitVec 3, (r.holds ⟨false, n⟩ = true ↔ n = 0)) ∧
    (∀ d : BitVec 5, d.toNat < 15 → r.cr d = Cap.null) ∧ r.cr 15 = c ∧ r.pc = c.base ∧ r.rs = [] ∧ r.ps = 0x4000

/-- A legal Rilel instruction is what the decoder finds in its word, every field of every format with every value; and what the decoder
finds in a word is an instruction whose word is that word, so no two words mean the same (R88, R97, R98, R110). -/
def Obligations.DecodeRoundTrip : Prop :=
  (∀ (k : CpId) (i : Instr), isRilel k i → i.legal = true → decodeRilel k (insnWord i) = some i) ∧
  ∀ (k : CpId) (w : BitVec 32) (i : Instr), decodeRilel k w = some i → isRilel k i ∧ insnWord i = w

/-- Main storage keeps its canonical form, addresses strictly rising and no byte listed that an unlisted one reads as, whatever command
runs.
Where it rests on the model's choices: assumption 8. -/
def Obligations.StorageStaysCanonical : Prop :=
  ∀ s t : State, s.mem.wf → step s = .next t → t.mem.wf

/-! Rilel: instructions on registers alone. -/

/-- INT and MUL on operands tagged RAW or FIX: g_d takes the value, FIX when both operands are FIX and else RAW; a write to g0 is discarded; nothing else changes but the program counter and the count of instructions
(R98, R99, R100, R158). The immediate forms on an operand tagged RAW or FIX: the result keeps the operand's tag (an immediate counts as FIX).
ADDI sign-extends, ANDI, ORI and XORI zero-extend; SHI takes its operation from bits 7:6 (R97, R99, R100). -/
def Obligations.IntegerResults : Prop :=
  (∀ (s : State) (k : CpId) (f : RForm),
     let r := s.cr k
     let a := r.gr f.a
     let b := r.gr f.b
     let n := b.data.toNat % 64
     let tag := if a.tag = tagFIX ∧ b.tag = tagFIX then tagFIX else tagRAW
     a.tag = tagRAW ∨ a.tag = tagFIX → b.tag = tagRAW ∨ b.tag = tagFIX → a.poison = false → b.poison = false →
     ∀ x ∈ ([(.add k f, BitVec.ofInt 64 (a.data.toInt + b.data.toInt)),
       (.sub k f, BitVec.ofInt 64 (a.data.toInt - b.data.toInt)),
       (.and k f, a.data &&& b.data), (.or k f, a.data ||| b.data), (.xor k f, a.data ^^^ b.data),
       (.andn k f, a.data &&& ~~~b.data), (.sll k f, BitVec.ofNat 64 (a.data.toNat * 2 ^ n)),
       (.srl k f, BitVec.ofNat 64 (a.data.toNat / 2 ^ n)), (.sra k f, BitVec.ofInt 64 (a.data.toInt / 2 ^ n)),
       (.rol k f, (a.data <<< n) ||| (a.data >>> (64 - n))),
       (.min k f, if a.data.toInt ≤ b.data.toInt then a.data else b.data),
       (.max k f, if a.data.toInt ≤ b.data.toInt then b.data else a.data),
       (.minu k f, if a.data.toNat ≤ b.data.toNat then a.data else b.data),
       (.maxu k f, if a.data.toNat ≤ b.data.toNat then b.data else a.data),
       (.mul k f, BitVec.ofNat 64 (a.data.toNat * b.data.toNat)),
       (.mulh k f, BitVec.ofInt 64 (a.data.toInt * b.data.toInt / 2 ^ 64)),
       (.mulhu k f, BitVec.ofNat 64 (a.data.toNat * b.data.toNat / 2 ^ 64)),
       (.mulhsu k f, BitVec.ofInt 64 (a.data.toInt * (b.data.toNat : Int) / 2 ^ 64))] : List (Instr × Word)),
       Ready s k x.1 f.pr → ∃ t col, exec x.1 s = .next t ∧ Retired s t k (r.next.setG f.d ⟨x.2, tag, col, false⟩)) ∧
  (∀ (s : State) (k : CpId) (f : IForm),
     let r := s.cr k
     let a := r.gr f.a
     let n := f.imm.toNat % 64
     a.tag = tagRAW ∨ a.tag = tagFIX → a.poison = false →
     ∀ x ∈ ([(.addi k f, BitVec.ofInt 64 (a.data.toInt + f.imm.toInt)), (.andi k f, BitVec.ofNat 64 (a.data.toNat &&& f.imm.toNat)),
       (.ori k f, BitVec.ofNat 64 (a.data.toNat ||| f.imm.toNat)), (.xori k f, BitVec.ofNat 64 (a.data.toNat ^^^ f.imm.toNat)),
       (.shi k f, if f.imm.toNat / 64 % 4 = 0 then BitVec.ofNat 64 (a.data.toNat * 2 ^ n)
         else if f.imm.toNat / 64 % 4 = 1 then BitVec.ofNat 64 (a.data.toNat / 2 ^ n)
         else if f.imm.toNat / 64 % 4 = 2 then BitVec.ofInt 64 (a.data.toInt / 2 ^ n)
         else (a.data <<< n) ||| (a.data >>> (64 - n)))] : List (Instr × Word)),
       Ready s k x.1 f.pr → ∃ t col, exec x.1 s = .next t ∧ Retired s t k (r.next.setG f.d ⟨x.2, a.tag, col, false⟩))

/-- The comparisons write p_d and nothing else; a write to p0 is discarded. CMP.EQW and TAGCHK take operands of any tag and
ignore collector bits; CMPI takes its condition from bits 4:3 of the d field (R83, R97, R98, R99). The predicate operations: p_d takes the value; p0 reads as true and a write to it is discarded. PRDG reads p7 to p0 as
bits 7:0 of a FIX word; PWRG writes p1 to p7 from bits 7:1 (R83, R98). -/
def Obligations.PredicateWrites : Prop :=
  (∀ (s : State) (k : CpId) (f : RForm) (g : IForm),
     let r := s.cr k
     let a := r.gr f.a
     let b := r.gr f.b
     let w := r.gr g.a
     let num := fun (x : TWord) => x.tag = tagRAW ∨ x.tag = tagFIX
     a.poison = false → b.poison = false → w.poison = false →
     (num a → num b → ∀ x ∈ ([(.cmpEq k f, decide (a.data = b.data)), (.cmpNe k f, decide (a.data ≠ b.data)),
       (.cmpLt k f, decide (a.data.toInt < b.data.toInt)), (.cmpLe k f, decide (a.data.toInt ≤ b.data.toInt)),
       (.cmpLtu k f, decide (a.data.toNat < b.data.toNat)), (.cmpLeu k f, decide (a.data.toNat ≤ b.data.toNat))] :
         List (Instr × Bool)),
       Ready s k x.1 f.pr → ∃ t, exec x.1 s = .next t ∧ Retired s t k (r.next.setP (f.d.toNat % 8) x.2)) ∧
     (Ready s k (.cmpEqw k f) f.pr → ∃ t, exec (.cmpEqw k f) s = .next t ∧
       Retired s t k (r.next.setP (f.d.toNat % 8) (decide (a.tag = b.tag ∧ a.data = b.data)))) ∧
     (num b → Ready s k (.tagchk k f) f.pr → ∃ t, exec (.tagchk k f) s = .next t ∧
       Retired s t k (r.next.setP (f.d.toNat % 8) (decide (a.tag.toNat = b.data.toNat % 64)))) ∧
     (num w → Ready s k (.cmpi k g) g.pr → ∃ t, exec (.cmpi k g) s = .next t ∧
       Retired s t k (r.next.setP (g.d.toNat % 8)
         (if g.d.toNat / 8 = 0 then decide (w.data.toInt = g.imm.toInt)
         else if g.d.toNat / 8 = 1 then decide (w.data.toInt ≠ g.imm.toInt)
         else if g.d.toNat / 8 = 2 then decide (w.data.toInt < g.imm.toInt)
         else decide (w.data.toNat < (BitVec.ofInt 64 g.imm.toInt).toNat))))) ∧
  (∀ (s : State) (k : CpId) (f : RForm),
     let r := s.cr k
     let p := fun (i : BitVec 5) => decide (i.toNat % 8 = 0) || r.p.getLsbD (i.toNat % 8)
     (∀ x ∈ ([(.pand k f, p f.a && p f.b), (.por k f, p f.a || p f.b), (.pxor k f, p f.a != p f.b),
       (.pandn k f, p f.a && !p f.b), (.pnot k f, !p f.a), (.pset k f, true), (.pclr k f, false)] : List (Instr × Bool)),
       Ready s k x.1 f.pr → ∃ t, exec x.1 s = .next t ∧ Retired s t k (r.next.setP (f.d.toNat % 8) x.2)) ∧
     (Ready s k (.prdg k f) f.pr → ∃ t v col, exec (.prdg k f) s = .next t ∧
       Retired s t k (r.next.setG f.d ⟨v, tagFIX, col, false⟩) ∧
       v.toNat < 256 ∧ v.getLsbD 0 = true ∧ ∀ i : Fin 8, i ≠ 0 → v.getLsbD i = r.p.getLsbD i) ∧
     ((r.gr f.a).tag = tagRAW ∨ (r.gr f.a).tag = tagFIX → (r.gr f.a).poison = false → Ready s k (.pwrg k f) f.pr →
       ∃ t v, exec (.pwrg k f) s = .next t ∧ Retired s t k { r.next with p := v } ∧
         v.getLsbD 0 = r.p.getLsbD 0 ∧ ∀ i : Fin 8, i ≠ 0 → v.getLsbD i = (r.gr f.a).data.getLsbD i))

/-- MOV copies the word with all its tag bits; TAGGET, CLASS and RSDEPTH write FIX words; TAGSET and TAGSETI change the type
tag alone; RDPS reads PS as RAW; WRPS writes RM, RW fields of PS only (R60, R63, R86, R87, R98, R99).
Where it rests on the model's choices: assumption 21. -/
def Obligations.MoveResults : Prop :=
  ∀ (s : State) (k : CpId) (f : RForm) (g : IForm),
    let r := s.cr k
    let a := r.gr f.a
    let b := r.gr f.b
    let w := r.gr g.a
    let tagOk := fun (n : Nat) => ¬(0x15 ≤ n ∧ n ≤ 0x2F) ∧ n ≠ 0x12 ∧ n ≠ 0x13
    let n := b.data.toNat % 64
    let m := g.imm.toNat % 64
    a.poison = false → b.poison = false → w.poison = false →
    (Ready s k (.mov k f) f.pr → ∃ t, exec (.mov k f) s = .next t ∧ Retired s t k (r.next.setG f.d a)) ∧
    (Ready s k (.tagget k f) f.pr → ∃ t, exec (.tagget k f) s = .next t ∧
      Retired s t k (r.next.setG f.d (.ofFix (BitVec.ofNat 64 a.tag.toNat)))) ∧
    (b.tag = tagRAW ∨ b.tag = tagFIX → tagOk n → Ready s k (.tagset k f) f.pr → ∃ t, exec (.tagset k f) s = .next t ∧
      Retired s t k (r.next.setG f.d { a with tag := BitVec.ofNat 6 n })) ∧
    (tagOk m → Ready s k (.tagseti k g) g.pr → ∃ t, exec (.tagseti k g) s = .next t ∧
      Retired s t k (r.next.setG g.d { w with tag := BitVec.ofNat 6 m })) ∧
    (Ready s k (.class k f) f.pr → ∃ t, exec (.class k f) s = .next t ∧
      Retired s t k (r.next.setG f.d (.ofFix
        (if s.ptrClass k a.tag then 1 else if a.tag = tagHDR then 2 else if a.tag = tagFWD then 3
          else if a.tag = tagCODE then 4 else 0)))) ∧
    (Ready s k (.rsdepth k f) f.pr → ∃ t, exec (.rsdepth k f) s = .next t ∧
      Retired s t k (r.next.setG f.d (.ofFix (BitVec.ofNat 64 r.rs.length)))) ∧
    (Ready s k (.rdps k f) f.pr → ∃ t, exec (.rdps k f) s = .next t ∧ Retired s t k (r.next.setG f.d (.ofRaw r.ps))) ∧
    (a.tag = tagRAW ∨ a.tag = tagFIX → Ready s k (.wrps k f) f.pr → ∃ t v, exec (.wrps k f) s = .next t ∧
      Retired s t k { r.next with ps := v } ∧
      ∀ i : Fin 64, v.getLsbD i = if i.val ≤ 4 ∨ 9 ≤ i.val ∧ i.val ≤ 13 then a.data.getLsbD i else r.ps.getLsbD i)

/-- CLZ and CTZ count zeros, 64 of a zero word; POPC counts ones; BREV and BSWAP reverse bits and bytes. The result keeps the
operand's tag (R98, R99). RDTICK reads TCK_NUM as FIX, RDTIME reads TCK_TIME as RAW, RDCYC reads a count as RAW; in a pair the values are logged (R111, R284).
Where it rests on the model's choices: assumptions 21, 28. -/
def Obligations.BitAndTimeResults : Prop :=
  (∀ (s : State) (k : CpId) (f : RForm),
     let r := s.cr k
     let a := r.gr f.a
     a.tag = tagRAW ∨ a.tag = tagFIX → a.poison = false →
     ∀ x ∈ ([(.clz k f, fun v => if a.data = 0 then v.toNat = 64 else
         v.toNat < 64 ∧ a.data.getLsbD (63 - v.toNat) = true ∧ ∀ i, 64 - v.toNat ≤ i → a.data.getLsbD i = false),
       (.ctz k f, fun v => if a.data = 0 then v.toNat = 64 else
         v.toNat < 64 ∧ a.data.getLsbD v.toNat = true ∧ ∀ i, i < v.toNat → a.data.getLsbD i = false),
       (.popc k f, fun v => v.toNat = ((List.range 64).filter fun i => a.data.getLsbD i).length),
       (.brev k f, fun v => ∀ i : Fin 64, v.getLsbD i = a.data.getLsbD (63 - i.val)),
       (.bswap k f, fun v => ∀ i : Fin 64, v.getLsbD i = a.data.getLsbD (56 - i.val / 8 * 8 + i.val % 8))] :
         List (Instr × (Word → Prop))),
       Ready s k x.1 f.pr → ∃ t v, exec x.1 s = .next t ∧ Retired s t k (r.next.setG f.d ⟨v, a.tag, 0, false⟩) ∧ x.2 v) ∧
  (∀ (s : State) (k : CpId) (f : RForm),
     (Ready s k (.rdtick k f) f.pr → ∃ t, exec (.rdtick k f) s = .next t ∧
       Loaded s t k ((s.cr k).next.setG f.d (.ofFix (BitVec.ofNat 64 s.tickNum)))) ∧
     (Ready s k (.rdtime k f) f.pr → ∃ t, exec (.rdtime k f) s = .next t ∧
       Loaded s t k ((s.cr k).next.setG f.d (.ofRaw s.now))) ∧
     (Ready s k (.rdcyc k f) f.pr → ∃ t v, exec (.rdcyc k f) s = .next t ∧
       Loaded s t k ((s.cr k).next.setG f.d (.ofRaw v))))

/-- IDIV: what each instruction writes for a non-zero divisor and for a zero divisor (R160, R161, R162).
Where it rests on the model's choices: assumptions 17, 21. -/
def Obligations.DivideResults : Prop :=
  ∀ (s : State) (k : CpId) (f : RForm),
    let r := s.cr k
    let d := r.gr f.d
    let a := r.gr f.a
    let b := r.gr f.b
    let top : Word := 0x8000000000000000
    let sg := d.tag = tagFIX
    let dv := if sg then b.data.toInt.natAbs else b.data.toNat
    let m := 4 * (if sg then d.data.toNat % 2 ^ 63 else d.data.toNat) + a.data.toNat / 2 ^ 62
    let q := if 3 * dv ≤ m then 3 else if 2 * dv ≤ m then 2 else if dv ≤ m then 1 else 0
    numOk a → numOk b →
    (Ready s k (.dprep k f) f.pr → ∃ t, exec (.dprep k f) s = .next t ∧
      Retired s t k (if b.data = 0 then r.next.setG f.d (.ofFix a.data)
        else (r.next.setG f.d (.ofFix (a.data &&& top))).setG f.a (.ofRaw (BitVec.ofNat 64 a.data.toInt.natAbs)))) ∧
    (Ready s k (.dprepu k f) f.pr → ∃ t, exec (.dprepu k f) s = .next t ∧
      Retired s t k (if b.data = 0 then r.next.setG f.d (.ofRaw a.data)
        else (r.next.setG f.d (.ofRaw 0)).setG f.a (.ofRaw a.data))) ∧
    (numOk d → Ready s k (.dstep k f) f.pr → ∃ t, exec (.dstep k f) s = .next t ∧
      Retired s t k (if b.data = 0 then r.next
        else (r.next.setG f.a (.ofRaw (BitVec.ofNat 64 (4 * a.data.toNat + q)))).setG f.d
          (if sg then .ofFix ((d.data &&& top) ||| (BitVec.ofNat 64 (m - q * dv) &&& ~~~top))
           else .ofRaw (BitVec.ofNat 64 (m - q * dv))))) ∧
    (numOk d → Ready s k (.dquot k f) f.pr → ∃ t, exec (.dquot k f) s = .next t ∧
      Retired s t k (r.next.setG f.a ⟨if b.data = 0 then -1
        else if sg ∧ d.data.msb ≠ b.data.msb then -a.data else a.data, if sg then tagFIX else tagRAW, 0, false⟩)) ∧
    (numOk d → b.data ≠ 0 → Ready s k (.drem k f) f.pr → ∃ t, exec (.drem k f) s = .next t ∧
      Retired s t k (r.next.setG f.d ⟨if sg then (if d.data.msb then -(d.data &&& ~~~top) else d.data &&& ~~~top) else d.data,
        if sg then tagFIX else tagRAW, 0, false⟩)) ∧
    (numOk d → b.data = 0 → Ready s k (.drem k f) f.pr → ∃ t, exec (.drem k f) s = .next t ∧
      Retired s t k (r.next.setG f.d d))

/-- After the preparation and exactly 32 steps with the same non-zero divisor, the registers hold quotient and remainder of
the magnitudes; DQUOT and DREM then give the quotient truncated toward zero and the remainder with the sign of the dividend
(R161, R162).
Where it rests on the model's choices: assumption 21. -/
def Obligations.DivisionSequence : Prop :=
  ∀ n b : Word, b ≠ 0 →
    let run := fun (w : TWord) (x : TWord × TWord) => (fun x => dstep x.1 x.2 w)^[32] x
    (let x := run (.ofRaw b) (.ofRaw 0, .ofRaw n)
     x.2 = .ofRaw (BitVec.ofNat 64 (n.toNat / b.toNat)) ∧ x.1 = .ofRaw (BitVec.ofNat 64 (n.toNat % b.toNat))) ∧
    (let x := run (.ofFix b) (.ofFix (n &&& 0x8000000000000000), .ofRaw (BitVec.ofNat 64 n.toInt.natAbs))
     x.2 = .ofRaw (BitVec.ofNat 64 (n.toInt.natAbs / b.toInt.natAbs)) ∧
     dquot x.1 x.2 (.ofFix b) = .ofFix (BitVec.ofInt 64 (n.toInt.tdiv b.toInt)) ∧
     drem x.1 (.ofFix b) = .ofFix (BitVec.ofInt 64 (n.toInt.tmod b.toInt)))

/-- FP64 and FP32: the result of one rounding under PS.RM goes to g_d, or the truth of a compare to p_d, and the exceptions
become sticky flags of PS, where those exceptions are not enabled; with no exception enabled in AXEN every form completes on
every operand of its format. FABS and FNEG change the sign bit alone and give the canonical NaN for a NaN, FCLASS gives the
class with NV for a signalling NaN; a compare with a NaN is false, but FCMPUN true (R166, R167, R168, R178).
Where it rests on the model's choices: assumption 21. -/
def Obligations.FloatResults : Prop :=
  ∀ (s : State) (k : CpId) (single : Bool) (f : RForm),
    let r := s.cr k
    let F := fmtOf single
    let x := (r.gr f.a).data.toNat
    let a := F.unpack x
    let b := F.unpack (r.gr f.b).data.toNat
    let d := F.unpack (r.gr f.d).data.toNat
    let nv := fun (on : Bool) => if on then xNV else 0
    let sig := a.isSig || b.isSig
    fpOk single (r.gr f.a) →
    (∀ i ∈ ([(.fabs k single f, if a.isNan then F.nanBits else x % F.signBit),
      (.fneg k single f, if a.isNan then F.nanBits else (x + F.signBit) % (2 * F.signBit))] : List (Instr × Nat)),
      Ready s k i.1 f.pr → ∃ t, exec i.1 s = .next t ∧ Retired s t k (r.arith f.d (fpWord single i.2) 0)) ∧
    (Ready s k (.fclass k single f) f.pr → Quiet r (nv a.isSig) → ∃ t, exec (.fclass k single f) s = .next t ∧
      Retired s t k (r.arith f.d (.ofFix (BitVec.ofNat 64 (F.classMask a))) (nv a.isSig))) ∧
    (fpOk single (r.gr f.b) →
      (∀ i ∈ ([(.fadd k single f, F.addV r.rm a b), (.fsub k single f, F.addV r.rm a b.neg),
        (.fmul k single f, F.mulV r.rm a b), (.fmin k single f, F.minmax false a b), (.fmax k single f, F.minmax true a b)] :
          List (Instr × (Nat × Exc))),
        Ready s k i.1 f.pr → Quiet r i.2.2 → ∃ t, exec i.1 s = .next t ∧
          Retired s t k (r.arith f.d (fpWord single i.2.1) i.2.2)) ∧
      (∀ i ∈ ([(.fcmpeq k single f, decide (a.cmp b = some .eq), nv sig),
        (.fcmplt k single f, decide (a.cmp b = some .lt), nv (a.isNan || b.isNan)),
        (.fcmple k single f, decide (a.cmp b = some .lt ∨ a.cmp b = some .eq), nv (a.isNan || b.isNan)),
        (.fcmpun k single f, a.isNan || b.isNan, nv sig)] : List (Instr × (Bool × Exc))),
        Ready s k i.1 f.pr → Quiet r i.2.2 → ∃ t, exec i.1 s = .next t ∧ Retired s t k (r.arithP f.d i.2.1 i.2.2)) ∧
      (fpOk single (r.gr f.d) →
        ∀ i ∈ ([(.fmadd k single f, F.fmaV r.rm a b d), (.fmsub k single f, F.fmaV r.rm a b d.neg),
          (.fnmadd k single f, F.fmaV r.rm a.neg b d)] : List (Instr × (Nat × Exc))),
          Ready s k i.1 f.pr → Quiet r i.2.2 → ∃ t, exec i.1 s = .next t ∧
            Retired s t k (r.arith f.d (fpWord single i.2.1) i.2.2))) ∧
    (bits r.axen 10 0 = 0 →
      (∀ i ∈ [Instr.fabs k single f, .fneg k single f, .fclass k single f], Ready s k i f.pr → CompletesAt s k i) ∧
      (fpOk single (r.gr f.b) →
        (∀ i ∈ [Instr.fadd k single f, .fsub k single f, .fmul k single f, .fmin k single f, .fmax k single f,
          .fcmpeq k single f, .fcmplt k single f, .fcmple k single f, .fcmpun k single f],
          Ready s k i f.pr → CompletesAt s k i) ∧
        (fpOk single (r.gr f.d) → ∀ i ∈ [Instr.fmadd k single f, .fmsub k single f, .fnmadd k single f],
          Ready s k i f.pr → CompletesAt s k i)))

/-- One rounding: a result that does not overflow is a finite encoding of the sign given; toward zero it is the largest not
above the exact magnitude, to nearest no finite encoding is closer, and NX is raised exactly when it differs from the exact
value (R166). -/
def Obligations.RoundingIsCorrect : Prop :=
  ∀ (single neg : Bool) (m : Nat) (e : Int) (rm : Nat),
    let F := fmtOf single
    let z := F.round rm neg m e
    let c := z.1 % F.signBit
    rm < 4 → 0 < m → c < F.infBits → z.2 &&& xOF = 0 →
    z.1 = F.signed neg c ∧ (z.2 &&& xNX = 0 ↔ FFmt.mag F c = dyadic m e) ∧
    (rm = 1 → FFmt.mag F c ≤ dyadic m e ∧ ∀ y < F.infBits, FFmt.mag F y ≤ dyadic m e → FFmt.mag F y ≤ FFmt.mag F c) ∧
    (rm = 0 → ∀ y < F.infBits, |FFmt.mag F c - dyadic m e| ≤ |FFmt.mag F y - dyadic m e|)

/-- The step instructions: FDINIT and FSQINIT write a first approximation (0x8000_0000_0000_0000 for a zero, infinite or NaN
operand), the steps a RAW word, and none of them raises a flag; FDFIN and FSQFIN after the sequence of R172 give the
quotient and the square root rounded once with their flags, and with no exception enabled they complete whatever RAW word
stands in g_d (R170, R171, R172).
Where it rests on the model's choices: assumptions 18, 21. -/
def Obligations.FloatSteps : Prop :=
  ∀ (s : State) (k : CpId) (single : Bool) (f : RForm),
    let r := s.cr k
    let F := fmtOf single
    let a := (r.gr f.a).data.toNat
    let b := (r.gr f.b).data.toNat
    let d := r.gr f.d
    let sig := fun (x : Nat) => if single then x % 2 ^ 32 else x
    (stepOk single (r.gr f.b) → Ready s k (.fdinit k single f) f.pr → ∃ t y, exec (.fdinit k single f) s = .next t ∧
      Retired s t k (r.next.setG f.d (.ofRaw y)) ∧ (F.special (sig b) = true → y = 0x8000000000000000)) ∧
    (stepOk single (r.gr f.a) → Ready s k (.fsqinit k single f) f.pr → ∃ t y, exec (.fsqinit k single f) s = .next t ∧
      Retired s t k (r.next.setG f.d (.ofRaw y)) ∧ (F.special (sig a) = true → y = 0x8000000000000000)) ∧
    (d.tag = tagRAW → d.poison = false →
      (stepOk single (r.gr f.b) → Ready s k (.fdstep k single f) f.pr → ∃ t, exec (.fdstep k single f) s = .next t ∧
        Retired s t k (r.next.setG f.d (.ofRaw (BitVec.ofNat 64 (recipStep d.data.toNat (F.normal (sig b)).1))))) ∧
      (stepOk single (r.gr f.a) → Ready s k (.fsqstep k single f) f.pr → ∃ t, exec (.fsqstep k single f) s = .next t ∧
        Retired s t k (r.next.setG f.d (.ofRaw (BitVec.ofNat 64 (rsqrtStep d.data.toNat (rsqrtM (F.sqrtArg (sig a)))))))) ∧
      (fpOk single (r.gr f.a) → fpOk single (r.gr f.b) → d.data.toNat = F.recipSeq b → Ready s k (.fdfin k single f) f.pr →
        Quiet r (F.divV r.rm (F.unpack a) (F.unpack b)).2 → ∃ t, exec (.fdfin k single f) s = .next t ∧
        Retired s t k (r.arith f.d (fpWord single (F.divV r.rm (F.unpack a) (F.unpack b)).1)
          (F.divV r.rm (F.unpack a) (F.unpack b)).2)) ∧
      (fpOk single (r.gr f.a) → d.data.toNat = F.rsqrtSeq a → Ready s k (.fsqfin k single f) f.pr →
        Quiet r (F.sqrtV r.rm (F.unpack a)).2 → ∃ t, exec (.fsqfin k single f) s = .next t ∧
        Retired s t k (r.arith f.d (fpWord single (F.sqrtV r.rm (F.unpack a)).1) (F.sqrtV r.rm (F.unpack a)).2)) ∧
      (bits r.axen 10 0 = 0 → fpOk single (r.gr f.a) →
        (Ready s k (.fsqfin k single f) f.pr → CompletesAt s k (.fsqfin k single f)) ∧
        (fpOk single (r.gr f.b) → Ready s k (.fdfin k single f) f.pr → CompletesAt s k (.fdfin k single f))))

/-- CVT: to FIX, from an integer, and between the formats, each with one rounding under PS.RM; outside the range of FIX the
result saturates, or is 0 for a NaN, and NV alone is raised; with no exception enabled each completes on every operand
(R169, R178).
Where it rests on the model's choices: assumption 21. -/
def Obligations.ConvertResults : Prop :=
  ∀ (s : State) (k : CpId) (f : RForm),
    let r := s.cr k
    let x := (r.gr f.a).data
    (∀ i ∈ ([(.fcvtFixD k f, false), (.fcvtFixS k f, true)] : List (Instr × Bool)),
      let v := (fmtOf i.2).unpack x.toNat
      let z := toFix r.rm v
      fpOk i.2 (r.gr f.a) → Ready s k i.1 f.pr → Quiet r z.2 → ∃ t, exec i.1 s = .next t ∧
        Retired s t k (r.arith f.d (.ofFix z.1) z.2) ∧
        (v.isNan = true → z = (0, xNV)) ∧ (v = .inf false → z = (0x7FFFFFFFFFFFFFFF, xNV)) ∧
        (v = .inf true → z = (0x8000000000000000, xNV)) ∧
        ∀ neg m e, v = .fin neg m e → 0 ≤ e →
          let n := signedInt neg m * 2 ^ e.toNat
          z = if 2 ^ 63 ≤ n then (0x7FFFFFFFFFFFFFFF, xNV) else if n < -2 ^ 63 then (0x8000000000000000, xNV)
            else (BitVec.ofInt 64 n, 0)) ∧
    (numOk (r.gr f.a) → ∀ i ∈ ([(.fcvtDFix k f, false), (.fcvtSFix k f, true)] : List (Instr × Bool)),
      let z := (fmtOf i.2).round r.rm (decide (x.toInt < 0)) x.toInt.natAbs 0
      Ready s k i.1 f.pr → Quiet r z.2 → ∃ t, exec i.1 s = .next t ∧ Retired s t k (r.arith f.d (fpWord i.2 z.1) z.2)) ∧
    (∀ i ∈ ([(.fcvtSD k f, true), (.fcvtDS k f, false)] : List (Instr × Bool)),
      let z := (fmtOf i.2).pack r.rm ((fmtOf (!i.2)).unpack x.toNat)
      fpOk (!i.2) (r.gr f.a) → Ready s k i.1 f.pr → Quiet r z.2 → ∃ t, exec i.1 s = .next t ∧
        Retired s t k (r.arith f.d (fpWord i.2 z.1) z.2)) ∧
    (bits r.axen 10 0 = 0 →
      (fpOk false (r.gr f.a) → ∀ i ∈ [Instr.fcvtFixD k f, .fcvtSD k f], Ready s k i f.pr → CompletesAt s k i) ∧
      (fpOk true (r.gr f.a) → ∀ i ∈ [Instr.fcvtFixS k f, .fcvtDS k f], Ready s k i f.pr → CompletesAt s k i) ∧
      (numOk (r.gr f.a) → ∀ i ∈ [Instr.fcvtDFix k f, .fcvtSFix k f], Ready s k i f.pr → CompletesAt s k i))

/-- DEC on two operands that stand whole in storage as DEC words, of one word for up to 15 digits and of two beyond: DADD and
DSUB store the digits of the sum over operand 1 and give 0, 1 or 2 for zero, negative or positive, 3 with DOV when digits
are lost; DCMP gives the order and DVAL 0; a bad digit or sign gives 4 and stores nothing. Two units, where a length is above
16, end as one would, unless an event is let in between them (R173, R174, R175, R176, R177).
Where it rests on the model's choices: assumptions 19, 21. -/
def Obligations.DecimalResults : Prop :=
  ∀ (s : State) (k : CpId) (f : RForm) (l1 l2 : Nat) (c1 c2 : BitVec 4) (pa qa : Nat) (d e x1 x2 y1 y2 : Word),
    let r := s.cr k
    let a := r.gr f.a
    let b := r.gr f.b
    let m := s.cpMem k
    let base := fun (w : TWord) => numOk w ∨ (s.ptrClass k w.tag = true ∨ w.tag = tagCODE) ∧ w.poison = false
    let size := fun (l : Nat) => if l ≤ 15 then 8 else 16
    let stands := fun (p l : Nat) (lo hi : Word) =>
      ((m.word p).tag = tagDEC ∧ (m.word p).data = lo ∧ (m.word p).poison = false) ∧
      if l ≤ 15 then hi = 0 else (m.word (p + 8)).tag = tagDEC ∧ (m.word (p + 8)).data = hi ∧ (m.word (p + 8)).poison = false
    let ctl := fun (l2 : Nat) (c2 : BitVec 4) => numOk (r.gr f.d) ∧
      (r.gr f.d).data = BitVec.ofNat 64 (l1 + l2 * 2 ^ 8 + c1.toNat * 2 ^ 24 + c2.toNat * 2 ^ 28) ∧
      1 ≤ l1 ∧ l1 ≤ 31 ∧ ((c1 = 13 ∨ c2 = 13) → r.sys = true)
    let p1 := decParse (x1.toNat + 2 ^ 64 * y1.toNat) l1
    let p2 := decParse (x2.toNat + 2 ^ 64 * y2.toNat) l2
    let v := fun (z : Bool × Nat) => if z.1 then -(z.2 : Int) else z.2
    let put := fun (p : Nat) (w : Nat) => Held.store ⟨p, BitVec.ofNat 64 w, 0xFF, some tagDEC, none, false⟩ (bits d 57 56)
    let done := fun (i : Instr) (outs : List Held) (code : Nat) (x : Exc) => ∃ t, exec i s = .next t ∧
      Loaded (s.holdAll k outs) t k
        { r.next.setG f.d (.ofFix (BitVec.ofNat 64 code)) with ps := raiseFlags (insBits r.ps 16 16 0) x }
    Coherent s k → bits r.axen 10 9 = 0 → r.res = false → (16 < l1 ∨ 16 < l2 → s.eventOpen k = false) → base a → stands pa l1 x1 y1 →
    (base b → 1 ≤ l2 → l2 ≤ 31 → ctl l2 c2 → stands qa l2 x2 y2 →
      s.access k r.c[c2.toNat] pLOAD b.data (size l2) (size l2) false = .ok (qa, e) →
      (16 < l1 ∨ 16 < l2 → f.a ≠ f.d ∧ f.b ≠ f.d ∧ (pa + 16 ≤ qa ∨ qa + 16 ≤ pa)) →
      (s.access k r.c[c1.toNat] (pLOAD ||| pSTORE) a.data (size l1) (size l1) true = .ok (pa, d) →
        ∀ i ∈ ([(.dadd k f, false), (.dsub k f, true)] : List (Instr × Bool)), Ready s k i.1 f.pr →
        (∀ z1 z2, p1 = some z1 → p2 = some z2 →
          let z := v z1 + if i.2 then -v z2 else v z2
          let w := (if z < 0 then 0xD else 0xC) + 16 * bcd z.natAbs l1
          let lost := 10 ^ l1 ≤ z.natAbs
          done i.1 (put pa w :: if 16 ≤ l1 then [put (pa + 8) (w / 2 ^ 64)] else [])
            (if lost then 3 else if z = 0 then 0 else if z < 0 then 1 else 2) (if lost then xDOV else 0)) ∧
        (p1 = none ∨ p2 = none → done i.1 [] 4 xDD)) ∧
      (s.access k r.c[c1.toNat] pLOAD a.data (size l1) (size l1) false = .ok (pa, d) → Ready s k (.dcmp k f) f.pr →
        (∀ z1 z2, p1 = some z1 → p2 = some z2 →
          done (.dcmp k f) [] (if v z1 = v z2 then 0 else if v z1 < v z2 then 1 else 2) 0) ∧
        (p1 = none ∨ p2 = none → done (.dcmp k f) [] 4 xDD))) ∧
    (ctl 0 0 → (16 < l1 → f.a ≠ f.d) → s.access k r.c[c1.toNat] pLOAD a.data (size l1) (size l1) false = .ok (pa, d) →
      Ready s k (.dval k f) f.pr →
      done (.dval k f) [] (if p1 = none then 4 else 0) 0)

/-! Rilel: storage. -/

/-- Loads. LDW takes the word with its tags (a capability half arrives as RAW; a poisoned word arrives poisoned) where the
read barrier does not apply; a byte or halfword comes from a RAW word, zero- or sign-extended, as RAW; LDPC goes through c15.
Nothing is stored (R64, R75, R77, R79, R82, R98, R101, R102).
Where it rests on the model's choices: assumptions 21, 25. -/
def Obligations.LoadResults : Prop :=
  ∀ (s : State) (k : CpId) (f : MemForm) (g : IForm) (pa : Nat) (d : Word),
    let r := s.cr k
    let u := s.atBody k
    let cap := r.cr (memCap f)
    let asReg := fun (w : TWord) => if w.tag = tagCAPL ∨ w.tag = tagCAPH then { w with tag := tagRAW } else w
    let noBarrier := fun (w : TWord) => bit r.colctl 0 = false ∨ s.ptrClass k w.tag = false ∨ bit d 62 = true
    (memOk s k f → Ready s k (.ldw k false f) (memPr f) →
      u.access k cap pLOAD (memAddr r 8 f) 8 8 false = .ok (pa, d) →
      let w := (u.cpMem k).word pa
      tagReserved w.tag = false → noBarrier w →
      ∃ t, exec (.ldw k false f) s = .next t ∧ Loaded s t k (r.next.setG (memD f) (asReg w))) ∧
    (memOk s k f → ∀ x ∈ ([(.ldb k f, 1, false), (.ldbs k f, 1, true), (.ldh k f, 4, false), (.ldhs k f, 4, true)] :
        List (Instr × (Nat × Bool))),
      let n := x.2.1
      let ea := memAddr r n f
      Ready s k x.1 (memPr f) → u.access k cap pLOAD ea n n false = .ok (pa, d) →
      let w := (u.cpMem k).word (pa - pa % 8)
      let v := w.data.toNat / 2 ^ (8 * (ea.toNat % 8)) % 2 ^ (8 * n)
      w.tag = tagRAW → w.poison = false →
      ∃ t, exec x.1 s = .next t ∧ Loaded s t k (r.next.setG (memD f) (.ofRaw
        (if x.2.2 = true ∧ 2 ^ (8 * n - 1) ≤ v then BitVec.ofInt 64 (v - 2 ^ (8 * n)) else BitVec.ofNat 64 v)))) ∧
    (Ready s k (.ldpc k g) g.pr →
      u.access k r.c[15] pLOAD (BitVec.ofInt 64 (r.pc.toInt + g.imm.toInt * 8)) 8 8 false = .ok (pa, d) →
      let w := (u.cpMem k).word pa
      tagReserved w.tag = false → noBarrier w →
      ∃ t, exec (.ldpc k g) s = .next t ∧ Loaded s t k (r.next.setG g.d (asReg w)))

/-- Stores wait as outputs of the CP until the next checkpoint: STW the word with its type tag (no card is marked), STB and
STH the bytes of a RAW word. Main storage does not change before (R59, R62, R75, R77, R103, R146, R272).
Where it rests on the model's choices: assumption 25. -/
def Obligations.StoreResults : Prop :=
  ∀ (s : State) (k : CpId) (f : MemForm) (pa : Nat) (d : Word),
    let r := s.cr k
    let u := s.atBody k
    let cap := r.cr (memCap f)
    let w := r.gr (memD f)
    (memOk s k f → w.poison = false → bit r.cardb 0 = false ∨ s.ptrClass k w.tag = false →
      Ready s k (.stw k f) (memPr f) → u.access k cap pSTORE (memAddr r 8 f) 8 8 true = .ok (pa, d) →
      ∃ t, exec (.stw k f) s = .next t ∧
        Retired (s.holdAll k [.store ⟨pa, w.data, 0xFF, some w.tag, none, false⟩ (bits d 57 56)]) t k r.next) ∧
    (memOk s k f → numOk w → ∀ x ∈ ([(.stb k f, 1), (.sth k f, 4)] : List (Instr × Nat)),
      let ea := memAddr r x.2 f
      let b := ea.toNat % 8
      Ready s k x.1 (memPr f) → u.access k cap pSTORE ea x.2 x.2 true = .ok (pa, d) →
      ((u.cpMem k).word (pa - pa % 8)).tag = tagRAW → ((u.cpMem k).word (pa - pa % 8)).poison = false →
      ∃ t, exec x.1 s = .next t ∧ Retired (s.holdAll k [.store ⟨pa - pa % 8, BitVec.ofNat 64 (w.data.toNat * 2 ^ (8 * b)),
        BitVec.ofNat 8 ((2 ^ x.2 - 1) * 2 ^ b), some tagRAW, none, true⟩ (bits d 57 56)]) t k r.next)

/-- Capability loads and stores move a whole pair: LDC makes c_d of it, STC stores CAPL and CAPH (R65, R66, R104).
Where it rests on the model's choices: assumption 12. -/
def Obligations.CapabilityPairs : Prop :=
  ∀ (s : State) (k : CpId) (f : MForm) (pa : Nat) (d : Word) (c : Cap),
    let r := s.cr k
    let u := s.atBody k
    let a := r.gr f.a
    let ea := BitVec.ofInt 64 (a.data.toInt + f.disp.toInt * 16)
    let cap := r.cr (f.ci.setWidth 5)
    let hi : Word := BitVec.ofNat 64 (c.len.toNat + c.perms.toNat * 2 ^ 40 + c.otype.toNat * 2 ^ 52 +
      (if c.isSealed then 2 ^ 60 else 0))
    numOk a ∨ (s.ptrClass k a.tag = true ∨ a.tag = tagCODE) ∧ a.poison = false →
    (f.ci.toNat = 13 ∨ f.d.toNat % 16 = 13 → r.sys = true) →
    (Ready s k (.ldc k f) f.pr → u.access k cap pLDCAP ea 16 16 false = .ok (pa, d) →
      (u.cpMem k).word pa = ⟨c.base, tagCAPL, ((u.cpMem k).word pa).col, false⟩ →
      (u.cpMem k).word (pa + 8) = ⟨hi, tagCAPH, ((u.cpMem k).word (pa + 8)).col, false⟩ →
      ∃ t, exec (.ldc k f) s = .next t ∧ Loaded s t k (r.next.setC f.d c)) ∧
    (c = r.cr f.d → Ready s k (.stc k f) f.pr → u.access k cap pSTCAP ea 16 16 true = .ok (pa, d) →
      ∃ t, exec (.stc k f) s = .next t ∧
        Retired (s.holdAll k [.store ⟨pa, c.base, 0xFF, some tagCAPL, none, true⟩ (bits d 57 56),
          .store ⟨pa + 8, hi, 0xFF, some tagCAPH, none, true⟩ (bits d 57 56)]) t k r.next)

/-- A word that a CP has stored is what the CP reads back at once, before any checkpoint; other words read as before
(R113, R272). A word store into half of a capability pair leaves the other half RAW, so that no capability is forged; a store of both
halves keeps the pair (R62).
Where it rests on the model's choices: assumption 25. -/
def Obligations.StoredWords : Prop :=
  (∀ (s : State) (k : CpId) (pa qa pol : Nat) (w : TWord), pa % 8 = 0 → qa % 8 = 0 → pa < dataEnd → qa < dataEnd →
     ((s.cpMem k).word pa).tag ≠ tagCAPL → ((s.cpMem k).word pa).tag ≠ tagCAPH →
     let m := (s.holdAll k [.store ⟨pa, w.data, 0xFF, some w.tag, none, false⟩ pol]).cpMem k
     (m.word pa).data = w.data ∧ (m.word pa).tag = w.tag ∧ (m.word pa).col = ((s.cpMem k).word pa).col ∧
     (m.word pa).poison = false ∧ (qa ≠ pa → m.word qa = (s.cpMem k).word qa)) ∧
  (∀ (m : Mem) (pa : Nat) (w : TWord), pa % 16 = 0 → pa + 16 ≤ dataEnd →
     (m.word pa).tag = tagCAPL → (m.word (pa + 8)).tag = tagCAPH →
     ((m.store ⟨pa, w.data, 0xFF, some w.tag, none, false⟩).word (pa + 8)).tag = tagRAW ∧
     ((m.store ⟨pa + 8, w.data, 0xFF, some w.tag, none, false⟩).word pa).tag = tagRAW ∧
     ((m.store ⟨pa, w.data, 0xFF, some tagCAPL, none, true⟩).word (pa + 8)).tag = tagCAPH)

/-- ATOM: the old word, a capability half as RAW, goes to g_d; SWPW stores g_b, CASW only where the word equals g_d in tag
and data, FADDW the sum with FIX when both are FIX; a checkpoint stands on either side, so the store is in main storage when
the instruction ends (R105, R117, R273). LINE: LZERO stores eight RAW zero words with collector bits 0b00; CCLN and CFLS leave a line operation for the
checkpoint; a prefetch changes no register and no storage, whether its checks pass or not (R62, R106, R272).
Where it rests on the model's choices: assumptions 21, 23, 25. -/
def Obligations.AtomAndLineResults : Prop :=
  (∀ (s : State) (k : CpId) (f : XForm) (pa : Nat) (d : Word),
     let r := s.cr k
     let a := r.gr f.a
     let b := r.gr f.b
     let w := s.mem.word pa
     let old := r.next.setG f.d (if w.tag = tagCAPL ∨ w.tag = tagCAPH then { w with tag := tagRAW } else w)
     let put := fun (v : TWord) => s.mem.store ⟨pa, v.data, 0xFF, some v.tag, none, false⟩
     Calm s k → numOk a ∨ (s.ptrClass k a.tag = true ∨ a.tag = tagCODE) ∧ a.poison = false → (f.ci.toNat = 13 → r.sys = true) →
     (s.atBody k).access k (r.cr (f.ci.setWidth 5)) (pLOAD ||| pSTORE) a.data 8 8 true = .ok (pa, d) →
     tagReserved w.tag = false → w.poison = false → b.poison = false → bit r.cardb 0 = false →
     (Ready s k (.swpw k f) f.pr → ∃ t, exec (.swpw k f) s = .next t ∧ Checkpointed s t k old (put b)) ∧
     (∀ c, c = r.gr f.d → c.poison = false → Ready s k (.casw k f) f.pr → ∃ t, exec (.casw k f) s = .next t ∧
       Checkpointed s t k old (if w.tag = c.tag ∧ w.data = c.data then put b else s.mem)) ∧
     (numOk b → numOk w → Ready s k (.faddw k f) f.pr → ∃ t, exec (.faddw k f) s = .next t ∧
       Checkpointed s t k old (put ⟨w.data + b.data, if w.tag = tagFIX ∧ b.tag = tagFIX then tagFIX else tagRAW, 0, false⟩))) ∧
  (∀ (s : State) (k : CpId) (f : XForm) (pa : Nat) (d : Word),
     let r := s.cr k
     let a := r.gr f.a
     let cap := r.cr (f.ci.setWidth 5)
     let ea := BitVec.ofNat 64 (a.data.toNat / 64 * 64)
     let ok := (numOk a ∨ (s.ptrClass k a.tag = true ∨ a.tag = tagCODE) ∧ a.poison = false) ∧ (f.ci.toNat = 13 → r.sys = true)
     (ok → (s.atBody k).access k cap pSTORE ea 64 1 true = .ok (pa, d) → Ready s k (.lzero k f) f.pr →
       ∃ t, exec (.lzero k f) s = .next t ∧ Retired (s.holdAll k ((List.range 8).map fun i =>
         .store ⟨pa + 8 * i, 0, 0xFF, some tagRAW, some 0, false⟩ (bits d 57 56))) t k r.next) ∧
     (ok → (s.atBody k).access k cap pLOAD ea 64 1 false = .ok (pa, d) →
       ∀ x ∈ ([(.ccln k f, .clean), (.cfls k f, .flush)] : List (Instr × LineOp)), Ready s k x.1 f.pr →
       ∃ t, exec x.1 s = .next t ∧ Retired (s.holdAll k [.line x.2 (pa / 64)]) t k r.next) ∧
     ∀ i ∈ [Instr.pref k f, .prefw k f], Ready s k i f.pr →
       ∃ t, exec i s = .next t ∧ t.cr k = r.next ∧ (t.cp k).held = (s.cp k).held ∧
         (s.l3Stale = [] → t.mem.cells = s.mem.cells ∧ t.mem.poison = s.mem.poison) ∧ ∀ j, j ≠ k → t.cp j = s.cp j)

/-! Rilel: control transfer. -/

/-- Branches to a target that c15 allows: BR and CALL relative to the instruction, JR and CALLR to a CODE word, RET to the
CODE word in g31 that the newest return-stack entry confirms, TDISP by the type tag. CALL and CALLR push the return address
and write it to g31 as CODE. Another target is an alignment fault or capability fault TARGET; TDISP's d field is reserved
(R107, R108, R137). -/
def Obligations.BranchResults : Prop :=
  ∀ (s : State) (k : CpId) (f : BForm) (g : RForm) (h : IForm),
    let r := s.cr k
    let ok := fun (t : Word) => t.toNat % 4 = 0 ∧ r.c[15].isSealed = false ∧ r.c[15].perms &&& pEXEC = pEXEC ∧
      r.c[15].base.toNat ≤ t.toNat ∧ t.toNat + 4 ≤ r.c[15].base.toNat + r.c[15].len.toNat
    let rel := BitVec.ofInt 64 (r.pc.toInt + f.disp.toInt * 4)
    let a := r.gr g.a
    let link := fun (t : Word) => { r with rs := (r.pc + 4) :: r.rs, pc := t }.setG 31 (.ofCode (r.pc + 4))
    let faults := fun (x : Instr) (t : Word) => ¬ok t →
      exec x s = .next ((s.atBody k).takeFault k (insnWord x) r.pc r.pc
        (if t.toNat % 4 ≠ 0 then ⟨0x03, 0, 0, t, false, false⟩ else ⟨0x04, 3, 0, t, false, false⟩))
    (ok rel → Ready s k (.br k f) f.pr → ∃ t, exec (.br k f) s = .next t ∧ Retired s t k { r with pc := rel }) ∧
    (Ready s k (.br k f) f.pr → faults (.br k f) rel) ∧ (r.rs.length < 32 → Ready s k (.call k f) f.pr → faults (.call k f) rel) ∧
    (a.tag = tagCODE → a.poison = false → (Ready s k (.jr k g) g.pr → faults (.jr k g) a.data) ∧
      (r.rs.length < 32 → Ready s k (.callr k g) g.pr → faults (.callr k g) a.data)) ∧
    (ok rel → r.rs.length < 32 → Ready s k (.call k f) f.pr → ∃ t, exec (.call k f) s = .next t ∧ Retired s t k (link rel)) ∧
    (a.tag = tagCODE → a.poison = false → ok a.data →
      (Ready s k (.jr k g) g.pr → ∃ t, exec (.jr k g) s = .next t ∧ Retired s t k { r with pc := a.data }) ∧
      (r.rs.length < 32 → Ready s k (.callr k g) g.pr → ∃ t, exec (.callr k g) s = .next t ∧
        Retired s t k (link a.data))) ∧
    (∀ e rest, r.rs = e :: rest → (r.gr 31).tag = tagCODE → (r.gr 31).poison = false → (r.gr 31).data = e → ok e →
      Ready s k (.ret k g) g.pr → ∃ t, exec (.ret k g) s = .next t ∧ Retired s t k { r with rs := rest, pc := e }) ∧
    (let w := r.gr h.a
     let b := h.imm.toNat % 64
     let n := h.imm.toNat / 64
     let slot := if b ≤ w.tag.toNat ∧ w.tag.toNat < b + n then w.tag.toNat - b else n
     let target := BitVec.ofNat 64 (r.pc.toNat + 4 + 4 * slot)
     (h.d ≠ 0 → Instr.legal (.tdisp k h) = false) ∧
     (w.poison = false → Ready s k (.tdisp k h) h.pr → faults (.tdisp k h) target) ∧
     (w.poison = false → ok target → Ready s k (.tdisp k h) h.pr → ∃ t, exec (.tdisp k h) s = .next t ∧
       Retired s t k { r with pc := target }))

/-! Rilel: generic arithmetic, lists, allocation and the collector. -/

/-- GEN on two FIX operands: the exact result as FIX when it fits 64 signed bits, and the exact comparison; otherwise the
instruction escapes with reason 1, and g29 and g30 hold the operands (R127, R132, R133, R134). -/
def Obligations.GenericResults : Prop :=
  ∀ (s : State) (k : CpId) (f : RForm),
    let r := s.cr k
    let a := r.gr f.a
    let b := r.gr f.b
    let fits := fun (v : Int) => -2 ^ 63 ≤ v ∧ v < 2 ^ 63
    a.tag = tagFIX → a.poison = false →
    (Ready s k (.gneg k f) f.pr → fits (-a.data.toInt) → ∃ t, exec (.gneg k f) s = .next t ∧
      Retired s t k (r.next.setG f.d (.ofFix (BitVec.ofInt 64 (-a.data.toInt))))) ∧
    (b.tag = tagFIX → b.poison = false →
      (∀ x ∈ ([(.gadd k f, 0, a.data.toInt + b.data.toInt), (.gsub k f, 1, a.data.toInt - b.data.toInt),
        (.gmul k f, 2, a.data.toInt * b.data.toInt)] : List (Instr × (Nat × Int))),
        Ready s k x.1 f.pr →
        (fits x.2.2 → ∃ t, exec x.1 s = .next t ∧ Retired s t k (r.next.setG f.d (.ofFix (BitVec.ofInt 64 x.2.2)))) ∧
        (∀ e, ¬ fits x.2.2 → bit r.escv 0 = true → r.escVec.toList.getD x.2.1 none = some e → targetCheck r.c[15] e = none →
          ∃ t, exec x.1 s = .next t ∧ (t.cr k).pc = e ∧ (t.cr k).gr 29 = a ∧ (t.cr k).gr 30 = b ∧
            (t.cr k).gr 28 = .ofCode (r.pc + 4) ∧
            (t.cr k).gr 27 = .ofRaw (BitVec.ofNat 64 ((insnWord x.1).toNat * 2 ^ 32 + 2 ^ 8 + x.2.1)))) ∧
      (∀ x ∈ ([(.gcmplt k f, decide (a.data.toInt < b.data.toInt)), (.gcmpeq k f, decide (a.data = b.data))] :
          List (Instr × Bool)),
        Ready s k x.1 f.pr → ∃ t, exec x.1 s = .next t ∧ Retired s t k (r.next.setP (f.d.toNat % 8) x.2)))

/-- Lists through c12, on cells that do not start with a forwarding word and without a barrier: CAR and CDR load the words of
the cell, and give NIL for NIL; RPLACA and RPLACD store into it; MEMQ and ASSQ give NIL at the end of the list, and MEMQ the
tail whose first element is the key, where no event comes between two cells (R138, R139, R140, R141).
Where it rests on the model's choices: assumptions 20, 21, 88. -/
def Obligations.ListResults : Prop :=
  ∀ (s : State) (k : CpId) (f : RForm) (pa qa : Nat) (d e : Word),
    let r := s.cr k
    let a := r.gr f.a
    let b := r.gr f.b
    let m := s.cpMem k
    let plain := fun (w : TWord) => tagReserved w.tag = false ∧ w.poison = false ∧ w.tag ≠ tagFWD
    let asReg := fun (w : TWord) => if w.tag = tagCAPL ∨ w.tag = tagCAPH then { w with tag := tagRAW } else w
    let whole := fun (q : CpRegs) => { q with ps := insBits q.ps 16 16 0 }
    a.poison = false → b.poison = false →
    (∀ x ∈ ([(.car k f, 0), (.cdr k f, 8)] : List (Instr × Word)), Ready s k x.1 f.pr →
      (a.tag = tagNIL → ∃ t, exec x.1 s = .next t ∧ Retired s t k (r.next.setG f.d .nil)) ∧
      (Coherent s k → a.tag = tagCONS → s.access k r.c[12] pLOAD a.data 8 8 false = .ok (pa, d) → plain (m.word pa) →
        s.access k r.c[12] pLOAD (a.data + x.2) 8 8 false = .ok (qa, e) → tagReserved (m.word qa).tag = false →
        bit r.colctl 0 = false → ∃ t, exec x.1 s = .next t ∧ Loaded s t k (r.next.setG f.d (asReg (m.word qa))))) ∧
    (∀ x ∈ ([(.rplaca k f, 0), (.rplacd k f, 8)] : List (Instr × Word)), Ready s k x.1 f.pr → Coherent s k → a.tag = tagCONS →
      s.access k r.c[12] pLOAD a.data 8 8 false = .ok (pa, d) → plain (m.word pa) →
      s.access k r.c[12] pSTORE (a.data + x.2) 8 8 true = .ok (qa, e) → bit r.cardb 0 = false →
      ∃ t, exec x.1 s = .next t ∧
        Loaded (s.holdAll k [.store ⟨qa, b.data, 0xFF, some b.tag, none, false⟩ (bits e 57 56)]) t k r.next) ∧
    (∀ x ∈ [Instr.assq k f, .memq k f], Ready s k x f.pr → s.eventOpen k = false → b.tag = tagNIL →
      ∃ t, exec x s = .next t ∧ Retired s t k (whole (r.next.setG f.d .nil))) ∧
    (Ready s k (.memq k f) f.pr → s.eventOpen k = false → Coherent s k → b.tag = tagCONS → s.access k r.c[12] pLOAD b.data 8 8 false = .ok (pa, d) →
      plain (m.word pa) → bit r.colctl 0 = false → (asReg (m.word pa)).tag = a.tag → (m.word pa).data = a.data →
      ∃ t, exec (.memq k f) s = .next t ∧ Loaded s t k (whole (r.next.setG f.d b)))

/-- The read barrier with COLCTL.RB set: a pointer into a condemned region whose object has been forwarded arrives as a
pointer to the object's new place, and with HEAL set and c12 allowing it a healing write waits that replaces the word only
while the slot still holds it (R125, R151, R152).
Where it rests on the model's choices: assumption 21. -/
def Obligations.ReadBarrier : Prop :=
  ∀ (s : State) (k : CpId) (f : MemForm) (pa qa : Nat) (d e d1 d2 : Word),
    let r := s.cr k
    let u := s.atBody k
    let w := (u.cpMem k).word pa
    let v := (u.cpMem k).word qa
    let p := { w with data := v.data }
    memOk s k f → Ready s k (.ldw k false f) (memPr f) →
    u.access k (r.cr (memCap f)) pLOAD (memAddr r 8 f) 8 8 false = .ok (pa, d) →
    tagReserved w.tag = false → w.poison = false → s.ptrClass k w.tag = true →
    bit r.colctl 0 = true → bit d 62 = false → u.targetRegion k w.data = .ok (some d1) → bit d1 62 = true →
    u.access k r.c[12] pLOAD w.data 8 8 false = .ok (qa, e) → v.tag = tagFWD → v.poison = false →
    u.targetRegion k v.data = .ok (some d2) → bit d2 62 = false →
    (bit r.colctl 1 = false → ∃ t, exec (.ldw k false f) s = .next t ∧ Loaded s t k (r.next.setG (memD f) p)) ∧
    (Coherent s k → bit r.colctl 1 = true → (r.cr (memCap f)).grants pSTORE = true → bit d 55 = false →
      u.access k r.c[12] pSTORE (memAddr r 8 f) 8 8 true = .ok (pa, d) → bit r.cardb 0 = false → p ≠ w →
      ∃ t, exec (.ldw k false f) s = .next t ∧
        Loaded (s.holdAll k [.heal ⟨pa, v.data, 0xFF, some w.tag, none, false⟩ (bits d 57 56) w.tag w.data none]) t k
          (r.next.setG (memD f) p))

/-- Allocation from c14: the words are stored with collector bits 0b00, c14's base and length move past them, and g_d points
to the object: CONS its two operands, ALLOC zeros, ALLOCV a header (R126, R142, R143, R144, R145).
Where it rests on the model's choices: assumptions 20, 21. -/
def Obligations.AllocationResults : Prop :=
  ∀ (s : State) (k : CpId) (f : RForm) (pa : Nat → Nat) (d : Nat → Word),
    let r := s.cr k
    let a := r.gr f.a
    let b := r.gr f.b
    let c := r.c[14]
    let even := fun (n : Nat) => n + n % 2
    let alloc := fun (i : Instr) (ws : List TWord) (tag : BitVec 6) =>
      Ready s k i f.pr → c.isSealed = false → c.perms &&& pSTORE = pSTORE → 8 * ws.length ≤ c.len.toNat →
      bit r.cardb 0 = false → (∀ n, s.pairOf k = some n → s.pairStores k n + ws.length + 8 ≤ 256) →
      (∀ j < ws.length, (s.atBody k).access k c pSTORE (c.base + BitVec.ofNat 64 (8 * j)) 8 8 true = .ok (pa j, d j)) →
      ∃ t, exec i s = .next t ∧ Retired
        (s.holdAll k (ws.zipIdx.map fun x => .store ⟨pa x.2, x.1.data, 0xFF, some x.1.tag, some 0, false⟩ (bits (d x.2) 57 56))) t k
        ({ r.next with c := r.c.set 14 { c with
          base := c.base + BitVec.ofNat 64 (8 * ws.length), len := c.len - BitVec.ofNat 40 (8 * ws.length) } }.setG f.d
            ⟨c.base, tag, 0, false⟩)
    a.poison = false → b.poison = false →
    alloc (.cons k f) [a, b] tagCONS ∧
    (numOk a → numOk b → 0 < a.data.toNat → even a.data.toNat ≤ 1024 → s.ptrClass k (b.data.setWidth 6) = true →
      alloc (.alloc k f) (List.replicate (even a.data.toNat) ⟨0, tagRAW, 0, false⟩) (b.data.setWidth 6)) ∧
    (numOk a → numOk b → a.data.toNat ≤ 1023 → s.ptrClass k (b.data.extractLsb' 58 6) = true →
      alloc (.allocv k f) (⟨BitVec.ofNat 64 (b.data.toNat / 2 ^ 48 * 2 ^ 48 + a.data.toNat), tagHDR, 0, false⟩ ::
        List.replicate (even (a.data.toNat + 1) - 1) ⟨0, tagRAW, 0, false⟩) (b.data.extractLsb' 58 6))

/-- The collector's instructions through c12: COLGET reads collector bits, COLSET writes them, MARK tests and sets them to
COLCTL bits 3:2, FWDSET turns a word into FWD where it equals g_d, SCANW of no words gives NIL (R154, R155, R156, R157).
Where it rests on the model's choices: assumptions 20, 21. -/
def Obligations.CollectorResults : Prop :=
  ∀ (s : State) (k : CpId) (f : RForm) (pa : Nat) (d : Word),
    let r := s.cr k
    let a := r.gr f.a
    let b := r.gr f.b
    let w := s.mem.word pa
    let v : BitVec 2 := r.colctl.extractLsb' 2 2
    let base := numOk a ∨ (s.ptrClass k a.tag = true ∨ a.tag = tagCODE) ∧ a.poison = false
    let acc := fun (p : BitVec 12) (st : Bool) => (s.atBody k).access k r.c[12] p a.data 8 8 st = .ok (pa, d)
    let col := fun (c : BitVec 2) => s.mem.store ⟨pa, 0, 0, none, some c, true⟩
    Calm s k → tagReserved w.tag = false →
    (base → acc pLOAD false → Ready s k (.colget k f) f.pr → ∃ t, exec (.colget k f) s = .next t ∧
      Loaded s t k (r.next.setG f.d (.ofFix (BitVec.ofNat 64 w.col.toNat)))) ∧
    (base → numOk b → acc pSTORE true → Ready s k (.colset k f) f.pr → ∃ t, exec (.colset k f) s = .next t ∧
      Checkpointed s t k r.next (col (b.data.setWidth 2))) ∧
    (s.ptrClass k a.tag = true → a.poison = false → acc (pLOAD ||| pSTORE) true → Ready s k (.mark k f) f.pr →
      ∃ t, exec (.mark k f) s = .next t ∧
        Checkpointed s t k (r.next.setP (f.d.toNat % 8) (decide (w.col = v))) (if w.col = v then s.mem else col v)) ∧
    (base → b.poison = false → w.poison = false → (r.gr f.d).poison = false → acc (pLOAD ||| pSTORE) true →
      Ready s k (.fwdset k f) f.pr → ∃ t, exec (.fwdset k f) s = .next t ∧
        Checkpointed s t k (r.next.setG f.d (if w.tag = tagCAPL ∨ w.tag = tagCAPH then { w with tag := tagRAW } else w))
          (if w.tag = (r.gr f.d).tag ∧ w.data = (r.gr f.d).data then
            s.mem.store ⟨pa, b.data, 0xFF, some tagFWD, none, false⟩ else s.mem)) ∧
    (base → numOk b → b.data = 0 → s.eventOpen k = false → Ready s k (.scanw k f) f.pr → ∃ t, exec (.scanw k f) s = .next t ∧
      Retired s t k { r.next.setG f.d .nil with ps := insBits r.ps 16 16 0 })

/-! Rilel: capabilities. -/

/-- CAP: each instruction changes the one capability or register it names, under the conditions of R192, and with SYS authority where it
names c13.
Where it rests on the model's choices: assumption 21. -/
def Obligations.CapabilityResults : Prop :=
  ∀ (s : State) (k : CpId) (f : RForm),
    let r := s.cr k
    let b := r.gr f.b
    let n := r.gr (f.b + 1)
    let c := r.cr f.a
    let x := r.cr f.b
    let sys := r.sys = true
    let free := fun (i : BitVec 5) => i.toNat % 16 = 13 → sys
    (free f.a → free f.d →
      (Ready s k (.cmov k f) f.pr → ∃ t, exec (.cmov k f) s = .next t ∧ Retired s t k (r.next.setC f.d c)) ∧
      (numOk b → numOk n → c.isSealed = false → c.base.toNat ≤ b.data.toNat →
        b.data.toNat + n.data.toNat ≤ c.base.toNat + c.len.toNat → Ready s k (.cbnd k f) f.pr →
        ∃ t, exec (.cbnd k f) s = .next t ∧
          Retired s t k (r.next.setC f.d { c with base := b.data, len := BitVec.ofNat 40 n.data.toNat })) ∧
      (numOk b → c.isSealed = false → Ready s k (.cperm k f) f.pr → ∃ t, exec (.cperm k f) s = .next t ∧
        Retired s t k (r.next.setC f.d { c with perms := c.perms &&& b.data.setWidth 12 })) ∧
      (free f.b → c.isSealed = false → x.isSealed = false → x.perms &&& pSEAL = pSEAL → x.base.toNat ≤ 255 → x.len ≠ 0 →
        Ready s k (.cseal k f) f.pr → ∃ t, exec (.cseal k f) s = .next t ∧
          Retired s t k (r.next.setC f.d { c with isSealed := true, otype := BitVec.ofNat 8 x.base.toNat })) ∧
      (free f.b → c.isSealed = true → x.isSealed = false → x.perms &&& pUNSEAL = pUNSEAL →
        x.base.toNat ≤ c.otype.toNat → c.otype.toNat < x.base.toNat + x.len.toNat →
        Ready s k (.cunseal k f) f.pr → ∃ t, exec (.cunseal k f) s = .next t ∧
          Retired s t k (r.next.setC f.d { c with isSealed := false }))) ∧
    (free f.a → ∀ i ∈ ([(.cgetb k f, c.base), (.cgetl k f, BitVec.ofNat 64 c.len.toNat),
      (.cgetp k f, BitVec.ofNat 64 (c.perms.toNat + c.otype.toNat * 2 ^ 12 + if c.isSealed then 2 ^ 20 else 0))] :
        List (Instr × Word)), Ready s k i.1 f.pr → ∃ t, exec i.1 s = .next t ∧ Retired s t k (r.next.setG f.d (.ofRaw i.2))) ∧
    (free f.a → numOk b → Ready s k (.ctest k f) f.pr → ∃ t, exec (.ctest k f) s = .next t ∧
      Retired s t k (r.next.setP (f.d.toNat % 8)
        (decide (c.isSealed = false ∧ c.perms &&& b.data.setWidth 12 = b.data.setWidth 12)))) ∧
    (numOk (r.gr f.a) → ((r.gr f.a).data.getLsbD 13 = true → sys) → Ready s k (.cclr k f) f.pr →
      ∃ t q, exec (.cclr k f) s = .next t ∧ Retired s t k { r.next with c := q } ∧
        ∀ i : Fin 16, q[i] = if i.val ≠ 15 ∧ (r.gr f.a).data.getLsbD i then Cap.null else r.c[i])

/-- No instruction of the CAP class makes authority: the capability that it leaves in c_d has bounds within those of c_a and
no permission that c_a lacks, and only CUNSEAL takes a seal away (R187, R192). -/
def Obligations.CapabilitiesOnlyShrink : Prop :=
  ∀ (s t : State) (k : CpId) (f : RForm) (i : Instr),
    i ∈ [Instr.cmov k f, .cbnd k f, .cperm k f, .cseal k f, .cunseal k f] → exec i s = .next t → i.legal = true →
    let c := (s.cr k).cr f.a
    let e := (t.cr k).cr f.d
    e = (s.cr k).cr f.d ∨
      c.base.toNat ≤ e.base.toNat ∧ e.base.toNat + e.len.toNat ≤ c.base.toNat + c.len.toNat ∧ e.perms &&& c.perms = e.perms ∧
        (c.isSealed = true → e.isSealed = true ∨ i = .cunseal k f)

/-! Rilel: resumable transfers and START. -/

/-- BCOPY and BFILL of no words, and SAVE.RS and LOAD.RS of no entries, complete with PS.RES clear; BFILL of one word stores
g2 at g1 and moves g1 and g3 on; BCOPY of one word moves it, where no event is due between two units (R120, R121, R122, R123).
Where it rests on the model's choices: assumptions 5, 21. -/
def Obligations.BlockResults : Prop :=
  ∀ (s : State) (k : CpId) (f : RForm) (pa qa : Nat) (d e : Word),
    let r := s.cr k
    let g1 := r.gr 1
    let g2 := r.gr 2
    let g3 := r.gr 3
    let whole := fun (q : CpRegs) => { q with ps := insBits q.ps 16 16 0 }
    let w := (s.cpMem k).word pa
    let v := if w.tag = tagCAPL ∨ w.tag = tagCAPH then { w with tag := tagRAW } else w
    let free := fun (i : BitVec 5) => i.toNat % 16 = 13 → r.sys = true
    s.eventOpen k = false → free f.d →
    (∀ i ∈ [Instr.saveRs k f, .loadRs k f], numOk (r.gr f.a) → numOk (r.gr f.b) → (r.gr f.b).data = 0 → Ready s k i f.pr →
      ∃ t, exec i s = .next t ∧ Retired s t k (whole r.next)) ∧
    (numOk g1 → numOk g3 →
      (g3.data = 0 → Ready s k (.bfill k f) f.pr → ∃ t, exec (.bfill k f) s = .next t ∧ Retired s t k (whole r.next)) ∧
      (g3.data = 1 → g2.poison = false → bit r.cardb 0 = false → Ready s k (.bfill k f) f.pr →
        (s.atBody k).access k (r.cr f.d) pSTORE g1.data 8 8 true = .ok (pa, d) → ∃ t, exec (.bfill k f) s = .next t ∧
        Retired (s.holdAll k [.store ⟨pa, g2.data, 0xFF, some g2.tag, none, false⟩ (bits d 57 56)]) t k
          (whole ((r.next.setG 1 (.ofRaw (g1.data + 8))).setG 3 (.ofFix 0)))) ∧
      (free f.a → numOk g2 →
        (g3.data = 0 → Ready s k (.bcopy k f) f.pr → ∃ t, exec (.bcopy k f) s = .next t ∧ Retired s t k (whole r.next)) ∧
        (g3.data = 1 → bit r.cardb 0 = false → bit r.colctl 0 = false → Coherent s k → Ready s k (.bcopy k f) f.pr →
          s.access k (r.cr f.a) pLOAD g2.data 8 8 false = .ok (pa, d) → tagReserved w.tag = false → w.poison = false →
          s.access k (r.cr f.d) pSTORE g1.data 8 8 true = .ok (qa, e) → ∃ t, exec (.bcopy k f) s = .next t ∧
          Loaded (s.holdAll k [.store ⟨qa, v.data, 0xFF, some v.tag, none, false⟩ (bits e 57 56)]) t k
            (whole (((r.next.setG 1 (.ofRaw (g1.data + 8))).setG 2 (.ofRaw (g2.data + 8))).setG 3 (.ofFix 0))))))

/-- START: an accepted program takes the engine's next number, which g_d receives as FIX, and stands last in the engine's
queue with its capability and address; a refused one gives g_d the negative reason and queues nothing (R301, R302, R303,
R304).
Where it rests on the model's choices: assumption 21. -/
def Obligations.StartResults : Prop :=
  ∀ (s : State) (k : CpId) (f : RForm) (e : UnitId) (n : PartId),
    let r := s.cr k
    let a := r.gr f.b
    let c := r.cr f.a
    Calm s k → Ready s k (.start k f) f.pr → (f.a.toNat % 16 = 13 → r.sys = true) → numOk (r.gr f.d) → numOk a →
    (r.gr f.d).data.toNat = e.val → a.data.toNat % 32 = 0 → c.check a.data 32 (pPORT ||| pLOAD) = none → s.partOf k = some n →
    (s.startRefusal e n = none → ∃ t, exec (.start k f) s = .next t ∧
      Checkpointed s t k (r.next.setG f.d (.ofFix (BitVec.ofNat 64 (s.eng e).nextPgm.toNat))) s.mem ∧
      (t.eng e).queue = (s.eng e).queue ++ [⟨n, (s.eng e).nextPgm, c, a.data, false, 0, false⟩] ∧
      (t.eng e).nextPgm = (s.eng e).nextPgm + 1) ∧
    (∀ m, s.startRefusal e n = some m → ∃ t, exec (.start k f) s = .next t ∧
      Checkpointed s t k (r.next.setG f.d (.ofFix (BitVec.ofInt 64 (-(m : Int))))) s.mem ∧ t.engines = s.engines)

/-! Rilel: gates, traps and returns. -/

/-- GATE and GATE.F: the callee runs at the code capability's base with c15 and c_b unsealed, its object type as authority
and an empty return stack; the caller's state lies in the frame, on the trap stack or in the gate half of the fast entry
bank (R211, R212).
Where it rests on the model's choices: assumption 14. -/
def Obligations.GateCalls : Prop :=
  ∀ (s : State) (k : CpId) (f : RForm) (at_ : List (Nat × Nat)),
    let r := s.cr k
    let g := r.cr f.a
    let dc := r.cr f.b
    let info := fun (fast : Nat) => BitVec.ofNat 64 (2 ^ 63 + fast * 2 ^ 62 + g.otype.toNat * 2 ^ 16 + r.rs.length * 2 ^ 8 +
      f.b.toNat % 16)
    let frame := fun (fast : Nat) => [TWord.ofRaw r.ps, .ofCode (r.pc + 4), .ofRaw (info fast), .ofRaw 0, r.c[15].pair.1,
      r.c[15].pair.2, dc.pair.1, dc.pair.2]
    let entered := fun (q : CpRegs) => q.pc = g.base ∧ q.c[15] = { g with isSealed := false } ∧
      q.rs = [] ∧ bits q.ps 39 32 = g.otype.toNat ∧ bit q.ps 16 = false ∧ q.g = r.g ∧ q.p = r.p ∧
      (dc ≠ Cap.null → q.cr f.b = { dc with isSealed := false }) ∧ (dc = Cap.null → q.cr f.b = dc)
    Calm s k → (f.a.toNat % 16 = 13 → r.sys = true) → g.isSealed = true →
    g.perms &&& (pEXEC ||| pGATE) = pEXEC ||| pGATE → g.otype ≠ 0 → g.otype ≠ 0xFE → g.otype ≠ 0xFF →
    dc = Cap.null ∨ dc.isSealed = true ∧ dc.otype = g.otype → g.base.toNat % 4 = 0 → 4 ≤ g.len.toNat →
    (Ready s k (.gateF k f) f.pr → bit r.feStat 1 = false → ∃ t q, exec (.gateF k f) s = .next t ∧
      Checkpointed s t k q s.mem ∧ entered q ∧ q.shG = r.rs ∧ bit q.feStat 1 = true ∧ bits q.feStat 31 26 = r.rs.length % 64 ∧
      q.fe.toList = r.fe.toList.take 8 ++ frame 1) ∧
    (Ready s k (.gate k f) f.pr → (s.atBody k).pushCheck k 40 = .ok at_ → ∃ t q, exec (.gate k f) s = .next t ∧
      Checkpointed s t k q (s.mem.withHeld ((at_.zip (frame 0 ++ r.rs.reverse.map TWord.ofCode)).map fun x =>
        .store ⟨x.1.1, x.2.data, 0xFF, some x.2.tag, none, x.2.tag = tagCAPL ∨ x.2.tag = tagCAPH⟩ x.1.2)) ∧
      entered q ∧ q.tsp = r.tsp - 320)

/-- GRET and RETF of the gate half restore the caller from a sound frame: its PS, return address, c15, the data capability
and its return stack; the registers of the mask are cleared, and the frame is given up (R208, R213). A gate frame gives back what the call put into it: from the frame of a call the return restores PS, the address behind
the call, c15, the data capability in its register and the return stack that it is given (R212, R213).
Where it rests on the model's choices: assumption 15. -/
def Obligations.GateReturnsRestore : Prop :=
  (∀ (s : State) (k : CpId) (f : RForm) (ws : List TWord) (q : CpRegs),
     let r := s.cr k
     let info := (ws.getD 2 .raw0).data
     let depth := bits info 13 8
     let es := (ws.drop 8).take depth
     Calm s k → NoEvent s k q →
     (numOk (r.gr f.a) → Ready s k (.gret k f) f.pr → (s.atBody k).popFrame k 40 = .ok ws → bit info 63 = true → bit info 62 = false →
       depth ≤ 32 → (∀ e ∈ es, e.tag = tagCODE) →
       gateRestore r.next ws (r.gr f.a).data (es.reverse.map TWord.data) (fun t => t == tagCODE) = .ok q →
       ∃ t, exec (.gret k f) s = .next t ∧ Checkpointed s t k { q with tsp := r.tsp + 320 } s.mem) ∧
     (numOk (r.gr f.b) → Ready s k (.retfGate k f) f.pr → ws = r.fe.toList.drop 8 → bit r.feStat 1 = true →
       bit info 63 = true → bit info 62 = true →
       gateRestore r.next ws (r.gr f.b).data r.shG (fun t => t == tagCODE || t == tagRAW) = .ok q →
       ∃ t, exec (.retfGate k f) s = .next t ∧ Checkpointed s t k { q with feStat := insBits q.feStat 1 1 0 } s.mem)) ∧
  (∀ (r q : CpRegs) (fast : Bool) (g dc : Cap) (ret : Word) (dreg : Nat) (rs : List Word),
     dreg < 16 → dreg ≠ 13 → dreg ≠ 15 → r.rs.length ≤ 32 → r.ps &&& psMask = r.ps → targetCheck r.c[15] ret = none →
     ∃ u, gateRestore q (gateFrame r fast g dc ret dreg) 0 rs (fun t => t == tagCODE) = .ok u ∧
       u.ps = r.ps ∧ u.pc = ret ∧ u.c[15] = r.c[15] ∧ u.cr (BitVec.ofNat 5 dreg) = dc ∧ u.rs = rs ∧ u.g = q.g ∧
       ∀ i : Fin 16, i.val ≠ 15 → i.val ≠ dreg → u.c[i] = q.c[i])

/-- TRAP enters the trap handler through the trap stack: events masked, AUTH 0xFE, c15 the capability captured with TVEC, and
a frame of eight words whose resume address lies behind the instruction and whose cause is class 9 with the instruction's
value (R179, R194, R202, R203, R204, R205). With events masked a fault goes to the fast entry bank instead: its eight words stand in fe0 to fe7, the return stack in
the shadow, AUTH is 0xFF and the CP runs at FE_VEC; with the bank already in use the CP checkstops (R202, R207, R210).
Where it rests on the model's choices: assumption 14. -/
def Obligations.TrapEntryIsTaken : Prop :=
  (∀ (s : State) (k : CpId) (f : RForm) (at_ : List (Nat × Nat)),
     let r := s.cr k
     let frame := [TWord.ofRaw r.ps, .ofCode (r.pc + 4), .ofRaw (BitVec.ofNat 64 ((f.a.toNat * 32 + f.b.toNat) * 2 ^ 16 + 9)),
       .ofRaw 0, .ofRaw r.pc, .ofRaw (BitVec.ofNat 64 (r.rs.length * 2 ^ 32 + (insnWord (.trap k f)).toNat)),
       r.c[15].pair.1, r.c[15].pair.2]
     Calm s k → Ready s k (.trap k f) f.pr → r.em = false → bit r.feStat 0 = false → bit r.tvec 0 = true →
     (s.atBody k).pushCheck k 8 = .ok at_ → ∃ t q, exec (.trap k f) s = .next t ∧
       Checkpointed s t k q (s.mem.withHeld ((at_.zip frame).map fun x =>
         .store ⟨x.1.1, x.2.data, 0xFF, some x.2.tag, none, x.2.tag = tagCAPL ∨ x.2.tag = tagCAPH⟩ x.1.2)) ∧
       q.em = true ∧ bits q.ps 39 32 = 0xFE ∧ bit q.ps 16 = false ∧ q.c[15] = r.trapCap ∧ q.pc = r.tvec &&& ~~~3#64 ∧
       q.tsp = r.tsp - 64 ∧ q.g = r.g ∧ q.p = r.p ∧ q.rs = r.rs) ∧
  (∀ (s : State) (k : CpId) (f : RForm),
     let r := s.cr k
     let frame := [TWord.ofRaw r.ps, .ofCode (r.pc + 4), .ofRaw (BitVec.ofNat 64 ((f.a.toNat * 32 + f.b.toNat) * 2 ^ 16 + 9)),
       .ofRaw 0, .ofRaw r.pc, .ofRaw (BitVec.ofNat 64 (r.rs.length * 2 ^ 32 + (insnWord (.trap k f)).toNat)),
       r.c[15].pair.1, r.c[15].pair.2]
     Calm s k → Ready s k (.trap k f) f.pr → r.em = true →
     (bit r.feStat 0 = false → bit r.feVec 0 = true → ∃ t q, exec (.trap k f) s = .next t ∧ Checkpointed s t k q s.mem ∧
       q.fe.toList = frame ++ r.fe.toList.drop 8 ∧ q.shE = r.rs ∧ q.rs = [] ∧ q.em = true ∧ bits q.ps 39 32 = 0xFF ∧
       q.c[15] = r.feCap ∧ q.pc = r.feVec &&& ~~~3#64 ∧ bit q.feStat 0 = true ∧ q.tsp = r.tsp ∧ q.g = r.g) ∧
     (bit r.feStat 0 = true → ∃ t, exec (.trap k f) s = .next t ∧ (t.cp k).checkstop = true ∧ t.issuing k = false))

/-- TRET and RETF of the event half restore PS, the address and c15 from a sound trap frame; TRET pops the trap stack, RETF
gives the return stack back from the shadow and frees the bank (R195, R206, R208).
Where it rests on the model's choices: assumptions 15, 24. -/
def Obligations.TrapReturns : Prop :=
  ∀ (s : State) (k : CpId) (f : RForm) (ws : List TWord) (c : Cap),
    let r := s.cr k
    let w := fun (i : Nat) => ws.getD i .raw0
    let ps := (w 0).data &&& 0xFF0001FE1F
    Calm s k → r.sys = true → Cap.ofPair (w 6) (w 7) = some c → (w 1).tag = tagCODE ∨ (w 1).tag = tagRAW →
    targetCheck c (w 1).data = none → bit ps 14 = true ∨ bits r.evpend 6 0 = 0 ∧ (s.cp k).arith = none →
    (Ready s k (.tret k f) f.pr → (s.atBody k).popFrame k 8 = .ok ws → bit (w 2).data 63 = false → ∃ t, exec (.tret k f) s = .next t ∧
      Checkpointed s t k { r with ps := ps, c := r.c.set 15 c, pc := (w 1).data, tsp := r.tsp + 64 } s.mem) ∧
    (Ready s k (.retfEvent k f) f.pr → ws = r.fe.toList.take 8 → bit r.feStat 0 = true → f.b = 0 →
      ∃ t, exec (.retfEvent k f) s = .next t ∧
        Checkpointed s t k { r with
          ps := ps, c := r.c.set 15 c, pc := (w 1).data, rs := r.shE, feStat := insBits r.feStat 0 0 0 } s.mem)

/-! Rilel: the system class. -/

/-- FENCE and FENCE.I make every store of the CP visible by a checkpoint; FENCE.A changes nothing else; a range cache
operation of no lines completes with PS.RES clear, CINV.R under SYS authority (R110, R115, R118, R121, R252). RDSET replaces CONDEMNED, GEN, POLICY and WP of a descriptor and nothing else of it (R70, R110).
Where it rests on the model's choices: assumption 22. -/
def Obligations.FencesAndDescriptors : Prop :=
  (∀ (s : State) (k : CpId) (f : RForm),
     let r := s.cr k
     Solo s k →
     ((∀ h ∈ (s.cp k).held, ∃ o p, h = .store o p) → (∀ x, (s.site x).spareDue = false) → Fresh s →
       ∀ i ∈ [Instr.fence k f, .fenceI k f], Ready s k i f.pr → ∃ t, exec i s = .next t ∧
       Checkpointed s t k r.next (s.mem.withHeld (s.cp k).held)) ∧
     (Ready s k (.fenceA k f) f.pr → ∃ t, exec (.fenceA k f) s = .next t ∧ Retired s t k r.next) ∧
     (∀ i ∈ [Instr.cinvR k f, .cclnR k f, .cflsR k f], (i = .cinvR k f → r.sys = true) → (f.d.toNat % 16 = 13 → r.sys = true) →
       numOk (r.gr f.a) → numOk (r.gr f.b) → (r.gr f.b).data = 0 → s.eventOpen k = false → Ready s k i f.pr →
       ∃ t, exec i s = .next t ∧ Retired s t k { r.next with ps := insBits r.ps 16 16 0 })) ∧
  (∀ (s : State) (k : CpId) (f : RForm) (n : PartId),
     let r := s.cr k
     let rn := (r.gr f.a).data.toNat
     let da := s.rdtAddr n rn
     let v := (s.mem.data da &&& ~~~0x7F80000000000000#64) ||| ((r.gr f.b).data &&& 0x7F80000000000000#64)
     Calm s k → r.sys = true → numOk (r.gr f.a) → numOk (r.gr f.b) → s.partOf k = some n → rn < s.rdtLen n →
     da + 8 ≤ storageEnd → s.mem.poison.contains da = false → Ready s k (.rdset k f) f.pr →
     ∃ t, exec (.rdset k f) s = .next t ∧ Checkpointed s t k r.next (s.mem.store ⟨da, v, 0xFF, none, none, true⟩))

/-- MFK reads a k register as RAW; MTK writes the RW bits of one: FE_STAT and EVPEND do not change, an entry vector with V
set is checked and captures c15, ESCV with EN set takes the 32 entries of its table, both under SYS authority (R110, R131,
R196, R209, R217). EMSET and EMCLR write PS.EM alone, WRPSK the RW and RW/K fields of PS, all under SYS authority; without it they fault and
change no flag. WAIT stops issue until an interrupt is pending (R86, R87, R110).
Where it rests on the model's choices: assumptions 21, 23, 24, 87, 88. -/
def Obligations.ControlAndEvents : Prop :=
  (∀ (s : State) (k : CpId) (f : RForm) (pa : Fin 32 → Nat) (d : Fin 32 → Word) (e : Fin 32 → TWord),
     let r := s.cr k
     let w := r.gr f.d
     let v := w.data
     let n := kNum f
     r.sys = true →
     (Ready s k (.mfk k f) f.pr → ∃ t u, exec (.mfk k f) s = .next t ∧
       Loaded s t k (r.next.setG f.d (.ofRaw u)) ∧ (n = 0 → u = r.tsp) ∧ (n = 1 → u = r.tvec) ∧ (n = 2 → u = r.feVec) ∧
       (n = 3 → u = r.feStat) ∧ (n = 4 → u = r.evpend) ∧ (n = 5 → u = r.wdog) ∧ (n = 16 → u = r.escv) ∧ (n = 17 → u = r.cardb) ∧
       (n = 18 → u = r.colctl) ∧ (n = 19 → u = r.axen) ∧ ∀ i : Fin 16, n = 48 + i.val → u = r.fe[i].data) ∧
     (Calm s k → numOk w → Ready s k (.mtk k f) f.pr → n = 16 → bit v 0 = true →
       (∀ i, (s.atBody k).access k r.c[15] pLOAD ((v &&& ~~~0xFF#64) + BitVec.ofNat 64 (8 * i.val)) 8 8 false = .ok (pa i, d i) ∧
         s.mem.word (pa i) = e i ∧ tagReserved (e i).tag = false ∧ (e i).poison = false) →
       ∃ t, exec (.mtk k f) s = .next t ∧ Checkpointed s t k
         { r.next with escv := v &&& 0xFFFFFFFFFFFFFF01#64
                       escVec := Vector.ofFn fun i => if (e i).tag = tagCODE then some (e i).data else none } s.mem) ∧
     (Calm s k → numOk w → Ready s k (.mtk k f) f.pr → (n = 16 → bit v 0 = false) →
       ((n = 1 ∨ n = 2) → bit v 0 = true → targetCheck r.c[15] (v &&& ~~~3#64) = none) →
       ∃ t q, exec (.mtk k f) s = .next t ∧ Checkpointed s t k q s.mem ∧
         (n = 0 → q = { r.next with tsp := v &&& ~~~0x3F#64 }) ∧
         (n = 1 → q = { r.next with tvec := v &&& ~~~2#64, trapCap := if bit v 0 then r.c[15] else r.trapCap }) ∧
         (n = 2 → q = { r.next with feVec := v &&& ~~~2#64, feCap := if bit v 0 then r.c[15] else r.feCap }) ∧
         (n = 3 ∨ n = 4 → q = r.next) ∧ (n = 5 → q = { r.next with wdog := v &&& 0xFFFFFFFF#64 }) ∧
         (n = 16 → q = { r.next with escv := v &&& 0xFFFFFFFFFFFFFF01#64 }) ∧
         (n = 17 → q = { r.next with cardb := v &&& 0xFFFFFFFFFFFFF001#64 }) ∧
         (n = 18 → q = { r.next with colctl := v &&& 0xF#64 }) ∧ (n = 19 → q = { r.next with axen := v &&& 0x61F#64 }) ∧
         ∀ i : Fin 16, n = 48 + i.val → q = { r.next with fe := r.fe.set i (.ofRaw v) })) ∧
  (∀ (s : State) (k : CpId) (f : RForm),
     let r := s.cr k
     (r.sys = true →
       (Ready s k (.emset k f) f.pr → ∃ t, exec (.emset k f) s = .next t ∧ Retired s t k { r.next with ps := insBits r.ps 14 14 1 }) ∧
       (bits r.evpend 6 0 = 0 → (s.cp k).arith = none → Ready s k (.emclr k f) f.pr → ∃ t, exec (.emclr k f) s = .next t ∧
         Retired s t k { r.next with ps := insBits r.ps 14 14 0 }) ∧
       (numOk (r.gr f.a) → bits r.evpend 6 0 = 0 → (s.cp k).arith = none → Ready s k (.wrpsk k f) f.pr →
         ∃ t v, exec (.wrpsk k f) s = .next t ∧ Retired s t k { r.next with ps := v } ∧
         ∀ i : Fin 64, v.getLsbD i = if i.val ≤ 4 ∨ 9 ≤ i.val ∧ i.val ≤ 15 then (r.gr f.a).data.getLsbD i else r.ps.getLsbD i)) ∧
     (r.sys = false → ∀ i ∈ [Instr.emset k f, .emclr k f, .wrpsk k f], Ready s k i f.pr →
       exec i s = .next ((s.atBody k).takeFault k (insnWord i) r.pc r.pc
         ⟨0x04, 2, 0, 0, false, false⟩)) ∧
     (Ready s k (.wait k f) f.pr → ∃ t, exec (.wait k f) s = .next t ∧ t.cr k = r.next ∧
       (s.l3Stale = [] → t.mem.cells = s.mem.cells ∧ t.mem.poison = s.mem.poison) ∧
       (t.cp k).waiting = decide (bits r.evpend 6 3 = 0) ∧ (bits r.evpend 6 3 = 0 → t.issuing k = false)))

/-! The lock tick unit. -/

/-- Writes of TCK_CTL, TCK_TIMER, TCK_IN_n, TCK_NUM, TCK_FILT and TCK_PART_n.DONE: what each leaves in the unit, and that a
refused value leaves the old one and an access record (R28, R29, R30, R31, R33, R35, R36, R48, R479).
Where it rests on the model's choices: assumption 54. -/
def Obligations.TickUnitWrites : Prop :=
  ∀ (s : State) (i : Initiator) (src : BitVec 3) (v : Word) (n : Fin 4) (p : PartId), Manager s i →
    let on := s.flag oTCK_CTL 3
    let runs := s.tkState ≠ 0 ∧ s.tick.src = 0
    let per := v.toNat
    (src.toNat ≤ 5 →
      (on = false → ∃ t, exec (.tickEnable i src) s = .next t ∧ OnlyRegs s t [oTCK_CTL, oTCK_STAT, oTCK_PERIOD] ∧
        t = { s with regs := t.regs, tick := t.tick } ∧ t.flag oTCK_CTL 3 = true ∧ t.fld oTCK_CTL 2 0 = src.toNat ∧
        t.tkState = 1 ∧ t.period = 0 ∧ t.tick.src = src.toNat ∧
        t.flag oTCK_STAT 11 = (s.flag oTCK_STAT 11 || decide (src.toNat ≠ s.tick.src)) ∧
        (src.toNat = n.val + 1 → t.tick.divs[n] = 0) ∧ (src = 0 → t.tick.phase = s.now)) ∧
      (on = true → ∃ t, exec (.tickDisable i src) s = .next t ∧ OnlyRegs s t [oTCK_CTL, oTCK_STAT] ∧
        t = { s with regs := t.regs, tick := { s.tick with srcDue := none, commitDone := false, commitLost := false } } ∧
        t.flag oTCK_CTL 3 = false ∧ t.tkState = 0) ∧
      (on = true → src.toNat ≠ s.tick.src → s.tkState = 2 → ∃ t, exec (.tickSourceChange i src) s = .next t ∧
        OnlyRegs s t [oTCK_CTL] ∧ t.fld oTCK_CTL 2 0 = src.toNat ∧
        t = { s with regs := t.regs, tick := { s.tick with srcDue := some src.toNat } }) ∧
      (on = true → src.toNat ≠ s.tick.src → s.tkState ≠ 2 → ∃ t, exec (.tickSourceChange i src) s = .next t ∧
        OnlyRegs s t [oTCK_CTL, oTCK_STAT, oTCK_PERIOD] ∧ t = { s with regs := t.regs, tick := t.tick } ∧
        t.tick.src = src.toNat ∧ t.tick.srcDue = none ∧ t.flag oTCK_STAT 11 = true ∧ t.tkState = s.tkState) ∧
      (on = false ∨ src.toNat = s.tick.src → ∃ t, exec (.tickSourceChange i src) s = .next t ∧ Regs s t [oTCK_CTL] ∧
        t.fld oTCK_CTL 2 0 = src.toNat)) ∧
    (per < 2 ^ 27 → ∃ t, exec (.tckTimerWrite i v) s = .next t ∧ OnlyRegs s t [oTCK_TIMER] ∧ t.fld oTCK_TIMER 26 0 = per ∧
      t = { s with regs := t.regs, tick := t.tick } ∧
      (per < 10000 ∨ 100000000 < per → t.tick = s.tick) ∧
      (10000 ≤ per → per ≤ 100000000 →
        (s.tick.period = 0 → t.tick.period = per ∧ (runs → t.tick.phase = s.now)) ∧
        (s.tick.period ≠ 0 → runs → t.tick = { s.tick with nextPeriod := per }) ∧
        (s.tick.period ≠ 0 → ¬runs → t.tick = { s.tick with period := per, nextPeriod := 0 }))) ∧
    (per < 2 ^ 32 → bits v 15 3 = 0 → ∃ t, exec (.tckInWrite i n v) s = .next t ∧ OnlyRegs s t [oTCK_IN n] ∧
      t.fld (oTCK_IN n) 31 16 = bits v 31 16 ∧ t.fld (oTCK_IN n) 2 0 = bits v 2 0 ∧
      t = { s with regs := t.regs, tick := { s.tick with divs := s.tick.divs.set n 0 } }) ∧
    (per < 2 ^ 48 →
      (s.tkState = 0 → ∃ t, exec (.tckNumWrite i v) s = .next t ∧ Regs s t [oTCK_NUM] ∧ t.tickNum = per) ∧
      (s.tkState ≠ 0 → ∃ u, Same s u ∧ exec (.tckNumWrite i v) s = .next (u.accessRecord i oTCK_NUM true)) ∧
      (bits v 19 0 ≠ 0 → bits v 19 0 < bits v 39 20 → ∃ t, exec (.tckFiltWrite i v) s = .next t ∧ Regs s t [oTCK_FILT] ∧
        t.fld oTCK_FILT 47 0 = per) ∧
      (bits v 19 0 = 0 ∨ bits v 39 20 ≤ bits v 19 0 →
        ∃ u, Same s u ∧ exec (.tckFiltWrite i v) s = .next (u.accessRecord i oTCK_FILT true))) ∧
    ∀ j, j = i ∨ (∃ k, j = .cp k ∧ s.partOf k = some p) → ∃ t, exec (.tickDoneSet j p) s = .next t ∧
      OnlyRegs s t [oTCK_PART p] ∧ t.reg (oTCK_PART p) = s.reg (oTCK_PART p) ||| 0x8000000000000000 ∧
      t = { s with regs := t.regs, tick := { s.tick with doneAt := s.tick.doneAt.set p (some s.now) } }

/-- Ticks: edges are divided, those under TMIN are ignored or merged, the others become the next tick; the timer ticks every
PERIOD; after TMAX the unit coasts and after COAST_MAX ticks it is LOST; the commit point lies 2 µs before the predicted edge; DONE
is tested CP_RESV after a tick, and DONE that is set in the cycle of a tick stands for the next pound (R28, R31, R33, R34, R35, R37, R38, R39, R40, R45, R47, R48).
Where it rests on the model's choices: assumption 54. -/
def Obligations.TickEvents : Prop :=
  (∀ s : State, Still s → s.tick.srcDue = none →
     let T := (s.tickNum + 1) % 2 ^ 48
     let st := s.tkState
     (∀ (pin : Fin 4) (rising : Bool) (w : Word), s.now.toNat ≤ w.toNat →
       let near := w.toNat < s.edgeTime + s.tmin
       let offered := st ≠ 0 ∧ s.tick.src = pin.val + 1 ∧ s.flag (oTCK_IN pin) 1 ≠ rising
       let due := s.fld (oTCK_IN pin) 31 16 ≤ s.tick.divs[pin]
       let per := if s.tick.lastAccepted = true then (w.toNat - s.edgeTime) % 2 ^ 27 else s.period
       ∃ t, exec (.tickEdge pin rising w) s = .next t ∧ t.now = w ∧
         (¬offered → Regs s t [oTCK_TIME]) ∧
         (offered → ¬due → OnlyRegs s t [oTCK_TIME] ∧
           t = { s with regs := t.regs, tick := { s.tick with divs := s.tick.divs.set pin (s.tick.divs[pin] + 1) } }) ∧
         (offered → due → t.tick.divs[pin] = 0 ∧
           (st = 1 → s.tick.anyTick = false → Ticked s t T w.toNat 0 ∧ t.tkState = 1 ∧ t.period = s.period) ∧
           (st = 1 → s.tick.anyTick = true → ¬near → Ticked s t T w.toNat 0 ∧ t.tkState = 2 ∧
             t.period = (w.toNat - s.edgeTime) % 2 ^ 27) ∧
           (st = 1 ∧ s.tick.anyTick = true ∨ st = 2 → near → OnlyRegs s t [oTCK_TIME, cDEV 0, oTCK_STAT] ∧
             t.reg (cDEV 0) = countBy (s.reg (cDEV 0)) 1 ∧ t.flag oTCK_STAT 8 = true ∧ t.tkState = st) ∧
           (2 ≤ st → ¬near → Ticked s t T w.toNat 0 ∧ t.tkState = 2 ∧ t.period = per) ∧
           (3 ≤ st → near → OnlyRegs s t [oTCK_TIME, cDEV 2, oTCK_EDGE, oTCK_STAT] ∧ t.tickNum = s.tickNum ∧
             t.reg oTCK_EDGE = w ∧ t.tkState = 2 ∧ t.tick.lastAccepted = true ∧
             t.reg (cDEV 2) = countBy (s.reg (cDEV 2)) 1))) ∧
     (st = 1 → s.tick.src = 0 → s.tick.period ≠ 0 → ∃ t, exec .timerCandidate s = .next t ∧ t.tkState = 2 ∧
       Ticked s t T (s.tick.phase.toNat + s.tick.period) 0 ∧ t.period = s.tick.period % 2 ^ 27) ∧
     (st = 2 → 2 ≤ s.coastMax → ∃ t, exec .tmaxExpiry s = .next t ∧ Ticked s t T (s.edgeTime + s.tmax) 1 ∧ t.tkState = 3 ∧
       t.flag oTCK_STAT 9 = true ∧ t.tick.coasted = 1) ∧
     (st = 2 → s.coastMax = 0 → ∃ t, exec .tmaxExpiry s = .next t ∧ t.tickNum = T ∧ t.tkState = 4 ∧
       t.reg oTCK_EDGE = BitVec.ofNat 64 (s.edgeTime + s.tmax) ∧ t.flag oTCK_STAT 10 = true) ∧
     (st = 3 → s.tick.coasted + 1 < s.coastMax → ∃ t, exec .coastTick s = .next t ∧ Ticked s t T (s.edgeTime + s.period) 1 ∧
       t.tkState = 3 ∧ t.period = s.period ∧ t.tick.coasted = s.tick.coasted + 1) ∧
     (st = 3 → s.coastMax ≤ s.tick.coasted + 1 → ∃ t, exec .coastTick s = .next t ∧ t.tickNum = T ∧ t.tkState = 4 ∧
       t.reg oTCK_EDGE = BitVec.ofNat 64 (s.edgeTime + s.period) ∧ t.flag oTCK_STAT 10 = true) ∧
     (st = 4 → ∃ t, exec .lostTick s = .next t ∧ Ticked s t T (s.edgeTime + s.period) 2 ∧ t.tkState = 4 ∧ t.period = s.period) ∧
     (2 ≤ st → s.period ≠ 0 → s.tick.commitDone = false → ∃ t, exec .commitPoint s = .next t ∧ OnlyRegs s t [oTCK_TIME] ∧
       t.tick = { s.tick with commitDone := true, commitLost := decide (st = 4) } ∧
       t = { s with regs := t.regs, tick := t.tick, engines := t.engines })) ∧
  (∀ (s : State) (n : PartId), s.tick.pound = true → s.fld (oTCK_PART n) 23 0 ≠ 0 →
     s.tick.tested.getLsbD n = false →
     (s.flag (oTCK_PART n) 63 = true → ∃ t, exec (.cpResvCheck n) s = .next t ∧ OnlyRegs s t [oTCK_TIME] ∧
       t.tick.tested.getLsbD n = true ∧ t = { s with regs := t.regs, tick := t.tick }) ∧
     (s.flag (oTCK_PART n) 63 = false → ∃ u, exec (.cpResvCheck n) s = .next (u.record (mkRec 1 0x64 0 (some n))) ∧
       OnlyRegs s u [oTCK_TIME, cPART n 0] ∧ u.reg (cPART n 0) = countBy (s.reg (cPART n 0)) 1 ∧
       u.tick.tested.getLsbD n = true ∧ u = { s with regs := u.regs, tick := u.tick }))

/-! Microcode. -/

/-- A customer instruction runs the routine of its decode entry: an ALU microword on XA and XB that ends gives XD the INT-class
result with the tag of R99 and clears PS.RES. An engine's customer command runs its dispatch entry: a routine that ends completes it with
the status in e0 and the bytes in e1, at once or when the wait on a Towpath pin or interrupt line ends; a routine that waits on
a core site goes on likewise. Single-bit control-store errors are corrected and counted; an engine's event routine takes the
tick and error events; the end of a slice discards temporaries and prefetched commands and clears the working store, and the
next slice begins (R221, R223, R226, R231, R235, R236, R241, R316, R326, R387).
Where it rests on the model's choices: assumptions 32, 33, 34, 35, 43, 85. -/
def Obligations.MicrocodeRuns : Prop :=
  (∀ (s : State) (k : CpId) (minor : BitVec 7) (f : RForm) (x : SiteId),
     let r := s.cr k
     let cdt := s.reg (oCS_CDT x (minor.toNat % 64))
     let a := (r.gr f.a).data
     let b := (r.gr f.b).data
     let tag := if (r.gr f.a).tag = tagFIX ∧ (r.gr f.b).tag = tagFIX then tagFIX else tagRAW
     s.siteOf k = some x → s.issuing k = true → s.fetchCheck k = none → r.holds f.pr = true → (s.cp k).retired < 255 →
     r.em = true ∨ (s.cp k).arith = none → minor.getLsbD 6 = false → bit cdt 63 = true → bit cdt 62 = false → bit cdt 60 = false →
     bits cdt 51 46 = 0b010101 → bit cdt 44 = true → 0x3000 ≤ bits cdt 13 0 → numOk (r.gr f.a) → numOk (r.gr f.b) →
     ∀ y ∈ ([(1, a + b), (2, a - b), (3, a &&& b), (4, a ||| b), (5, a ^^^ b), (6, a &&& ~~~b),
       (12, if a.toInt ≤ b.toInt then b else a), (14, if a.toNat ≤ b.toNat then b else a)] : List (Nat × Word)),
     (s.site x).seq.word (bits cdt 13 0) =
       some (.of (BitVec.ofNat 160 (6 * 2 ^ 152 + y.1 * 2 ^ 127 + 49 * 2 ^ 121 + 50 * 2 ^ 115 + 48 * 2 ^ 109))) →
     ∃ t, exec (.customerInsn k minor f) s = .next t ∧
       t.cr k = { r.next.setG f.d ⟨y.2, tag, 0, false⟩ with ps := insBits r.ps 16 16 0 } ∧
       (t.cp k).retired = (s.cp k).retired + 1 ∧ (s.l3Stale = [] → t.mem.cells = s.mem.cells) ∧ ∀ j, j ≠ k → t.cp j = s.cp j) ∧
  (∀ (s : State) (e : UnitId) (x : CtxId) (c : Ctx),
     let q := (s.eng e).seq
     let ended := fun (t : State) =>
       t.ctx e x = some { c with bytes := bits q.e[1] 31 0, phase := .done (bits q.e[0] 7 0) 0 } ∧
       (t.eng e).seq.running = false ∧ (∀ j, j ≠ e → t.eng j = s.eng j) ∧ t.mem = s.mem ∧ t.cps = s.cps
     s.ctx e x = some c →
     (s.ceFree e = true → c.phase = .fetched → isCustomer c.rawOp = true → c.op = c.rawOp →
       s.mayWork e c.prog.part false = true → s.otherTurn e x = true →
       q.word (s.fld (oCE_CDISP e (c.rawOp - 0x40)) 13 0) = some (.of (BitVec.ofNat 160 (6 * 2 ^ 152))) →
       ∃ t, exec (.cmdCustomer e x) s = .next t ∧ ended t) ∧
     (∀ (w : MW) (k : Fin 4), s.ceWorks e = true → q.running = true → q.waiting = true → q.ctxNo = some x →
       q.inEvent = false → q.txSlots = [] → c.op ≠ 2 →
       c.phase = .routine → q.word q.upc.toNat = some w → w.waitev = 3 → w.seq = 6 →
       let line := s.flag (oTOW_INT k) 0
       let pend := s.flag oTOW_INTSTAT (16 + k)
       (8 ≤ w.cond → w.cond ≤ 11 ∨ w.cond = 12 + k ∧ line = false → ∃ t, exec (.microwordWaitEnd (.engine e)) s = .next t ∧ ended t) ∧
       (e.val = 8 → line = true → w.cond = 20 + k →
         (pend = true → ∃ t, exec (.microwordWaitEnd (.engine e)) s = .next t ∧ ended t ∧ t.flag oTOW_INTSTAT (16 + k) = false) ∧
         (pend = false → exec (.microwordWaitEnd (.engine e)) s = .next s)))) ∧
  (∀ (s : State) (x : SiteId),
     let k := cpField (s.fld (oCS_BIND x) 11 8)
     let p := s.cp k
     let q := (s.site x).seq
     (p.custInsn = false → exec (.microwordWaitEnd (.site x)) s = .next s) ∧
     (∀ w : MW, p.custInsn = true → s.siteOf k = some x → s.standing k = true → s.pairOf k = none → p.retired < 255 →
       p.custRegs.em = p.regs.em → p.regs.em = true ∨ p.arith = none → bit (s.reg (oCS_CDT x p.custSlot)) 60 = false →
       q.running = false → q.waiting = true → q.word q.upc.toNat = some w → w.waitev = 3 → 8 ≤ w.cond → w.seq = 6 →
       ∃ t, exec (.microwordWaitEnd (.site x)) s = .next t ∧ (t.cp k).custInsn = false ∧ (t.cp k).held = p.custHeld ∧
         t.cr k = { p.custRegs with
           evpend := p.regs.evpend, ps := insBits p.custRegs.ps 16 16 0, pc := p.regs.pc + 4 } ∧
         ∀ j, j ≠ k → t.cp j = s.cp j)) ∧
  (∀ (s : State) (x : SiteId) (e : UnitId) (n : PartId) (ua : BitVec 14),
     (∃ t, exec (.controlStoreError (.site x) ua false) s = .next t ∧ Regs s t [cSITE x 10, oSITE x 0x100] ∧
       t.reg (cSITE x 10) = countBy (s.reg (cSITE x 10)) 1 ∧ t.flag (oSITE x 0x100) 6 = true) ∧
     (s.bindSt x ≠ bBOUND → ∃ t, exec (.controlStoreError (.site x) ua true) s = .next t ∧ Regs s t [oSITE x 0x100] ∧
       t.flag (oSITE x 0x100) 7 = true) ∧
     (∃ t, exec (.controlStoreError (.engine e) ua false) s = .next t ∧ Regs s t [oCE e 0x100] ∧
       t.flag (oCE e 0x100) 6 = true) ∧
     (s.ceWorks e = true → (s.eng e).seq.running = false → (s.eng e).seq.inEvent = false → e.val ≠ 8 ∨ (s.jn e).slots = [] →
       let q := (s.eng e).seq
       let entry := q.word Config.eventEntry
       (q.tickEv = true ∨ q.errEv = true → entry = none → ∃ t v, exec (.engineEventRoutine e) s = .next t ∧
         t = { s with freeCtr := t.freeCtr, engines := t.engines } ∧ (∀ j, j ≠ e → t.eng j = s.eng j) ∧
         t.eng e = { s.eng e with seq := { q with
           t2 := v, tickEv := false, errEv := false, cycles := 0, ustack := [], ctxNo := none } }) ∧
       (q.tickEv = true ∨ q.errEv = true → entry = some (.of (BitVec.ofNat 160 (4 * 2 ^ 152))) →
         ∃ t, exec (.engineEventRoutine e) s = .next t ∧ (t.eng e).seq.tickEv = false ∧ (t.eng e).seq.errEv = false ∧
         (t.eng e).seq.running = false ∧ (t.eng e).seq.inEvent = false ∧ (t.eng e).seq.t = q.t ∧
         t = { s with freeCtr := t.freeCtr, engines := t.engines } ∧ ∀ j, j ≠ e → t.eng j = s.eng j) ∧
       (q.tickEv = false → q.errEv = false → exec (.engineEventRoutine e) s = .next s)) ∧
     (s.flag (oCE_CTL e) 8 = true → (s.eng e).slice = n ∨ (s.eng e).slice = 8 + n.val →
       ∃ t v, exec (.engineSliceEnd e n) s = .next t ∧
       t = { s with freeCtr := t.freeCtr, engines := t.engines } ∧ (∀ j, j ≠ e → t.eng j = s.eng j) ∧
       (t.eng e).seq = { (s.eng e).seq with t := v, sram := [] } ∧
       (t.eng e).slice = (if (s.eng e).slice = n then s.sliceFrom e (n + 1) else 8 + (n.val + 1) % 8) ∧
       ∀ x c, s.ctx e x = some c → t.ctx e x =
         some (if c.phase = .fetched then { c with phase := .fetch, cmd := [], regs := [], stages := [] } else c)) ∧
     (s.flag (oCE_CTL e) 8 = false ∨ ((s.eng e).slice ≠ n ∧ (s.eng e).slice ≠ 8 + n.val) →
       exec (.engineSliceEnd e n) s = .next s))

/-! The register space and the error records. -/

/-- Writes of the register space, field by field and by initiator; a new region table empties the RLBs of its partition; reserved
locations; counters (R8, R9, R11, R438, R542, R562,
R564).
Where it rests on the model's choices: assumptions 10, 80. -/
def Obligations.RegisterAccess : Prop :=
  ∀ (s : State) (i : Initiator) (loc : BitVec 24) (v : Word),
    let off := loc.toNat
    let plain := [oGLB_SCRATCH, oCFG_SRC, oTCK_OUT, oTCK_STAT, oERR_CTL, oERR_SPILL, oPWR_THERM] ++
      (List.range 8).flatMap (fun n => [oLKP_ARG n, oTCK_PART n, oPRT_TAGCLASS n, oPRT_RDT n, oPRT_CRING n, oPRT_CSTART n, oCIP_PART n,
        oCMZ_PART n]) ++
      (List.range 9).flatMap (fun u => [oTCK_PORT u, oJNL_PORT u, oJNL_POOL u] ++ (List.range 8).map (oCE_RESV u) ++
        (List.range 64).map (oCE_PACE u)) ++
      (List.range 4).flatMap (fun k => [oTOW_INT k, oMSC_CTL k]) ++
      (List.range 75).flatMap fun j => oNI j 0 :: (List.range 8).map fun n => oNI j (0x40 + 8 * n)
    let open_ := i = .pf0 ∧ s.fld oCFG_STAT 2 0 = 5
    (∀ fs, Manager s i → off ∈ plain → regFields off = some fs →
      let old := s.reg off
      let inField := fun (f : Fld) (b : Nat) => f.lo ≤ b ∧ b ≤ f.hi
      let written := fun (t : State) => ∀ b < 64,
        ((∀ f ∈ fs, ¬inField f b) → t.flag off b = bit old b) ∧
        ∀ f ∈ fs, inField f b → match f.acc with
          | .ro => t.flag off b = bit old b
          | .wo => t.flag off b = bit old b
          | .rw => t.flag off b = bit v b
          | .rwk => t.flag off b = bit v b
          | .w1c => t.flag off b = (bit old b && !bit v b)
          | .w1s => t.flag off b = (bit old b || bit v b)
          | .rwl => (open_ → t.flag off b = bit v b) ∧ (¬open_ → t.flag off b = bit old b)
      let only := fun (u t : State) => OnlyRegs u t [off] ∧
        t = { u with regs := t.regs, sites := t.sites, tick := t.tick, jnl := t.jnl } ∧
        ((∀ n : PartId, off ≠ oPRT_RDT n) → t.sites = u.sites) ∧
        (∀ (n : PartId) (x : SiteId), off = oPRT_RDT n → t.reg off ≠ s.reg off → s.sitePart x = some n → (t.site x).rlb = []) ∧
        ((∀ n : PartId, off ≠ oTCK_PART n) ∨ bit v 63 = false → t.tick = u.tick) ∧
        ((∀ e : UnitId, off ≠ oJNL_PORT e) → t.jnl = u.jnl)
      let refused := (∃ b < 64, bit v b = true ∧ ∀ f ∈ fs, ¬inField f b) ∨
        (¬open_ ∧ ∃ f ∈ fs, f.acc = .rwl ∧ bits v f.hi f.lo ≠ bits old f.hi f.lo)
      (s.closedLoc off = true → exec (.registerWrite i loc v) s = .next (s.accessRecord i off true)) ∧
      (s.closedLoc off = false → (∀ e : UnitId, off = oJNL_PORT e → (s.jn e).slots = []) →
        (¬refused → ∃ t, exec (.registerWrite i loc v) s = .next t ∧ only s t ∧ written t) ∧
        (refused → ∃ t, exec (.registerWrite i loc v) s = .next t ∧ only (s.accessRecord i off true) t ∧ written t))) ∧
    (Manager s i → regFields off = none →
      exec (.registerWrite i loc v) s = .next (s.accessRecord i off true) ∧
      exec (.reservedAccess i loc true) s = .next (s.accessRecord i off true) ∧
      exec (.reservedAccess i loc false) s = .next { s.accessRecord i off false with resp := .word 0 }) ∧
    (∀ n : PartId, s.running = true → s.partState n ≠ ptNONE → s.partState n ≠ ptCLEARING → off ≠ 0x20 → s.viewLoc n off = none →
      exec (.registerWrite (.vf n) loc v) s = .next (s.accessRecord (.vf n) off true) ∧
      exec (.reservedAccess (.vf n) loc true) s = .next (s.accessRecord (.vf n) off true) ∧
      exec (.reservedAccess (.vf n) loc false) s = .next { s.accessRecord (.vf n) off false with resp := .word 0 }) ∧
    (s.reservedFor i off = false → ∀ b, exec (.reservedAccess i loc b) s = .next s) ∧
    ∀ inc, (isCounter off = false → exec (.counterWrite i loc v inc) s = .next s) ∧
      (Manager s i → isCounter off = true → bits v 62 48 = 0 →
        let sum := v.toNat % 2 ^ 48 + inc
        ∃ t, exec (.counterWrite i loc v inc) s = .next t ∧ Regs s t [off] ∧ t.fld off 47 0 = sum % 2 ^ 48 ∧
          t.flag off 63 = (bit v 63 || decide (2 ^ 48 ≤ sum)) ∧ t.fld off 62 48 = 0)

/-- Error records: first-error and worst-error capture, the PF0 ring, coalescing, spill and loss, the view rings, the index registers and
what reading them does (R525, R526, R530, R531, R532, R533, R534, R535, R536, R537, R538).
Where it rests on the model's choices: assumption 79. -/
def Obligations.ErrorRecords : Prop :=
  (∀ (s : State) (r : RecordIn), s.running = true →
     let sev := r.sev.val
     let seq := s.err.rseq
     let ws := recWords s r seq
     let head := s.fld oERR_IDX 31 0
     let lost := fun (t : State) => t.fld (oERR_LOST r.source.toNat) 31 0 =
       min (2 ^ 32 - 1) (s.fld (oERR_LOST r.source.toNat) 31 0 + 1)
     let captured := fun (t : State) =>
       (s.flag oERR_CAP 0 = false → s.fld oERR_CTL 6 4 ≤ sev → t.flag oERR_CAP 0 = true ∧
         ∀ w < 8, t.reg (oERR_FIRST w) = ws.getD w 0) ∧
       (s.flag oERR_CAP 0 = true ∨ sev < s.fld oERR_CTL 6 4 → t.flag oERR_CAP 0 = s.flag oERR_CAP 0 ∧
         ∀ w < 8, t.reg (oERR_FIRST w) = s.reg (oERR_FIRST w)) ∧
       (s.flag oERR_CAP 1 = false ∨ bits (s.reg (oERR_WORST 0)) 61 59 < sev → t.flag oERR_CAP 1 = true ∧
         ∀ w < 8, t.reg (oERR_WORST w) = ws.getD w 0) ∧
       (s.flag oERR_CAP 1 = true → sev ≤ bits (s.reg (oERR_WORST 0)) 61 59 → ∀ w < 8, t.reg (oERR_WORST w) = s.reg (oERR_WORST w))
     let next := fun (P : State → Prop) => ∃ t, exec (.errorRecordArrive r) s = .next t ∧ P t
     (ws.length = 8 ∧ bit (ws.getD 0 0) 63 = true ∧ bit (ws.getD 0 0) 62 = false ∧ bits (ws.getD 0 0) 61 59 = sev ∧
       bits (ws.getD 0 0) 55 52 = (match r.part with | some n => n.val | none => 15) ∧
       bits (ws.getD 0 0) 47 40 = r.source.toNat ∧ bits (ws.getD 0 0) 39 24 = r.code.toNat ∧ bits (ws.getD 0 0) 23 8 = 1 ∧
       bits (ws.getD 1 0) 55 52 = (match r.lcp with | some k => k.val | none => 15) ∧ bits (ws.getD 1 0) 47 0 = s.tickNum ∧
       ws.getD 2 0 = s.now ∧ ws.getD 3 0 = s.now ∧ ws.getD 4 0 = r.addr ∧ ws.getD 5 0 = r.info0 ∧ ws.getD 6 0 = r.info1 ∧
       bits (ws.getD 7 0) 63 32 = seq.toNat) ∧
     (r.srcFull = true → next fun t => lost t ∧ OnlyRegs s t [oERR_LOST r.source.toNat] ∧ t.err = { s.err with rseq := seq + 1 } ∧
       t = { s with regs := t.regs, err := t.err }) ∧
     (r.srcFull = false →
       (∀ x, s.coalesceAt r ws = some x → r.part = none → next fun t => t.err = s.err ∧
         bits (t.reg (oERR_RING x 0)) 23 8 = min 65535 (bits (s.reg (oERR_RING x 0)) 23 8 + 1) ∧
         t.reg (oERR_RING x 3) = s.now ∧ t.fld oERR_IDX 31 0 = head) ∧
       (s.coalesceAt r ws = none → s.fld oERR_SPILLSTAT 20 0 = 0 → s.ringUsed < 512 → r.cont = none → r.part = none → next fun t =>
         captured t ∧ t.fld oERR_IDX 31 0 = (head + 1) % 2 ^ 32 ∧ t.fld oERR_IDX 63 32 = s.fld oERR_IDX 63 32 ∧
         (∀ w < 8, t.reg (oERR_RING head w) = ws.getD w 0) ∧ t.err.rseq = seq + 1 ∧
         t.err.signalled = (s.err.signalled || decide (s.fld oERR_CTL 10 8 ≤ sev)) ∧
         (s.err.signalled = false → s.fld oERR_CTL 10 8 ≤ sev → 0 ∈ (t.pcie.fns[(0 : Fin 9)]).pend) ∧
         t = { s with regs := t.regs, err := t.err, pcie := t.pcie } ∧
         ∀ o, o < 0x70000 ∨ 0x80000 ≤ o → t.reg o = s.reg o) ∧
       (∀ d, s.coalesceAt r ws = none → s.fld oERR_SPILLSTAT 20 0 = 0 → s.ringUsed < 511 → r.cont = some d → r.part = none →
         next fun t => captured t ∧ t.fld oERR_IDX 31 0 = (head + 2) % 2 ^ 32 ∧ t.err.rseq = seq + 1 ∧
           (∀ w < 8, t.reg (oERR_RING head w) = ws.getD w 0) ∧ bit (t.reg (oERR_RING ((head + 1) % 2 ^ 32) 0)) 62 = true ∧
           ∀ w < 7, t.reg (oERR_RING ((head + 1) % 2 ^ 32) (w + 1)) = d.getD w 0) ∧
       (s.coalesceAt r ws = none → s.ringUsed = 512 → r.part = none →
         let n := s.fld oERR_SPILLSTAT 20 0
         let size := if r.cont = none then 1 else 2
         (n + size ≤ s.spillCap → next fun t => captured t ∧ t.fld oERR_SPILLSTAT 20 0 = n + size ∧ t.reg oERR_IDX = s.reg oERR_IDX ∧
           t.err.rseq = seq + 1 ∧ (r.cont = none ∨ dataEnd ≤ s.fld oERR_SPILL 51 16 * 2 ^ 16 →
             t.mem.raws (s.spillAddr (s.err.spillRd + n)) 8 = ws)) ∧
         (s.spillCap < n + size → next fun t => captured t ∧ lost t ∧ t.err.rseq = seq + 1 ∧ t.mem = s.mem ∧
           t.reg oERR_IDX = s.reg oERR_IDX)) ∧
       (∀ n : PartId, s.coalesceAt r ws = none → s.ringUsed = 512 → s.spillCap ≤ s.fld oERR_SPILLSTAT 20 0 → r.part = some n →
         r.cont = none → s.viewCoalesceAt n r ws = none →
         let h := s.fld (oERR_PIDX n) 15 0
         (s.viewUsed n < 32 → next fun t => t.fld (oERR_PIDX n) 15 0 = (h + 1) % 2 ^ 16 ∧ lost t ∧
           (∀ w < 8, t.reg (oERR_VRING n h w) = ws.getD w 0) ∧
           (s.err.viewSignalled.getLsbD n = false → s.fld oERR_CTL 10 8 ≤ sev → t.err.viewSignalled.getLsbD n = true ∧
             0 ∈ (t.pcie.fns[vfFn n]).pend)) ∧
         (32 ≤ s.viewUsed n → next fun t => t.fld (oERR_PIDX n) 15 0 = h ∧
           t.fld (oERR_PIDX n) 63 48 = min 65535 (s.fld (oERR_PIDX n) 63 48 + 1))))) ∧
  (∀ (s : State) (r : RecordIn), s.running = false → exec (.errorRecordArrive r) s = .next s) ∧
  ∀ (s : State) (i : Initiator), Manager s i →
    (∀ tail : BitVec 32,
      let left := (s.fld oERR_IDX 31 0 + 2 ^ 32 - tail.toNat) % 2 ^ 32
      let a := s.spillAddr s.err.spillRd
      (512 < left → ∃ u, Same s u ∧ exec (.errTailWrite i tail) s = .next (u.accessRecord i oERR_IDX true)) ∧
      (left ≤ 512 → s.fld oERR_SPILLSTAT 20 0 = 0 → ∃ t, exec (.errTailWrite i tail) s = .next t ∧ Regs s t [oERR_IDX] ∧
        t.fld oERR_IDX 63 32 = tail.toNat ∧ t.fld oERR_IDX 31 0 = s.fld oERR_IDX 31 0) ∧
      (left < 512 → s.fld oERR_SPILLSTAT 20 0 = 1 → ∃ t, exec (.errTailWrite i tail) s = .next t ∧
        t.fld oERR_IDX 63 32 = tail.toNat ∧ t.fld oERR_IDX 31 0 = (s.fld oERR_IDX 31 0 + 1) % 2 ^ 32 ∧
        t.fld oERR_SPILLSTAT 20 0 = 0 ∧ t.err.spillRd = (s.err.spillRd + 1) % s.spillCap ∧ t.mem = s.mem ∧
        ∀ w < 8, t.reg (oERR_RING (s.fld oERR_IDX 31 0) w) = (s.mem.raws a 8).getD w 0)) ∧
    (∀ (n : PartId) (lost tail : BitVec 16),
      let left := (s.fld (oERR_PIDX n) 15 0 + 2 ^ 16 - tail.toNat) % 2 ^ 16
      (32 < left → ∃ u, Same s u ∧ exec (.errPidxTailWrite i n lost tail) s = .next (u.accessRecord i (oERR_PIDX n) true)) ∧
      (left ≤ 32 → ∃ t, exec (.errPidxTailWrite i n lost tail) s = .next t ∧ Regs s t [oERR_PIDX n] ∧
        t.fld (oERR_PIDX n) 63 48 = lost.toNat ∧ t.fld (oERR_PIDX n) 31 16 = tail.toNat ∧
        t.fld (oERR_PIDX n) 15 0 = s.fld (oERR_PIDX n) 15 0)) ∧
    exec (.errorRingRead i .errIdx) s = .next { s with err := { s.err with signalled := false }, resp := .word (s.reg oERR_IDX) } ∧
    (∀ j, exec (.errorRingRead i (.ringWord0 j)) s =
      .next { s with err := { s.err with readPos := j.val :: s.err.readPos }, resp := .word (s.reg (oERR_RING j 0)) }) ∧
    ∀ n : PartId, (∃ t, exec (.errorRingRead i (.errPidx n)) s = .next t ∧ t.err.viewSignalled.getLsbD n = false ∧
        t.resp = .word (s.reg (oERR_PIDX n) &&& ~~~0xFFFF00000000#64) ∧ t = { s with err := t.err, resp := t.resp }) ∧
      ∀ j, exec (.errorRingRead i (.viewWord0 n j)) s = .next { s with
        err := { s.err with viewRead := (32 * n.val + j.val) :: s.err.viewRead }, resp := .word (s.reg (oERR_VRING n j 0)) }

/-! Events, checkpoints, retry, sparing and pairs. -/

/-- A CP outside the instruction stream: events, the watchdog, checkpoints, transient faults and retry, core sparing and its completion, the
restart after a checkstop and debug halts (R110, R198, R199, R201, R202, R203, R207, R210, R271, R273, R275, R276, R278, R279, R282,
R289, R294, R297).
Where it rests on the model's choices: assumptions 24, 38, 39. -/
def Obligations.CpEvents : Prop :=
  ∀ (s : State) (k : CpId),
    let next := fun (x : Instr) (P : State → Prop) => ∃ t, exec x s = .next t ∧ P t
    let stays := fun (x : Instr) => exec x s = .next s
    let c := s.cp k
    let r := s.cr k
    let others := fun (t : State) => ∀ j, j ≠ k → t.cp j = s.cp j
    let stores := ∀ h ∈ c.held, ∃ o p, h = .store o p
    let fresh := fun (t : State) (cap : Cap) => t.cr k = { CpRegs.init cap with evpend := (t.cr k).evpend } ∧
      (t.cp k).held = [] ∧ (t.cp k).checkstop = false ∧ ∀ b ∈ [0, 3, 4, 5, 6], bit r.evpend b = true → bit (t.cr k).evpend b = true
    let rolled := { c.ckpt with evpend := insBits r.evpend 1 1 c.ckptArith.isSome.toNat }
    -- events
    (s.live k = false ∨ r.em = true ∨ bits r.evpend 6 0 = 0 → stays (.eventDelivery k)) ∧
    (∀ b, 2 ≤ b → b ≤ 6 → s.live k = true → r.em = false → bit r.evpend b = true → bits r.evpend (b - 1) 0 = 0 → Calm s k →
      let cause := if b = 2 then 0x11 else b * 2 ^ 16 + 0x12
      let frame := [TWord.ofRaw r.ps, .ofCode r.pc, .ofRaw (BitVec.ofNat 64 cause), .ofRaw 0, .ofRaw r.pc,
        .ofRaw (BitVec.ofNat 64 (r.rs.length * 2 ^ 32)), r.c[15].pair.1, r.c[15].pair.2]
      let taken := fun (t : State) (q : CpRegs) => t.cr k = { q with evpend := insBits r.evpend b b 0 } ∧
        (t.cp k).ckpt = t.cr k ∧ (t.cp k).waiting = false ∧ (t.cp k).held = [] ∧ others t
      (∀ at_, bit r.tvec 0 = true → s.pushCheck k 8 = .ok at_ → next (.eventDelivery k) fun t =>
        taken t { r with ps := insBits (insBits (insBits r.ps 14 14 1) 16 16 0) 39 32 0xFE, c := r.c.set 15 r.trapCap,
                         pc := r.tvec &&& ~~~3#64, tsp := r.tsp - 64 } ∧
        (let m := s.mem.withHeld ((at_.zip frame).map fun x =>
          .store ⟨x.1.1, x.2.data, 0xFF, some x.2.tag, none, x.2.tag = tagCAPL ∨ x.2.tag = tagCAPH⟩ x.1.2)
         t.mem.cells = m.cells ∧ t.mem.poison = m.poison)) ∧
      (bit r.tvec 0 = false → bit r.feStat 0 = false → bit r.feVec 0 = true → next (.eventDelivery k) fun t => ∃ q,
        taken t q ∧ q.fe.toList = frame ++ r.fe.toList.drop 8 ∧ q.shE = r.rs ∧ q.rs = [] ∧ q.em = true ∧ bits q.ps 39 32 = 0xFF ∧
        q.c[15] = r.feCap ∧ q.pc = r.feVec &&& ~~~3#64 ∧ bit q.feStat 0 = true ∧ bits q.feStat 11 8 = 1 ∧ q.tsp = r.tsp ∧ q.g = r.g) ∧
      (bit r.tvec 0 = false → bit r.feStat 0 = true → next (.eventDelivery k) fun t => t.cr k = r ∧ (t.cp k).checkstop = c.checkstop) ∧
      (bit r.tvec 0 = false → bit r.feStat 0 = false → bit r.feVec 0 = false → next (.eventDelivery k) fun t =>
        (t.cp k).checkstop = true ∧ t.cr k = r ∧ t.issuing k = false)) ∧
    (let idle := c.inService = false ∨ c.halted = true ∨ c.checkstop = true ∨ bits r.wdog 31 0 = 0
     (idle → stays (.wdogExpiry k)) ∧
     (¬idle → bit r.evpend 2 = false → exec (.wdogExpiry k) s = .next (s.modCp k fun c => { c with
       regs := { c.regs with evpend := insBits c.regs.evpend 2 2 1 } })) ∧
     (¬idle → bit r.evpend 2 = true → next (.wdogExpiry k) fun t => (t.cp k).checkstop = true ∧ t.cr k = r ∧ t.issuing k = false ∧
       others t)) ∧
    -- checkpoints and retry
    (s.executing k = false ∨ c.custInsn = true → stays (.checkpoint k)) ∧
    (s.executing k = true → c.custInsn = false → Solo s k → next (.checkpoint k) fun t =>
      (t.cp k).ckpt = r ∧ t.cr k = r ∧ (t.cp k).held = [] ∧ (t.cp k).retired = 0 ∧ (t.cp k).attempts = 0 ∧ others t ∧
      (Fresh s → stores → let m := s.mem.withHeld c.held; t.mem.cells = m.cells ∧ t.mem.poison = m.poison) ∧
      ∀ x, s.siteOf k = some x → (s.site x).spareDue = true → t.bindSt x = bSPARING ∧ (t.cp k).frozen = true) ∧
    (s.executing k = false → ∀ e, stays (.cpTransientFault k ⟨false, e⟩)) ∧
    (s.pairOf k = none → ∀ e, stays (.cpTransientFault k ⟨true, e⟩)) ∧
    (∀ (n : PairId) (u : SiteId) (e : CheckKind), s.pairOf k = some n → s.follower n = some u →
      (s.pairs[n].attempts < 3 → next (.cpTransientFault k ⟨true, e⟩) fun t => t.cps = s.cps ∧ (∀ y, t.bindSt y = s.bindSt y) ∧
        t.reg (cSITE u 2) = countBy (s.reg (cSITE u 2)) 1 ∧ t.pairs[n] = { s.pairs[n] with attempts := s.pairs[n].attempts + 1 }) ∧
      (3 ≤ s.pairs[n].attempts → (s.siteOf k).isSome = true → next (.cpTransientFault k ⟨true, e⟩) fun t => t.bindSt u = bFAILED ∧
        t.pairSt n = pDEGRADED ∧ t.nv.repair = s.nv.repair ++ [⟨3, BitVec.ofNat 16 u, 0, 2, 2⟩] ∧
        (t.cp k).ckpt = s.pairs[n].verified ∧ (t.cp k).held = [] ∧ t.pairs[n].dsb = [])) ∧
    (∀ (e : CheckKind) (x : SiteId), s.executing k = true → s.siteOf k = some x → Solo s k → next (.cpTransientFault k ⟨false, e⟩) fun t =>
      let recent := ((s.site x).retryTimes.filter fun y => s.now.toNat < y.toNat + 1000000000).length + 1
      let rate := s.fld oCMP_CTL 15 8
      t.cr k = rolled ∧ (t.cp k).ckpt = c.ckpt ∧ (t.cp k).held = [] ∧ (t.cp k).arith = c.ckptArith ∧
      (t.cp k).attempts = c.attempts + 1 ∧ others t ∧
      t.reg (cSITE x 2) = countBy (s.reg (cSITE x 2)) 1 ∧
      (c.attempts < 3 → t.bindSt x = bBOUND ∧ (t.cp k).frozen = c.frozen) ∧
      (3 ≤ c.attempts → t.bindSt x = bSPARING ∧ (t.cp k).frozen = true) ∧
      (t.site x).spareDue = ((s.site x).spareDue || rate != 0 && decide (rate < recent))) ∧
    -- sparing
    (∀ x u, s.freeSpare x = some u → s.bindSt u = bSPARE ∧
      (u.val / 10 = x.val / 10 ∨ ∀ y : SiteId, y.val / 10 = x.val / 10 → s.spareFree y = false) ∧
      ∀ y : SiteId, y < u → y.val / 10 = u.val / 10 → s.spareFree y = false) ∧
    (s.sparingSite k = none → (c.checkstop && c.checkstopCore) = false → ∀ b, stays (.coreSparing k b)) ∧
    (∀ x lost, s.sparingSite k = some x → (c.checkstop && c.checkstopCore) = false →
      (c.spareTo.isSome = true → stays (.coreSparing k lost)) ∧
      (c.spareTo = none → Solo s k →
        (∀ u, s.freeSpare x = some u → next (.coreSparing k lost) fun t => t.cr k = rolled ∧ (t.cp k).held = [] ∧
          (t.cp k).spareTo = some u ∧ (t.cp k).ckptLost = lost ∧ (t.cp k).frozen = true ∧ others t ∧ t.bindSt x = bSPARING) ∧
        (s.freeSpare x = none → (∀ n : PairId, s.flag (oCMP_PAIR n) 61 = false ∨ s.follower n = none) → s.lkpSpare = none →
          next (.coreSparing k lost) fun t => (t.cp k).inService = false ∧ t.bindSt x = bFAILED ∧ (t.site x).l2.lines = [] ∧
            t.nv.repair = s.nv.repair ++ [⟨3, BitVec.ofNat 16 x, 0, 2, 2⟩] ∧ t.issuing k = false)) ∧
      ∀ n u, c.spareTo = none → s.pairOf k = some n → s.follower n = some u → next (.coreSparing k lost) fun t =>
        (t.cp k).spareTo = some u ∧ (t.cp k).frozen = true ∧ (t.cp k).ckpt = s.pairs[n].verified ∧ (t.cp k).held = [] ∧
        t.pairs[n].dsb = []) ∧
    (s.sparingSite k = none ∨ c.spareTo = none → stays (.sparingComplete k)) ∧
    (∀ old new, s.sparingSite k = some old → c.spareTo = some new → old ≠ new → Solo s k → s.lkpSpare = none →
      next (.sparingComplete k) fun t => t.bindSt new = bBOUND ∧ t.fld (oCS_BIND new) 11 8 = k ∧ t.bindSt old = bFAILED ∧
        t.fld (oCS_BIND old) 19 16 = 15 ∧ t.nv.repair = s.nv.repair ++ [⟨3, BitVec.ofNat 16 old, 0, 2, 2⟩] ∧
        (t.cp k).frozen = false ∧ (t.cp k).spareTo = none ∧ (t.site old).l2.lines = [] ∧ (t.site old).l1d = [] ∧
        t.reg (oL2_LOCK new) = s.reg (oL2_LOCK old) ∧ t.fld (oCS_CLK new) 7 0 = s.fld (oCS_CLK old) 7 0 ∧
        (∀ j < 64, t.reg (oCS_CDT new j) = s.reg (oCS_CDT old j) ∧ t.reg (oCS_CDT old j) = 0) ∧
        ((t.site new).seq.store.filter fun w => cpCustBase ≤ w.1) = ((s.site old).seq.store.filter fun w => cpCustBase ≤ w.1) ∧
        ((t.site old).seq.store.filter fun w => cpCustBase ≤ w.1) = [] ∧
        (c.haltDue = true → (t.cp k).debugHalt = true) ∧
        (c.ckptLost = false → (t.cp k).ckpt = c.ckpt ∧ t.cr k = { c.ckpt with evpend := (t.cr k).evpend } ∧
          (t.cp k).arith = c.ckptArith) ∧
        (c.ckptLost = true → fresh t (t.entryCap k))) ∧
    (let due := c.checkstop = true ∧ c.checkstopCore = false ∧ c.inService = true ∧ c.frozen = false
     (due → next (.lkpCpRestart k) fun t => fresh t (s.entryCap k) ∧ (t.cp k).retired = 0) ∧
     (¬due → stays (.lkpCpRestart k))) ∧
    -- debug
    ∀ x : SiteId,
      (s.debugOpen (s.sitePart x) = false → stays (.debugHalt x)) ∧
      (s.bindSt x ≠ bBOUND → s.bindSt x ≠ bFOLLOWER → s.bindSt x ≠ bSPARING → stays (.debugHalt x)) ∧
      (s.debugOpen (s.sitePart x) = true → s.fld (oCS_BIND x) 11 8 = k →
        (s.bindSt x = bBOUND → Solo s k → exec (.debugHalt x) s = .next (s.modCp k fun c => { c with debugHalt := true })) ∧
        (s.bindSt x = bSPARING ∨ s.bindSt x = bFOLLOWER ∧ c.spareTo = some x →
          exec (.debugHalt x) s = .next (s.modCp k fun c => { c with haltDue := true })) ∧
        ∀ n : PairId, s.pairOf k = some n → s.pairs[n].testing = false →
          let broken := fun (t : State) => t.pairSt n = pBROKEN ∧ t.pairs[n].dsb = [] ∧
            (s.pairs[n].dsb ≠ [] → t.flag (oCMP_PSTAT n) 9 = true) ∧ t.fld (oCMP_PSTAT n) 57 49 = 0
          (s.bindSt x = bBOUND → next (.debugHalt x) fun t => broken t ∧ (t.cp k).debugHalt = true ∧ t.issuing k = false) ∧
          (s.bindSt x = bFOLLOWER → c.spareTo = none → next (.debugHalt x) fun t => broken t ∧ (t.cp k).debugHalt = c.debugHalt))

/-- Pairs: comparison, release and rollback, the self-test after a fourth disagreement, sync points, suspect comparators and their test,
errors of the delay store buffer, and re-pairing (R285, R286, R287, R288, R289, R291, R292, R293, R295, R297).
Where it rests on the model's choices: assumptions 38, 40, 86. -/
def Obligations.Pairs : Prop :=
  ∀ (s : State) (n : PairId),
    let next := fun (x : Instr) (P : State → Prop) => ∃ t, exec x s = .next t ∧ P t
    let stays := fun (x : Instr) => exec x s = .next s
    let st := s.pairSt n
    let k := s.pairCp n
    let c := s.cp k
    let p := s.pairs[n]
    let stores := ∀ h ∈ p.dsb, ∃ o pol, h = .store o pol
    -- what was taken since the verified checkpoint is pending again
    let again := (logEvents p.log).foldl (fun (w : Word) e => insBits w e.1 e.1 1) c.regs.evpend
    let restored := { p.verified with evpend := insBits again 1 1 p.verArith.isSome.toNat }
    let back := fun (t : State) => t.cr k = restored ∧ (t.cp k).ckpt = p.verified ∧ (t.cp k).arith = p.verArith ∧
      (t.cp k).held = [] ∧ t.pairs[n].dsb = [] ∧ t.pairs[n].ivals = [] ∧ t.pairs[n].log = [] ∧ t.pairs[n].verified = p.verified ∧
      t.fld (oCMP_PSTAT n) 57 36 = 0
    let disagrees := fun (t : State) => back t ∧ t.flag (oCMP_PSTAT n) 8 = true ∧ t.pairs[n].disagreed = p.disagreed + 1 ∧
      t.mem = s.mem ∧ (∀ x, s.siteOf k = some x → t.reg (cSITE x 19) = countBy (s.reg (cSITE x 19)) 1) ∧
      (p.disagreed < 3 → t.pairs[n].testing = p.testing ∧ ∀ x, t.bindSt x = s.bindSt x) ∧
      (3 ≤ p.disagreed → t.pairs[n].testing = true ∧ t.issuing k = false ∧ (∀ x, s.siteOf k = some x → t.bindSt x = bTESTING) ∧
        ∀ u, s.follower n = some u → t.bindSt u = bTESTING)
    let verified := fun (v : Ival) (rest : List Ival) (t : State) => t.pairs[n].dsb = p.dsb.drop v.outs ∧
      t.pairs[n].verified = v.regs ∧ t.pairs[n].verArith = v.arith ∧ t.pairs[n].ivals = rest ∧ t.pairs[n].log = p.log.drop v.logs ∧
      t.pairs[n].disagreed = 0 ∧ (stores → t.cp k = c) ∧
      t.fld (oCMP_PSTAT n) 57 49 = storeCount (p.dsb.drop v.outs) % 2 ^ 9 ∧
      t.fld (oCMP_PSTAT n) 48 36 = (s.fld (oCMP_PSTAT n) 48 36 - v.count) % 2 ^ 13
    let kept := ∀ u, s.follower n = some u → (s.site u).spareDue = false
    -- a checkpoint closes an interval, which waits with its outputs
    (s.executing k = true → c.custInsn = false → s.pairOf k = some n → c.retired ≠ 0 → next (.checkpoint k) fun t =>
      t.pairs[n].ivals = p.ivals ++ [⟨c.held.length, p.log.length - p.logMark, c.retired, c.regs, c.arith⟩] ∧
      t.pairs[n].dsb = p.dsb ++ c.held ∧ t.pairs[n].verified = p.verified ∧ t.cr k = c.regs ∧ (t.cp k).ckpt = c.regs ∧
      (t.cp k).held = [] ∧ t.mem = s.mem) ∧
    -- comparison
    (st ≠ pPAIRED → st ≠ pSUSPECT → ∀ d, stays (.pairIntervalCompare n d)) ∧
    (p.ivals = [] → ∀ d, stays (.pairIntervalCompare n d)) ∧
    (st = pPAIRED → p.testing = true → ∀ d, stays (.pairIntervalCompare n d)) ∧
    (∀ v rest, p.ivals = v :: rest →
      s.pairAgrees n v .same = true ∧
      (s.flag (oCMP_PAIR n) 62 = false → ∀ i x, s.pairAgrees n v (.reg i x) = true) ∧
      ∀ d,
        (st = pSUSPECT → s.pairAgrees n v d = true → stays (.pairIntervalCompare n d)) ∧
        (st = pSUSPECT → s.pairAgrees n v d = false → next (.pairIntervalCompare n d) fun t => Regs s t [oCMP_PSTAT n] ∧
          t.flag (oCMP_PSTAT n) 8 = true) ∧
        (st = pPAIRED → p.testing = false → s.pairAgrees n v d = true →
          (kept → next (.pairIntervalCompare n d) fun t => verified v rest t ∧ (Fresh s → stores →
            let m := s.mem.withHeld (p.dsb.take v.outs)
            t.mem.cells = m.cells ∧ t.mem.poison = m.poison)) ∧
          ∀ u, s.follower n = some u → (s.site u).spareDue = true → (s.siteOf k).isSome = true →
            next (.pairIntervalCompare n d) fun t => t.bindSt u = bFAILED ∧ t.pairSt n = pDEGRADED ∧ (t.cp k).ckpt = v.regs) ∧
        (st = pPAIRED → p.testing = false → s.pairAgrees n v d = false → next (.pairIntervalCompare n d) disagrees)) ∧
    (p.testing = false → ∀ a b, stays (.pairSelfTestDone n a b)) ∧
    (∀ lead fol : SiteId, p.testing = true → s.follower n = some fol → lead ≠ fol → s.bindSt lead = bTESTING → s.fld (oCS_BIND lead) 11 8 = k →
      (∀ x, s.bindSt x = bTESTING → s.fld (oCS_BIND x) 11 8 = k → x = lead ∨ x = fol) →
      (next (.pairSelfTestDone n true true) fun t => (t.cp k).checkstop = true ∧ t.bindSt lead = bBOUND ∧ t.bindSt fol = bFOLLOWER ∧
        t.pairs[n].testing = false) ∧
      (next (.pairSelfTestDone n false true) fun t => t.bindSt lead = bSPARING ∧ (t.cp k).frozen = true ∧ t.bindSt fol = bFOLLOWER ∧
        t.pairs[n].testing = false) ∧
      (s.siteOf k = none → next (.pairSelfTestDone n true false) fun t => t.bindSt lead = bBOUND ∧ t.bindSt fol = bFAILED ∧
        t.nv.repair = s.nv.repair ++ [⟨3, BitVec.ofNat 16 fol, 0, 2, 2⟩] ∧ t.pairSt n = pDEGRADED ∧ t.cr k = restored)) ∧
    -- sync points
    (c.syncWait = none ∨ st ≠ pPAIRED ∨ p.ivals ≠ [] ∨ p.dsb ≠ [] ∨ p.testing = true ∨ c.frozen = true →
      ∀ d, stays (.syncPointPerform ⟨n, d⟩)) ∧
    (∀ w d, c.syncWait = some w → st = pPAIRED → p.ivals = [] → p.dsb = [] → p.testing = false → c.frozen = false →
      let equal := Config.pairSignature (syncOperands w c.regs) = Config.pairSignature (syncOperands w (diffRegs d c.regs))
      (d = .same → equal) ∧
      (¬equal → next (.syncPointPerform ⟨n, d⟩) disagrees) ∧
      ∀ f x, equal → Fresh s → c.held = [] →
      s.pairOf k = some n → s.pairUnverified k = none → s.siteOf k = some x → (s.site x).spareDue = false →
      (s.modCp k fun c => { c with syncWait := none }).issuing k = true → s.fetchCheck k = none → decodeRilel k w = some (.fenceI k f) →
      (Instr.fenceI k f).legal = true → c.regs.holds f.pr = true → c.regs.em = true → next (.syncPointPerform ⟨n, d⟩) fun t =>
        t.cr k = { c.regs with pc := c.regs.pc + 4 } ∧ (t.cp k).syncWait = none ∧ (t.cp k).syncGo = false ∧ t.pairs[n].dsb = [] ∧
        t.pairs[n].ivals = [] ∧ t.pairs[n].verified = t.cr k ∧ t.mem.cells = s.mem.cells ∧ t.mem.poison = s.mem.poison ∧
        t.reg (cSITE x 20) =
          countBy (s.reg (cSITE x 20)) ((s.now - c.syncSince).toNat * s.fld (oCS_CLK x) 23 16 * 25 / 1000)) ∧
    -- comparators
    (∀ u : CompId,
      let m := s.fld (oCMP_UNIT u) 7 4
      let ust := fun (t : State) (v : CompId) => t.fld (oCMP_UNIT v) 2 0
      let entry : RepairEntry := ⟨4, BitVec.ofNat 16 u, 0, 2, 2⟩
      (ust s u ≠ uSERVICE → stays (.comparatorSuspect u)) ∧
      (ust s u = uSERVICE → next (.comparatorSuspect u) fun t => ust t u = uTESTING ∧ t.reg (cDEV 23) = countBy (s.reg (cDEV 23)) 1 ∧
        t = { s with regs := t.regs } ∧
        (∀ h : m < 10, (s.pairSt ⟨m, h⟩ = pPAIRED → t.pairSt ⟨m, h⟩ = pSUSPECT) ∧
          (s.pairSt ⟨m, h⟩ ≠ pPAIRED → t.pairSt ⟨m, h⟩ = s.pairSt ⟨m, h⟩)) ∧
        ∀ o, o ≠ oCMP_UNIT u → o ≠ cDEV 23 → o ≠ oCMP_PSTAT m → t.reg o = s.reg o) ∧
      (ust s u ≠ uTESTING → ∀ b, stays (.comparatorTestDone u b)) ∧
      (ust s u = uTESTING → 10 ≤ m →
        (next (.comparatorTestDone u true) fun t => Regs s t [oCMP_UNIT u] ∧ ust t u = uSPARE) ∧
        next (.comparatorTestDone u false) fun t => ust t u = uFAILED ∧ t.nv.repair = s.nv.repair ++ [entry]) ∧
      (ust s u = uTESTING → m = n.val →
        (next (.comparatorTestDone u true) fun t => ust t u = uSERVICE ∧ t.fld (oCMP_UNIT u) 7 4 = n.val ∧ t.fld (oCMP_PSTAT n) 35 32 = u.val ∧
          (st = pSUSPECT → t.pairSt n = pPAIRED ∧ back t) ∧ (st ≠ pSUSPECT → t.pairSt n = st)) ∧
        next (.comparatorTestDone u false) fun t => ust t u = uFAILED ∧ t.nv.repair = s.nv.repair ++ [entry] ∧
          (∀ v, (s.setFld (oCMP_UNIT u) 2 0 uFAILED).spareCmp = some v → ust t v = uTESTING ∧
            t.fld (oCMP_UNIT v) 7 4 = n.val ∧ t.pairSt n = st) ∧
          ((∀ v, (v = 10 ∨ v = 11) → v ≠ u → ust s v ≠ uSPARE) → t.fld (oCMP_PSTAT n) 35 32 = 15 ∧
            (st = pSUSPECT → t.pairSt n = pUNCOMPARED ∧ t.pairs[n].dsb = [] ∧ t.cr k = restored) ∧
            (st = pFORMING → t.pairSt n = pUNCOMPARED) ∧ (st ≠ pSUSPECT → st ≠ pFORMING → t.pairSt n = st)))) ∧
    -- the delay store buffer
    (s.pairRuns n = false → ∀ b e, stays (.pairLogEccError n b e)) ∧
    (s.pairRuns n = true → (∀ e, next (.pairLogEccError n false e) fun t => back t ∧ t.mem = s.mem ∧ t.pairSt n = st) ∧
      (p.ivals = [] → ∀ e, stays (.pairLogEccError n true e)) ∧
      ∀ v rest, p.ivals = v :: rest →
        (∀ e, v.outs ≤ e → stays (.pairLogEccError n true e)) ∧
        ∀ e o pol, e < v.outs → p.dsb[e]? = some (.store o pol) → kept → next (.pairLogEccError n true e) fun t => verified v rest t ∧
          (stores → Fresh s → s.ringUsed < 512 → s.fld oERR_SPILLSTAT 20 0 = 0 →
            (∀ j, e < j → j < v.outs → ∀ o' pol', p.dsb[j]? = some (.store o' pol') → o'.pa / 8 ≠ o.pa / 8) →
            (t.mem.word (o.pa - o.pa % 8)).poison = true)) ∧
    -- re-pairing
    (∀ i, Manager s i →
      (st < pDEGRADED ∨ pBROKEN < st → next (.pairRepair i n) (Same s)) ∧
      (pDEGRADED ≤ st → st ≤ pBROKEN →
        (s.siteOf k = none ∨ s.cmpForming n = none → ∃ u, Same s u ∧ exec (.pairRepair i n) s = .next (u.accessRecord i (oCMP_PAIR n) true)) ∧
        (∀ x u, s.siteOf k = some x → s.cmpForming n = some u →
          -- a comparator is tested before it is bound
          let tested := fun (t : State) => (s.cmpOf n = some u → t.reg (oCMP_UNIT u) = s.reg (oCMP_UNIT u)) ∧
            (s.cmpOf n ≠ some u → t.fld (oCMP_UNIT u) 2 0 = uTESTING ∧ t.fld (oCMP_UNIT u) 7 4 = n.val)
          ((s.follower n).isSome = true → next (.pairRepair i n) fun t => t.pairs[n] = { p with repairDue := true } ∧ t.pairSt n = st ∧
            tested t) ∧
          (s.follower n = none → (∀ y, s.spareFree y = false) →
            ∃ u, Same s u ∧ exec (.pairRepair i n) s = .next (u.accessRecord i (oCMP_PAIR n) true)) ∧
          (s.follower n = none → ∀ y, s.freeSpare x = some y →
            (∀ z : SiteId, s.fld (oCMP_PAIR n) 4 0 ≠ z.val ∨ s.spareFree z = false) → next (.pairRepair i n) fun t =>
              t.bindSt y = bFOLLOWER ∧ t.fld (oCS_BIND y) 11 8 = k ∧ t.follower n = some y ∧ t.pairs[n] = { p with repairDue := true } ∧
              tested t)))) ∧
    (p.copying = false → stays (.pairRepairCopyDone n)) ∧
    (p.copying = true → next (.pairRepairCopyDone n) fun t => t.pairSt n = pPAIRED ∧ t.fld (oCMP_PSTAT n) 57 36 = 0 ∧
      t.pairs[n] = { Pair.reset with verified := c.regs, verArith := c.arith } ∧ t.cps = s.cps ∧ t.mem = s.mem)

/-! Cache control and main storage. -/

/-- The L2s and the L3: full-cache operations, enabling and disabling, locking, directory and data errors, and the read errors of main
storage (R248, R251, R255, R256, R257, R262, R263, R265, R268, R269, R270).
Where it rests on the model's choices: assumptions 25, 26, 27. -/
def Obligations.CachesAndStorage : Prop :=
  ∀ (s : State) (i : Initiator),
    let next := fun (x : Instr) (P : State → Prop) => ∃ t, exec x s = .next t ∧ P t
    let refused := fun (x : Instr) (off : Nat) => ∃ u, Same s u ∧ exec x s = .next (u.accessRecord i off true)
    let counted := fun (t : State) (c n : Nat) => t.reg c = countBy (s.reg c) n
    let at_ := fun (t : State) (la j : Nat) => t.mem.word (64 * la + 8 * j)
    let older := fun (la : Nat) (ws : List TWord) => s.mem.older.find? (fun x => x.1 = la) = some (la, ws)
    let unspilled := s.ringUsed < 512 ∧ s.fld oERR_SPILLSTAT 20 0 = 0
    -- control registers
    (∀ c : CacheSel, Manager s i →
      let ctl := ctlOff c
      let stat := statOff c
      let kept := fun (t : State) => (∀ x : SiteId, (t.site x).l2 = (s.site x).l2) ∧ t.l3 = s.l3
      let lines := match c with
        | .l2 x => (s.site x).l2.lines
        | .l3 => s.l3Lines
      -- no other enabled cache holds the line dirty
      let sole := fun (la : Nat) => match c with
        | .l2 x => (s.l1dAt x la).dirtyAt la = false ∧ (∀ y, y ≠ x → s.siteDirty y la = false) ∧
            (s.l3On && (s.l3At la).dirtyAt la) = false
        | .l3 => s.dirtyAbove la = false
      (s.closedLoc ctl = true → ∀ x ∈ [Instr.cacheInvalidateAll i c, .cacheFlushAll i c, .cacheDisable i c, .cacheEnable i c],
        exec x s = .next (s.accessRecord i ctl true)) ∧
      (s.closedLoc ctl = false →
        (∀ p ∈ [(Instr.cacheInvalidateAll i c, 1), (.cacheFlushAll i c, 2)],
          (s.flag stat 0 = false → next p.1 fun t => Regs s t [ctl, stat] ∧ t.fld ctl 2 1 = p.2 ∧ t.flag ctl 0 = s.flag ctl 0 ∧
            t.flag stat 0 = true ∧ t.fld stat 3 1 = s.fld stat 3 1) ∧
          (s.flag stat 0 = true → refused p.1 ctl)) ∧
        (s.flag ctl 0 = false → next (.cacheDisable i c) fun t => Regs s t [ctl] ∧ t.flag ctl 0 = false) ∧
        (s.flag ctl 0 = true → next (.cacheDisable i c) fun t => OnlyRegs s t [ctl, stat] ∧ kept t ∧ t.flag ctl 0 = false ∧
          t.flag stat 2 = true ∧ t.flag stat 0 = s.flag stat 0 ∧
          (Fresh s → (∀ l ∈ lines, 64 * l.la + 64 ≤ dataEnd) → ∀ la j, j < 8 → 64 * la + 64 ≤ dataEnd →
            (∀ ws, (∃ l ∈ lines, l.la = la ∧ l.dirty = true) → sole la → older la ws → at_ t la j = ws.getD j TWord.raw0) ∧
            ((∀ l ∈ lines, l.la = la → l.dirty = false) → at_ t la j = at_ s la j))) ∧
        (s.flag ctl 0 = true → next (.cacheEnable i c) fun t => Regs s t [ctl] ∧ t.flag ctl 0 = true) ∧
        (s.flag ctl 0 = false → s.flag stat 2 = false → next (.cacheEnable i c) fun t => OnlyRegs s t [ctl] ∧ kept t ∧ t.flag ctl 0 = true ∧
          (∀ x, c = .l2 x → (s.site x).l2Frozen = [] → t.mem = s.mem)) ∧
        (s.flag ctl 0 = false → s.flag stat 2 = true → next (.cacheEnable i c) fun t => kept t ∧ t.flag ctl 0 = true ∧
          t.flag stat 3 = true ∧
          (∀ x, c = .l2 x → counted t (cSITE x 17) 1 ∧
            ∀ p ∈ (s.site x).l2Frozen, ((s.site x).l2Frozen.map (·.1)).Nodup →
              (∃ l, lines.find? (fun l => l.la == p.1) = some l ∧ l.dirty = true) → sole p.1 → (∀ q ∈ (s.site x).l2Frozen, 64 * q.1 + 64 ≤ dataEnd) → ∀ j < 8, at_ t p.1 j = p.2.getD j TWord.raw0) ∧
          (c = .l3 → ∀ k : Fin 32, counted t (cL3 k 5) 1)))) ∧
    (∀ c : CacheSel,
      let stat := statOff c
      let done := fun (t : State) => t.flag stat 0 = false ∧ t.flag stat 2 = false ∧ t.fld (ctlOff c) 2 1 = 0
      (s.flag stat 0 = false → exec (.fullCacheOpDone c) s = .next s) ∧
      (s.flag stat 0 = true → ∀ x, c = .l2 x → next (.fullCacheOpDone c) fun t => done t ∧ (t.site x).l2.lines = [] ∧ t.l3 = s.l3 ∧
        (∀ set way l, s.entryAt (.l2 x) set way = some l →
          t.entryAt (.l2 x) set way = if l.resv = true then some l else if s.l2Locked x way = true then some ⟨l.la, false, true⟩ else none) ∧
        (s.l2On x = true → s.fld (ctlOff c) 2 1 = 2 → t.mem.cells = s.mem.cells ∧ t.mem.poison = s.mem.poison ∧
          ∀ l ∈ (s.site x).l2.lines, s.siteDirty x l.la = true → ∀ y ∈ t.mem.older, y.1 ≠ l.la) ∧
        (s.l2On x = true → s.fld (ctlOff c) 2 1 ≠ 2 → (∀ l ∈ (s.site x).l2.lines, 64 * l.la + 64 ≤ dataEnd) →
          ∀ l ∈ (s.site x).l2.lines, s.siteDirty x l.la = true → ∀ ws, older l.la ws → ∀ j < 8, at_ t l.la j = ws.getD j TWord.raw0)) ∧
      (s.flag stat 0 = true → c = .l3 → next (.fullCacheOpDone c) fun t => done t ∧ (∀ k : Fin 32, t.l3[k].lines = []) ∧
        ∀ x, (t.site x).l2 = (s.site x).l2 ∧ (t.site x).l1d = (s.site x).l1d ∧ (t.site x).l1i = (s.site x).l1i)) ∧
    -- locking
    (Manager s i →
      (∀ (x : SiteId) (v : Word), s.closedLoc (oL2_LOCK x) = false → bits v 63 32 = 0 →
        (12 < onesIn v 15 0 → refused (.l2LockWrite i x v) (oL2_LOCK x)) ∧
        (onesIn v 15 0 ≤ 12 → next (.l2LockWrite i x v) fun t => OnlyRegs s t [oL2_LOCK x] ∧ t.fld (oL2_LOCK x) 31 0 = bits v 31 0 ∧
          t.mem = s.mem ∧ t.l3 = s.l3 ∧ ∀ set way, way < 16 → t.entryAt (.l2 x) set way =
            (s.entryAt (.l2 x) set way).bind fun l => if l.resv = true ∧ bit v way = false then none else some l)) ∧
      ∀ (n : PartId) (v : Word), bits v 63 48 = 0 →
        let ok := (∀ b < 16, bit v (16 + b) = true → bit v b = true) ∧
          (bits v 15 0 = 0 ∨ 4 ≤ (List.range 16).countP fun b => bit v b && !bit v (16 + b))
        (¬ok → refused (.l3maskWrite i n v) (oPRT_L3MASK n)) ∧
        (ok → next (.l3maskWrite i n v) fun t => OnlyRegs s t [oPRT_L3MASK n] ∧ t.fld (oPRT_L3MASK n) 47 0 = bits v 47 0 ∧ t.mem = s.mem ∧
          t.sites = s.sites ∧ ∀ (k : Fin 32) set way, t.entryAt (.l3 k) set way =
            (s.entryAt (.l3 k) set way).bind fun l => if l.resv = true ∧ t.l3Locked way = false then none else some l)) ∧
    -- errors of the caches
    (∀ (c : CacheRef) (set : Nat) (way : Fin 16) (lost : Bool),
      let e := s.entryAt c set way
      let pend := fun (t : State) (who : PartId → Prop) => ∀ k : CpId,
        ((∃ n, s.partOf k = some n ∧ who n) → bit (t.cr k).evpend 0 = true) ∧ ((∀ n, s.partOf k = some n → ¬who n) → t.cp k = s.cp k)
      (e = none → next (.dirParityError c set way lost) fun t => counted t (cacheCounter c 13 1) 1 ∧ t.sites = s.sites ∧ t.l3 = s.l3 ∧
        t.cps = s.cps) ∧
      (∀ l, e = some l → l.resv = true → next (.dirParityError c set way lost) fun t => counted t (cacheCounter c 13 1) 1 ∧
        t.sites = s.sites ∧ t.l3 = s.l3 ∧ t.cps = s.cps) ∧
      (∀ l, e = some l → l.resv = false → l.dirty = false → next (.dirParityError c set way lost) fun t =>
        counted t (cacheCounter c 13 1) 1 ∧ t.cps = s.cps ∧ t.freeCtr = s.freeCtr ∧
        t.entryAt c set way = if s.lockedIn c way = true then some ⟨l.la, false, true⟩ else none) ∧
      (∀ l, e = some l → l.resv = false → l.dirty = true →
        let gone := fun (t : State) => counted t (cacheCounter c 14 2) 1 ∧
          t.entryAt c set way = if s.lockedIn c way = true then some ⟨l.la, false, true⟩ else none
        (lost = false → next (.dirParityError c set way lost) fun t => gone t ∧ t.freeCtr = s.freeCtr ∧
          (64 * l.la + 64 ≤ dataEnd →
            (s.arrayOn c = true → unspilled → ∀ j < 8, (at_ t l.la j).poison = true ∧ (at_ t l.la j).data = (at_ s l.la j).data) ∧
            pend t fun n => s.partMaps n (64 * l.la / 2 ^ 21) = true)) ∧
        (lost = true → next (.dirParityError c set way lost) fun t => gone t ∧ t.freeCtr = s.freeCtr + 2 ∧
          pend t fun n => match c with
            | .l3 _ => s.flag (oPRT_L3MASK n) way = true
            | _ => s.cachePart c = some n)) ∧
      ∀ word : Fin 8,
        (next (.cacheDataError (.cache c) set way word false) fun t => counted t (cacheCounter c 15 3) 1 ∧ t.sites = s.sites ∧
          t.l3 = s.l3 ∧ t.cps = s.cps ∧ t.freeCtr = s.freeCtr) ∧
        next (.cacheDataError (.cache c) set way word true) fun t => counted t (cacheCounter c 16 4) 1 ∧ t.cps = s.cps ∧
          (∀ set way, t.entryAt c set way = s.entryAt c set way) ∧
          ∀ l, e = some l → l.resv = false → s.arrayOn c = true →
            (l.dirty = true → (match c with | .l1i _ => False | .l3 _ => s.dirtyAbove l.la = false | _ => True) →
              (at_ t l.la word).poison = true ∧ (unspilled → ∀ j < 8, j ≠ word.val → at_ t l.la j = at_ s l.la j)) ∧
            -- a clean copy is bad where it stands, and nowhere else
            (l.dirty = false → ∀ x, (c = .l1d x ∨ c = .l2 x) → (unspilled → t.mem.cells = s.mem.cells ∧ t.mem.poison = s.mem.poison) ∧
              (c = .l1d x → (s.l1View x l.la).length = 8 → ((t.l1View x l.la).getD word TWord.raw0).poison = true) ∧
              (c = .l2 x → (s.l2View x l.la).length = 8 → ((t.l2View x l.la).getD word TWord.raw0).poison = true))) ∧
    -- errors of the other arrays
    (∀ (set : Nat) (way : Fin 16) (word : Fin 8),
      (∀ c : ArrayRef, (∀ x, c ≠ .cache x) → (∀ x, c ≠ .rlb x) → exec (.cacheDataError c set way word false) s = .next s) ∧
      (∀ k : CpId, exec (.cacheDataError (.gfile k) set way word true) s = .next (s.modRegs k fun r =>
          r.setG (BitVec.ofNat 5 set) { r.gr (BitVec.ofNat 5 set) with poison := true })) ∧
      (∀ (x : SiteId) b l, ((s.site x).rlb.set? 8 set).ways.getD way none = some l →
        next (.cacheDataError (.rlb x) set way word b) fun t => l.la ∈ (t.site x).rlbBad ∧ (t.site x).rlb = (s.site x).rlb ∧
          t = { s with sites := t.sites } ∧ ∀ y, y ≠ x → t.site y = s.site y) ∧
      (∀ (n : Fin 4) l, ((s.tagCache[n]).set? 16 set).ways.getD way none = some l →
        let la := 8 * l.la + word
        (∀ y ∈ s.mem.older, y.1 ≠ la) → s.inL3 la = false →
          next (.cacheDataError (.tags n) set way word true) fun t => (∀ j < 8, (at_ t la j).poison = true) ∧ t.mem.cells = s.mem.cells) ∧
      (∀ e : UnitId, exec (.cacheDataError (.sram e) set way word true) s = .next (s.engineFault e .workStore 0 (s.eng e).seq.ctxNo)) ∧
      ∀ (u : UnitId) p, (s.jn u).pool[way.val]? = some p → 8 * (8 * set + word) < p.1.len →
        exec (.cacheDataError (.staging u) set way word true) s =
          .next { s with mem := s.mem.setPoison (journalBase + p.1.doff + 8 * (8 * set + word)) true }) ∧
    -- main storage
    (∀ (pa : BitVec 40),
      let p := pa.toNat
      -- a tag line lies in the stack of its data block
      let q := if dataEnd ≤ p ∧ p < dataEnd + dataEnd / 8 then 64 * ((p - dataEnd) / 8) else p
      let n := (q / 2 ^ 9 % 4) ^^^ (q / 2 ^ 21 % 4)
      let la := if dataEnd ≤ p then (p - dataEnd) / 8 else p / 64
      let held := fun (la : Nat) => (∃ y ∈ s.mem.older, y.1 = la) ∨ s.inL3 la = true
      (storageEnd ≤ p → ∀ e, exec (.hbmReadError pa e) s = .fault .noStorage) ∧
      (p < storageEnd →
        (∀ e ∈ [HbmError.single, .data true, .tag true], next (.hbmReadError pa e) fun t => Regs s t [cMSC n 0] ∧ counted t (cMSC n 0) 1) ∧
        (∀ (f : Fin 4) w b, f.val < 3 → next (.hbmReadError pa (.link f w b)) fun t => Regs s t [cMSC n 2] ∧ counted t (cMSC n 2) (f.val + 1)) ∧
        (∀ w, next (.hbmReadError pa (.link 3 w true)) fun t => Regs s t [cMSC n 0, cMSC n 2] ∧ counted t (cMSC n 0) 1 ∧
          counted t (cMSC n 2) 3) ∧
        (∀ e ∈ [HbmError.data false, .link 3 false false], next (.hbmReadError pa e) fun t => counted t (cMSC n 1) 1 ∧ t.cps = s.cps ∧
          t.freeCtr = s.freeCtr ∧ (e = .link 3 false false → counted t (cMSC n 2) 3) ∧
          (unspilled →
            (¬held (p / 64) →
              ∀ a, t.mem.word a = if a = p - p % 8 then { s.mem.word a with poison := true } else s.mem.word a) ∧
            -- a copy that a cache holds stays good
            (held (p / 64) → t.mem.cells = s.mem.cells ∧ t.mem.poison = s.mem.poison))) ∧
        ∀ e ∈ [HbmError.tag false, .link 3 true false], next (.hbmReadError pa e) fun t => counted t (cMSC n 1) 1 ∧ t.cps = s.cps ∧
          t.freeCtr = s.freeCtr + 1 ∧ (e = .link 3 true false → counted t (cMSC n 2) 3) ∧
          (¬held la → ∀ j < 8, (at_ t la j).poison = true))) ∧
    ∀ k m, exec (.patrolScrub k m) s = .next s

/-! Channel programs. -/

/-- The fetch of a channel command: the four words are read under the program's capability and region table; a command that
breaks a rule completes with the status and subcode of R310, R311, R318 and R319 and nothing moves; the others stand fetched, a
tick-bound SEND with its bytes reserved (R303, R307, R308, R309, R310, R311, R318, R319, R323). What a fetched command begins, and how commands complete: JUMP and NOP at once, WAITT when its target is numbered, SYNC when every
frame the program sent is acknowledged; a SEND is staged, cut into frames and, when tick-bound, sealed for its tick; a RECV is posted;
an XFORM starts its job; the record is posted where one is due, or the program stalls on a full ring (R309, R312, R313, R314, R315,
R317, R318, R322, R326, R327, R328, R329, R330, R332).
Where it rests on the model's choices: assumptions 41, 43, 44, 49, 89. -/
def Obligations.CommandResults : Prop :=
  (∀ (s : State) (e : UnitId) (x : CtxId), s.ceFree e = true → KeysCalm s →
     (∀ p q, (s.eng e).queue = p :: q → q.length < 64 → s.ctx e x = none → (∀ y, y < x → s.ctx e y ≠ none) →
       (s.flag (oCE_CTL e) 8 = false → ∃ t, exec (.programDispatch e) s = .next t ∧ OnlyRegs s t [oCE_STAT e] ∧
         (t.ctx e x).map (fun d => (d.prog, d.phase, d.jumps)) = some (p, .fetch, 0) ∧ (t.eng e).queue = q ∧
         (∀ y, y ≠ x → t.ctx e y = s.ctx e y) ∧ (∀ j, j ≠ e → t.eng j = s.eng j) ∧ t.fld (oCE_STAT e) 23 16 = q.length ∧
         t = { s with regs := t.regs, engines := t.engines }) ∧
       (s.flag (oCE_CTL e) 8 = true → q = [] →
         2 ≤ (s.eng e).ctx.toList.countP (fun d => match d with | some d => decide (d.prog.part = p.part) | none => false) →
         exec (.programDispatch e) s = .next s)) ∧
     (∀ c, s.ctx e x = some c → s.mayWork e c.prog.part false = false → exec (.cmdFetch e x) s = .next s) ∧
     (∀ c, s.ctx e x = some c → c.phase = .fetch → s.mayWork e c.prog.part false = true →
       let p := c.prog
       let a := p.addr.toNat
       let ws := s.dmaWords p.part a 4
       let w := fun i => (ws.getD i TWord.raw0).data
       let no := (s.eng e).nextFetch
       let f := c.fetchedAt ws s.tickNum (s.eng e).offset no
       let holds := fun (d : Ctx) (resv : List TbFetch) => ∃ t, exec (.cmdFetch e x) s = .next t ∧
         EngTo s t e { s.eng e with nextFetch := no + 1, ctx := (s.eng e).ctx.set x (some d), resv := resv }
       let stands := fun (d : Ctx) => holds d (s.eng e).resv
       let ends := fun (st sub : Nat) => stands { f with phase := .done st sub }
       let refused := fun (st sub : Nat) => ∃ t d, exec (.cmdFetch e x) s = .next t ∧ t = { s with engines := t.engines } ∧
         t.ctx e x = some d ∧ d.prog = p ∧ d.phase = .done st sub ∧ ∀ y, y ≠ x → t.ctx e y = s.ctx e y
       let op := bits (w 0) 7 0
       let ep := bits (w 0) 13 8
       let clean := bits (w 0) 31 25 = 0 ∧ bits (w 0) 15 14 = 0
       let fs := bits (w 2) 63 48
       (∀ k, p.cap.check p.addr 32 pLOAD = some k → refused 5 k) ∧
       (p.cap.check p.addr 32 pLOAD = none → a % 32 = 0 → ∀ k, s.xlate p.part p.addr false = .region k → refused 6 k) ∧
       (s.dmaCheck p.part p.cap pLOAD a 32 false = .ok () → s.dmaReadable p.part a 32 = .ok () →
         ((∃ y ∈ ws, y.tag ≠ tagRAW ∧ y.tag ≠ tagFIX) → ends 7 7) ∧
         ((∀ y ∈ ws, y.tag = tagRAW ∨ y.tag = tagFIX) →
           (op ∉ [0x01, 0x02, 0x03, 0x08, 0x09, 0x0A, 0x0B] → op < 0x40 ∨ 0x4F < op → ends 7 1) ∧
           (op = 0x0A ∨ op = 0x0B → w 1 = 0 → w 2 = 0 → w 3 = 0 →
             (w 0 &&& ~~~0x1900FF#64 = 0 → stands { f with phase := .fetched }) ∧
             (w 0 &&& ~~~0x1FF00FF#64 ≠ 0 → ends 7 3) ∧
             (w 0 &&& ~~~0x1FF00FF#64 = 0 → w 0 &&& ~~~0x1900FF#64 ≠ 0 → ends 7 4)) ∧
           (op = 0x08 → w 0 &&& ~~~0x1800FF#64 = 0 → w 2 = 0 → w 3 = 0 →
             (bits (w 1) 4 0 ≠ 0 → ends 7 8) ∧ (bits (w 1) 4 0 = 0 → stands { f with phase := .fetched })) ∧
           (op = 0x01 → clean → w 3 = 0 → bits (w 0) 22 21 = 0 → e.val < 8 →
             (bits (w 0) 18 17 = 0 → bits (w 2) 47 0 = 0 →
               (fs = 0 ∨ 8192 < fs → ends 7 5) ∧
               (1 ≤ fs → fs ≤ 8192 →
                 (s.epOwnerNow e ep ≠ p.part.val → ends 10 0) ∧
                 (s.epOwnerNow e ep = p.part.val → stands { f with phase := .fetched }))) ∧
             (bits (w 0) 18 17 = 2 → bits (w 2) 47 0 = 0 → 1 ≤ fs → fs ≤ 8192 → ends 7 4) ∧
             (bit (w 0) 17 = true → 1 ≤ fs → fs ≤ 8192 →
               let T := if bit (w 0) 18 = true then (bits (w 2) 47 0 + s.tickNum) % 2 ^ 48 else bits (w 2) 47 0
               let g := { f with target := T }
               let kib := bits (s.cfgNow (oCE_RESV e p.part)) 31 8
               let count := bits (w 0) 63 32
               let fetched := fun (ok : Bool) => (s.eng e).resv ++ [⟨no, p, ep, T, (s.eng e).offset, count, fs, ok⟩]
               (p.cap.grants pTICK = false → ends 5 4) ∧
               (p.cap.grants pTICK = true → s.epOwnerNow e ep = p.part.val →
                 (s.commitPassed T = true → stands { g with phase := .done 3 0 }) ∧
                 (s.commitPassed T = false →
                   (kib * 1024 < s.resvBytes e p.part T + count → holds { g with phase := .done 8 0 } (fetched false)) ∧
                   (s.resvBytes e p.part T + count ≤ kib * 1024 → holds { g with phase := .fetched } (fetched true)))))))))) ∧
  (∀ (s : State) (e : UnitId) (x : CtxId) (c : Ctx), s.ctx e x = some c → KeysCalm s →
     let p := c.prog
     let n := p.part
     let stands := fun (i : Instr) (d : Ctx) => ∃ t, exec i s = .next t ∧ InCtx s t e x (some d)
     let done0 := { c with phase := .done 0 0 }
     -- the engine after the context had its turn
     let g0 := (s.noteTurn e x).eng e
     let turned := fun (i : Instr) (g : Engine) => ∃ t, exec i s = .next t ∧ t = { s with engines := t.engines } ∧
       (∀ j, j ≠ e → t.eng j = s.eng j) ∧ t.eng e = g
     let turns := fun (i : Instr) (d : Ctx) => turned i { g0 with ctx := g0.ctx.set x (some d) }
     let begins := fun (d : Ctx) => if c.fTb = true then stands (.cmdSend e x) d else turns (.cmdSend e x) d
     (s.ceFree e = true → c.phase = .fetched → c.seqs = [] →
       -- a staging that is due goes first
       (s.anyStaging e = true → ∀ i ∈ [Instr.cmdJump e x, .cmdNop e x, .cmdWaitt e x, .cmdSync e x, .cmdRecv e x, .cmdXform e x],
         exec i s = .next s) ∧
       (c.op = 0x01 → (if c.fTb = true then s.mayWork e n true = true else s.mayWork e n false = true ∧ s.otherTurn e x = true) →
         (c.fXf = false ∨ s.chainCheck c = 0 → begins { c with phase := .staging }) ∧
         (c.fXf = true → s.chainCheck c ≠ 0 → begins { c with phase := .done 9 (s.chainCheck c) })) ∧
       (s.mayWork e n (c.op == 9) = true → s.otherTurn e x = true →
         (c.op = 0x08 → turns (.cmdJump e x) done0) ∧
         (c.op = 0x0B → turns (.cmdNop e x) done0) ∧
         (c.op = 0x09 → turns (.cmdWaitt e x) { c with phase := .waiting }) ∧
         (c.op = 0x0A → turns (.cmdSync e x) { c with phase := .waiting }) ∧
         (c.op = 0x02 → s.recvBefore e c = true → exec (.cmdRecv e x) s = .next s) ∧
         (∀ h : e.val < 8, c.op = 0x02 → c.fXf = false → s.recvBefore e c = false → (s.port ⟨e, h⟩).pool = [] →
           turned (.cmdRecv e x) { g0 with ctx := g0.ctx.set x (some { c with phase := .posted }), posted := g0.posted ++ [x.val] }) ∧
         (c.op = 0x02 → e.val = 8 → c.fXf = false → s.recvBefore e c = false → turns (.cmdRecv e x) { c with phase := .routine }) ∧
         (∀ g gs, c.op = 0x03 → s.chainCheck c = 0 → c.stages = g :: gs →
           s.dmaCheck n p.cap pLOAD (c.w 1).toNat c.count false = .ok () → s.dmaReadable n (c.w 1).toNat c.count = .ok () →
           ∃ t, exec (.cmdXform e x) s = .next t ∧ EngTo s t e { g0 with ctx := g0.ctx.set x (some
             { c with phase := .job, bytes := c.count, stages := { g with inp := s.dmaBytes n (c.w 1).toNat c.count } :: gs }) }))) ∧
     (s.ceFree e = true → c.phase = .staging →
       let T := s.effTarget e c.target c.offAt
       (s.mayWork e n c.fTb = false → exec (.sendStaging e x) s = .next s) ∧
       (c.fTb = true → s.stagedBefore e c = true → exec (.sendStaging e x) s = .next s) ∧
       (c.fTb = true → s.commitPassed T = false → seqAfter ((T + 2 ^ 48 - s.lookahead e) % 2 ^ 48) s.tickNum = true →
         exec (.sendStaging e x) s = .next s) ∧
       (s.mayWork e n c.fTb = true → (if c.fTb = true then s.stagedBefore e c = false else s.anyStaging e = false) →
         let open_ := c.fTb = true → s.commitPassed T = false ∧ seqAfter ((T + 2 ^ 48 - s.lookahead e) % 2 ^ 48) s.tickNum = false
         (c.fTb = true → s.commitPassed T = true → c.seqs = [] → stands (.sendStaging e x) { c with phase := .done 3 0 }) ∧
         (open_ → s.mirrorRoom e c.count = false → exec (.sendStaging e x) s = .next (s.mirrorBack c.count)) ∧
         (s.mirrorRoom e c.count = true →
           s.dmaCheck n p.cap pLOAD (c.w 1).toNat c.count false = .ok () → s.dmaReadable n (c.w 1).toNat c.count = .ok () →
           let data := s.dmaBytes n (c.w 1).toNat c.count
           (c.fTb = true → open_ → c.stages = [] →
             ∀ u ps, (s.dmaTouch n (c.w 1).toNat c.count).stageAll e (cutFrames c.fsize data) = some (u, ps) →
               ∃ t, exec (.sendStaging e x) s = .next t ∧
                 ps.length = (cutFrames c.fsize data).length ∧ (t.eng e).sealedCmds = (s.eng e).sealedCmds ++
                   [⟨x, p, c.ep, c.target, c.offAt, ps, c.fetchNo⟩] ∧
                 t.ctx e x = some { c with phase := .sealedCmd, staged := ps, bytes := c.count, frames := ps.length } ∧
                 t.mem = u.mem ∧ t.jnl = u.jnl ∧ t.regs = u.regs) ∧
           (∀ g gs, c.fTb = false → c.stages = g :: gs → g.ran = false → ∃ t, exec (.sendStaging e x) s = .next t ∧
             EngTo s t e { s.eng e with ctx := (s.eng e).ctx.set x (some
               { c with got := data, phase := .job, stages := { g with inp := data } :: gs }) })) ∧
         (∀ k, c.stages = [] → c.fTb = false → s.mirrorRoom e c.count = true → c.count ≠ 0 → p.cap.check (c.w 1) c.count pLOAD = some k →
           ∃ t, exec (.sendStaging e x) s = .next t ∧ (t.ctx e x).map (·.phase) = some (.done 5 k) ∧ t.mem = s.mem))) ∧
     (s.ceState e ≠ ceRECOVERING → s.ceState e ≠ ceOFF →
       let quietCmd := c.fIrq = false ∧ c.fRec = false
       let posted := (s.eng e).posted
       let on := fun (a : Word) (j : Nat) => ∃ t, exec (.commandComplete e x) s = .next t ∧
         t = { s with engines := t.engines } ∧ (∀ j, j ≠ e → t.eng j = s.eng j) ∧
         t.eng e = { s.eng e with
           ctx := (s.eng e).ctx.set x (some (c.goesTo a j))
           posted := posted.filter (· ≠ x.val) }
       (c.phase = .done 0 0 → quietCmd → c.op ≠ 0x08 → c.fChain = true → on (p.addr + 32) 0) ∧
       (c.phase = .done 0 0 → quietCmd → c.op = 0x08 → c.jumps < 63 → on (c.w 1) (c.jumps + 1)) ∧
       (c.phase = .waiting → c.op = 0x09 → quietCmd → c.fChain = true →
         seqAfter (s.effTarget e c.target c.offAt) s.tickNum = false → on (p.addr + 32) 0) ∧
       (c.phase = .waiting → c.op = 0x09 → seqAfter (s.effTarget e c.target c.offAt) s.tickNum = true →
         exec (.commandComplete e x) s = .next s) ∧
       (∀ st sub, c.phase = .done st sub → st < 256 → sub < 256 →
         (st ≠ 0 ∧ ¬(st = 1 ∧ c.fSli = true) ∨ c.fChain = false ∧ c.op ≠ 0x08) → s.ringWait[n] = [] →
         let tick := if c.op = 1 ∧ c.seqs ≠ [] then c.tick else s.tickNum
         let rec_ := c.record e true st sub tick
         let at_ : Word := BitVec.ofNat 64 (s.ringSlot n)
         let pa := s.dmaPa n (s.ringSlot n)
         let phase : Word := if (s.fld (oPRT_CRIDX n) 31 0).testBit (s.ringOrder n) then 0x8000000000000000 else 0
         (s.ringRoom n = true → ∃ t, exec (.commandComplete e x) s = .next t ∧ t.ctx e x = none ∧
           t.fld (oPRT_CRIDX n) 31 0 = (s.fld (oPRT_CRIDX n) 31 0 + 1) % 2 ^ 32 ∧
           (∀ y, y ≠ x → t.ctx e y = s.ctx e y) ∧ (t.eng e).queue = (s.eng e).queue ∧
           (Fresh s → s.rdtAddr n (at_.toNat / 2 ^ 21) + 8 ≤ dataEnd →
             s.rdtAddr n (at_.toNat / 2 ^ 21) + 8 ≤ pa ∨ pa + 32 ≤ s.rdtAddr n (at_.toNat / 2 ^ 21) →
             t.mem.raws pa 4 = (rec_.words.headD 0 ||| phase) :: rec_.words.drop 1)) ∧
         (s.ringRoom n = false → ∃ t, exec (.commandComplete e x) s = .next t ∧
           t.ctx e x = some { c with phase := .stalled rec_ false } ∧ Regs s { t with engines := s.engines } [cUNIT e 4] ∧
           t.reg (cUNIT e 4) = countBy (s.reg (cUNIT e 4)) 1) ∧
         (rec_.words.length = 4 ∧ rec_.irq = true ∧ bits (rec_.words.getD 0 0) 7 0 = st ∧
           bits (rec_.words.getD 0 0) 15 8 = sub ∧ bits (rec_.words.getD 0 0) 19 16 = e.val ∧
           bits (rec_.words.getD 0 0) 47 32 = p.pgm.toNat ∧ bit (rec_.words.getD 0 0) 27 = true ∧
           bit (rec_.words.getD 0 0) 26 = p.unv ∧ bit (rec_.words.getD 0 0) 30 = p.db ∧
           bits (rec_.words.getD 0 0) 55 48 = p.sidx.toNat ∧ rec_.words.getD 1 0 = p.addr))) ∧
     (∀ r, c.phase = .stalled r true →
       (s.ringWait[n] ≠ [] ∨ s.ringRoom n = false → exec (.stalledRecordPost e x) s = .next s) ∧
       (s.ringWait[n] = [] → s.ringRoom n = true → c.op ≠ 0x08 → ∃ t, exec (.stalledRecordPost e x) s = .next t ∧
         t.ctx e x = some (c.goesTo (p.addr + 32) 0) ∧
         t.fld (oPRT_CRIDX n) 31 0 = (s.fld (oPRT_CRIDX n) 31 0 + 1) % 2 ^ 32)))

/-- CE_CTL.RUN and DRAIN, doorbells and cancellation: the state that each leaves, who is refused, and the records that
cancelled programs post (R80, R300, R302, R303, R305, R306, R331, R337, R339). An engine fault is counted, takes a working engine to RECOVERING with its sequencer cleared, and a third one within a second
retires the engine; the restart takes it back, the programs going on where R338 says (R221, R230, R335, R338, R339, R340).
Where it rests on the model's choices: assumptions 41, 42, 43, 48. -/
def Obligations.EngineResults : Prop :=
  (∀ (s : State) (i : Initiator) (e : UnitId), Manager s i → s.fld (oNI (56 + e) 0) 1 0 = 0 →
     let g := s.eng e
     let st := s.ceState e
     let none_ := g.queue = [] ∧ ∀ x, s.ctx e x = none
     (g.retired = true → ∃ u, Regs s u [oCE_CTL e] ∧ u.flag (oCE_CTL e) 0 = false ∧
       exec (.engineRun i e) s = .next (u.accessRecord i (oCE_CTL e) true)) ∧
     (g.retired = false → st = ceSTOPPED → s.roleRuns = true → ∃ t, exec (.engineRun i e) s = .next t ∧
       Regs s t [oCE_CTL e, oCE_STAT e] ∧ t.flag (oCE_CTL e) 0 = true ∧ t.ceState e = ceRUNNING) ∧
     (g.retired = false → st = ceOFF → ∃ t, exec (.engineRun i e) s = .next t ∧ Regs s t [oCE_CTL e] ∧
       t.flag (oCE_CTL e) 0 = true) ∧
     (g.retired = false → st = ceRUNNING → s.flag (oCE_CTL e) 0 = true →
       (none_ → ∃ t, exec (.engineDrain i e) s = .next t ∧ Regs s t [oCE_CTL e, oCE_STAT e] ∧ t.ceState e = ceSTOPPED ∧
         t.flag (oCE_CTL e) 1 = false) ∧
       (¬none_ → ∃ t, exec (.engineDrain i e) s = .next t ∧ Regs s t [oCE_CTL e, oCE_STAT e] ∧ t.ceState e = ceDRAINING ∧
         t.flag (oCE_CTL e) 1 = true)) ∧
     -- a 1 written to DRAIN sets it in every state; draining begins in RUNNING
     (st = ceSTOPPED → s.flag (oCE_CTL e) 0 = false → ∃ t, exec (.engineDrain i e) s = .next t ∧ Regs s t [oCE_CTL e] ∧
       t.flag (oCE_CTL e) 1 = true ∧ t.flag (oCE_CTL e) 0 = false) ∧
     (s.ceWorks e = true → s.flag (oCE_CTL e) 0 = true → none_ → ∃ t, exec (.engineStop i e) s = .next t ∧
       OnlyRegs s t [oCE_CTL e, oCE_STAT e] ∧ t = { s with regs := t.regs, engines := t.engines } ∧
       (∀ j, j ≠ e → t.eng j = s.eng j) ∧ t.eng e = { g with stopDue := false } ∧
       t.ceState e = ceSTOPPED ∧ t.flag (oCE_CTL e) 0 = false) ∧
     (st = ceRECOVERING → s.flag (oCE_CTL e) 0 = true → ∃ t, exec (.engineStop i e) s = .next t ∧
       OnlyRegs s t [oCE_CTL e] ∧ t.flag (oCE_CTL e) 0 = false ∧ t.eng e = { g with stopDue := true } ∧
       t = { s with regs := t.regs, engines := t.engines }) ∧
     (∀ (n : PartId) (v : Word),
       let idx : Byte := BitVec.ofNat 8 (bits v 7 0)
       let cnt := min 256 (s.fld (oPRT_CSTART n) 8 0)
       let ea := s.fld (oPRT_CSTART n) 63 13 * 8192 + 32 * idx.toNat
       let ws := s.dmaWords n ea 4
       let w := fun i => ws.getD i TWord.raw0
       let num := fun (y : TWord) => y.tag = tagRAW ∨ y.tag = tagFIX
       -- the entry is read through the caches
       let refuses := fun (unit sub : Nat) (f : State → State) => ∃ v' u, Same s v' ∧ CacheOnly v' u ∧
         exec (.doorbell i n v) s = .next ((f u).ringPost n
           (mkCRec idx 0 true false true false 0 unit sub 0x10 0 0 0 s.tickNum true))
       let refused := fun (unit sub : Nat) => refuses unit sub id
       v.toNat < 256 →
       (cnt ≤ idx.toNat → refused 0xF 5) ∧
       -- a word that cannot be read leaves a record
       (idx.toNat < cnt → s.dmaMap n ea 32 false = .ok () → (w 0).poison = true → tagReserved (w 0).tag = false →
         (w 3).poison = false → tagReserved (w 3).tag = false → bits (w 3).data 3 0 = e.val → refuses e 4 fun u =>
           u.record (mkRec 3 (0x48 + e) 0xF010 (some n) none (BitVec.ofNat 64 (s.dmaPa n ea)) 0 (BitVec.ofNat 64 e.val))) ∧
       (∀ cap, idx.toNat < cnt → s.dmaMap n ea 32 false = .ok () → (∀ y ∈ ws, y.poison = false ∧ tagReserved y.tag = false) →
         (w 3).data.toNat = e.val → Cap.ofPair (w 0) (w 1) = some cap → num (w 2) → num (w 3) → (w 2).data.toNat % 32 = 0 →
         (cap.check (w 2).data 32 (pPORT ||| pLOAD) ≠ none → refused e 4) ∧
         (cap.check (w 2).data 32 (pPORT ||| pLOAD) = none →
           let owns := ∃ ep, ep < 64 ∧ s.epOwnerNow e ep = n.val
           let mine := g.queue.countP fun p => p.part = n
           (¬owns → refused e 3) ∧
           (owns → st ≠ ceRUNNING ∨ s.roleRuns = false → refused e 2) ∧
           (owns → st = ceRUNNING → s.roleRuns = true → 8 ≤ mine → refused e 1) ∧
           (owns → st = ceRUNNING → s.roleRuns = true → mine < 8 → ∃ t, exec (.doorbell i n v) s = .next t ∧
             OnlyRegs s t [oCE_STAT e] ∧ (∃ u, CacheOnly s u ∧ t = { u with regs := t.regs, engines := t.engines }) ∧
             (∀ j, j ≠ e → t.eng j = s.eng j) ∧
             t.eng e = { g with
               queue := g.queue ++ [⟨n, g.nextPgm, cap, (w 2).data, true, idx, false⟩], nextPgm := g.nextPgm + 1 })))) ∧
     (∀ (part : BitVec 4) (pgm : BitVec 16),
       let mine := fun (p : Prog) => p.part.val = part.toNat ∧ p.pgm = pgm
       ((∀ p ∈ g.queue, ¬mine p) → (∀ x c, s.ctx e x = some c → ¬mine c.prog) →
         ∃ u, Same s u ∧ exec (.cancelProgram i e part pgm) s = .next (u.accessRecord i (oCE_CANCEL e) true)) ∧
       (st = ceRUNNING → (∀ p ∈ g.queue, p.part.val ≠ part.toNat) → (∀ x c, s.ctx e x = some c → c.prog.part.val ≠ part.toNat) →
         ∃ t, exec (.cancelAll i e part) s = .next t ∧ Same s t) ∧
       (∀ p, st = ceRUNNING → g.queue = [p] → (∀ x, s.ctx e x = none) → mine p →
         ∀ c ∈ ([.cancelProgram i e part pgm, .cancelAll i e part] : List Instr), ∃ u, exec c s = .next (u.ringPost p.part
           (mkCRec p.sidx p.pgm p.db false true p.unv 0 e 0 0x0B p.addr 0 0 s.tickNum true)) ∧
           OnlyRegs s u [oCE_STAT e] ∧ u = { s with regs := u.regs, engines := u.engines } ∧
           (∀ j, j ≠ e → u.eng j = s.eng j) ∧ u.eng e = { g with queue := [] }) ∧
       (∀ x c, st = ceRUNNING → g.queue = [] → s.ctx e x = some c → (∀ y, y ≠ x → s.ctx e y = none) → mine c.prog →
         KeysCalm s → c.phase = .waiting → c.staged = [] → s.ringWait[c.prog.part] = [] → s.ringRoom c.prog.part = true →
         ∀ k ∈ ([.cancelProgram i e part pgm, .cancelAll i e part] : List Instr), ∃ t, exec k s = .next t ∧
           t.ctx e x = none ∧ t.ceState e = ceRUNNING ∧ (t.eng e).sealedCmds = g.sealedCmds ∧ t.jnl = s.jnl ∧
           t.fld (oPRT_CRIDX c.prog.part) 31 0 = (s.fld (oPRT_CRIDX c.prog.part) 31 0 + 1) % 2 ^ 32))) ∧
  (∀ (s : State) (e : UnitId) (ua : BitVec 14) (x : Option CtxId) (c : EngineFaultCause) (w : Word),
     let g := s.eng e
     let st := s.ceState e
     let none_ := g.queue = [] ∧ ∀ x, s.ctx e x = none
     (∀ y ∈ ([(.engineFault e c ua x w, (s.advanceTo w).now, none), (.mcWatchdog (.engine e) false, s.now, some 4),
        (.mcWatchdog (.engine e) true, s.now, some 5), (.controlStoreError (.engine e) ua true, s.now, some 7)] :
        List (Instr × Word × Option Nat)),
      (∀ z, c = .context → x = some z → s.ctx e z = none) → g.retired = false →
      let times := g.faultTimes.filter fun t => y.2.1.toNat ≤ t.toNat + 1000000000
      let faults := min 255 (s.fld (oCE_STAT e) 39 32 + 1)
      (times.length ≤ 1 → ∃ t, exec y.1 s = .next t ∧ (∀ j, j ≠ e → t.eng j = s.eng j) ∧ t.jnl = s.jnl ∧ t.ports = s.ports ∧
        t.cps = s.cps ∧ t.fld (oCE_STAT e) 39 32 = faults ∧ (∀ b, y.2.2 = some b → t.flag (oCE e 0x100) b = true) ∧
        t.flag (oCE_CTL e) 0 = s.flag (oCE_CTL e) 0 ∧
        (s.ceWorks e = true → t.ceState e = ceRECOVERING ∧ t.eng e = { g with
          faultTimes := times ++ [y.2.1], seq := g.seq.cleared, after := st, hadActive := s.activeParts e, stopDue := false }) ∧
        (s.ceWorks e = false → t.ceState e = st ∧
          t.eng e = { g with faultTimes := times ++ [y.2.1], seq := g.seq.cleared })) ∧
      (times.length = 2 → none_ → st ≠ ceOFF → ∃ t, exec y.1 s = .next t ∧ (t.eng e).retired = true ∧
        t.ceState e = ceSTOPPED ∧ t.flag (oCE_CTL e) 0 = false ∧ t.fld (oCE_STAT e) 39 32 = faults ∧
        ∀ j, j ≠ e → t.eng j = s.eng j)) ∧
     (st ≠ ceRECOVERING → exec (.engineRestartDone e) s = .next s) ∧
     (st = ceRECOVERING →
       (∀ a, a = ceRUNNING ∨ a = ceDRAINING → none_ → g.hadActive = [] → g.after = a → KeysCalm s →
         let b := if g.stopDue = true ∨ a = ceDRAINING then ceSTOPPED else ceRUNNING
         ∃ t, exec (.engineRestartDone e) s = .next t ∧ OnlyRegs s t [oCE_STAT e, oCE_CTL e] ∧ t.ceState e = b ∧
           (∀ j, j ≠ e → t.eng j = s.eng j) ∧ t.eng e = { g with stopDue := false } ∧
           t = { s with regs := t.regs, engines := t.engines }) ∧
       (∀ (y : CtxId) (d : Ctx), s.ctx e y = some d → (∀ z, z ≠ y → s.ctx e z = none) → g.hadActive = [] →
         g.after = ceRUNNING → g.stopDue = false →
         let again := { d with phase := .fetched, stages := d.stages.map fun q => Stage.fresh q.desc, got := [] }
         let to_ := fun (d' : Ctx) => ∃ t, exec (.engineRestartDone e) s = .next t ∧ t.ctx e y = some d' ∧
           t.ceState e = ceRUNNING ∧ t = { s with regs := t.regs, engines := t.engines }
         (d.phase = .routine → to_ { d with phase := .fetched, regs := d.cmd }) ∧
         (d.phase = .job → d.op = 0x03 → d.gcmDecrypt = none → to_ again) ∧
         (d.phase = .posted ∨ d.phase = .waiting ∨ d.phase = .sending ∨ d.phase = .sealedCmd → to_ d) ∧
         (d.phase = .staging → d.fTb = true → d.staged = [] →
           to_ { d with stages := d.stages.map fun q => Stage.fresh q.desc, got := [] }) ∧
         (d.phase = .staging → d.fTb = false → to_ d))))

/-! The journal and the ports. -/

/-- The journal's own events: an entry that waits too long is sent again, a retransmission carries the original tick, the port's
epoch and RTX + 1, an endpoint past RTX_MAX is held until it is resumed, a payload that cannot be read is sent poisoned, a high-water
record holds the numbers of every endpoint, and an acknowledgement names the last number accepted (R345, R346, R352, R353, R354, R355,
R358, R360, R370, R372, R374, R379).
Where it rests on the model's choices: assumptions 35, 44, 46, 65. -/
def Obligations.JournalEvents : Prop :=
  (∀ (s : State) (u : UnitId) (slot : BitVec 16) (w : Word) (ok : Bool),
     let i := slot.toNat
     let e := s.entry u i
     let now := (s.advanceTo w).now
     let rto := max 10 (s.fld (oJNL_PORT u) 31 16) * 1000
     let most := max 1 (s.fld (oJNL_PORT u) 47 40)
     CopiesOk s u i →
     (i ∈ (s.jn u).slots → e.state = jSENT → e.sent.toNat + rto ≤ now.toNat → ∃ t, exec (.rtoTimeout u slot w) s = .next t ∧
       EntryTo s t u i { e with state := jRESEND } ∧ OnlyRegs s t [oTCK_TIME, cUNIT u 9] ∧
       t.reg (cUNIT u 9) = countBy (s.reg (cUNIT u 9)) 1 ∧ t = { s with regs := t.regs, mem := t.mem }) ∧
     (e.state ≠ jSENT ∨ now.toNat < e.sent.toNat + rto → ∃ t, exec (.rtoTimeout u slot w) s = .next t ∧ Regs s t [oTCK_TIME]) ∧
     ((∀ j ∈ (s.jn u).slots, (s.entry u j).state ≠ jRESEND) → exec (.retransmit u ok) s = .next s) ∧
     (u.val = 8 → s.ceFree u = false → exec (.retransmit u ok) s = .next s) ∧
     -- an entry that awaits the twin's acknowledgement waits
     ((s.jn u).slots = [i] → i ∈ (s.jn u).mirEntry → exec (.retransmit u ok) s = .next s) ∧
     ((s.jn u).slots = [i] → (s.jn u).rdWait = [] → (s.jn u).mirEntry = [] → e.state = jRESEND → (u.val = 8 → s.ceFree u = true) →
       let fine := e.keeps = false ∨ e.flag 2 = true ∨ ok = true ∧ s.payloadOk e.payload = true
       (most ≤ e.rtx → ∃ v, EntryTo s v u i { e with state := jHELD } ∧ OnlyRegs s v [oJNL_HOLD u, oJNL_STAT u] ∧
         v.flag (oJNL_HOLD u) e.ep = true ∧ v.flag (oJNL_STAT u) 0 = true ∧ v = { s with regs := v.regs, mem := v.mem } ∧
         exec (.retransmit u ok) s = .next (v.record (mkRec 1 (if u.val = 8 then 0x60 else 0x58 + u.val) 0xF00A
           (ownerPart (s.epOwner u e.ep)) none 0 (unitInfo u e.ep) (BitVec.ofNat 64 e.seq))).healthFailure) ∧
       -- on the Towpath the routine of entry 0 passes the frame to the bus again
       (e.rtx < most → u.val = 8 → fine →
         (s.roleRuns = false ∨ s.flag (oCE_CDISP u 0) 63 = false → exec (.retransmit u ok) s = .next s) ∧
         (s.roleRuns = true → s.flag (oCE_CDISP u 0) 63 = true →
           ∃ v, EntryTo s v u i { e with state := jSENT, sent := s.now, rtx := e.rtx + 1 } ∧
             v = { s with mem := v.mem, jnl := v.jnl } ∧ exec (.retransmit u ok) s = .next (v.ceCall u (s.towOwner u e) 0 [i]))) ∧
       (∀ h : u.val < 8, e.rtx < most → s.portLive ⟨u, h⟩ = true → (s.port ⟨u, h⟩).fenced = false →
         let p : PortId := ⟨u, h⟩
         let q := s.port p
         let bs := s.wireBytes u e
         (fine → e.len ≤ 8192 → (s.jn u).aborts = [] → q.txUsed + blocks bs.length ≤ q.txAdv + q.txCount →
           ∃ t, exec (.retransmit u ok) s = .next t ∧
             Sends s t p 1 e.ep e.seq (s.portEpoch p) (wireFlags e true) ((s.jn u).cut.contains i) e.tick bs ∧
             bit (BitVec.ofNat 64 (wireFlags e true)) 1 = true ∧
             EntryTo s t u i { e with state := jSENT, epoch := s.portEpoch p, sent := s.now, rtx := e.rtx + 1 } ∧
             PortTo s t p { q with txUsed := q.txUsed + blocks bs.length } ∧ OnlyRegs s t [oPORT_CREDIT u] ∧
             t = { s with regs := t.regs, mem := t.mem, ports := t.ports, jnl := t.jnl, out := t.out }) ∧
         (fine → q.txAdv + q.txCount < q.txUsed + blocks bs.length → exec (.retransmit u ok) s = .next s) ∧
         (¬fine → s.covered u i = false → ∃ v, EntryTo s v u i (e.setFlag 2) ∧ OnlyRegs s v [cUNIT u 10, oJNL_STAT u] ∧
           v.reg (cUNIT u 10) = countBy (s.reg (cUNIT u 10)) 1 ∧ v.flag (oJNL_STAT u) 2 = true ∧
           exec (.retransmit u ok) s = .next (v.record (mkRec 5 0x61 10 (ownerPart e.part) none
             (BitVec.ofNat 64 (journalBase + e.doff)) (unitInfo u e.ep) (BitVec.ofNat 64 e.seq)))))) ∧
     (∀ (a : Initiator) (eps : Word), Manager s a →
       (eps &&& s.reg (oJNL_HOLD u) = 0 → ∃ t, exec (.endpointResume a u eps) s = .next t ∧ Same s t) ∧
       (eps = BitVec.ofNat 64 (2 ^ e.ep) → s.flag (oJNL_HOLD u) e.ep = true → (s.jn u).slots = [i] → e.state = jHELD →
         ∃ t, exec (.endpointResume a u eps) s = .next t ∧ EntryTo s t u i { e with state := jRESEND, rtx := 0 } ∧
           OnlyRegs s t [oJNL_HOLD u, oJNL_STAT u] ∧ t.reg (oJNL_HOLD u) = s.reg (oJNL_HOLD u) &&& ~~~eps ∧
           t.flag (oJNL_STAT u) 0 = decide (t.reg (oJNL_HOLD u) ≠ 0) ∧ t = { s with regs := t.regs, mem := t.mem }))) ∧
  (∀ s : State,
     (s.ready = true → ∃ t h, exec .hwmPersist s = .next t ∧ OnlyRegs s t [oJNL_HWM, cDEV 21] ∧
       t.fld oJNL_HWM 63 16 = s.tickNum ∧ t = { s with regs := t.regs, nv := t.nv } ∧
       t.nv = { s.nv with wear := t.nv.wear, blkMap := t.nv.blkMap, hwm := some h, hwmCount := s.nv.hwmCount + 1 } ∧
       h.tick = s.tickNum ∧
       (∀ (u : UnitId) (ep : EpId), h.outs.getD (64 * u + ep) 0 = (s.fld (oJNL_OSEQ u ep) 47 0 + 2 ^ 48 - 1) % 2 ^ 48) ∧
       ∀ p : PortId, h.epochs.getD p 0 = s.portEpoch p ∧
         ∀ ep : EpId,
           -- inbound: the last number acknowledged
           (∀ a, (s.port p).acked.find? (fun a => a.1 = ep.val) = some a → h.ins.getD (64 * p + ep) 0 = a.2) ∧
           ((∀ a ∈ (s.port p).acked, a.1 ≠ ep.val) → (∀ a ∈ (s.port p).ackDue, a.1 ≠ ep.val) →
             h.ins.getD (64 * p + ep) 0 = (s.fld (oJNL_ISEQ p ep) 47 0 + 2 ^ 48 - 1) % 2 ^ 48)) ∧
     (s.ready = false → exec .hwmPersist s = .next s)) ∧
  ∀ (s : State) (p : PortId) (ep : EpId),
    let due := ∃ a ∈ (s.port p).ackDue, a.1 = ep.val
    let pe := match (s.port p).accepted.find? (fun a => a.1 = ep.val) with | some a => a.2.toNat | none => 0
    let last := s.visibleNo p ep
    -- frames whose data is not visible yet are not acknowledged
    ((∀ a ∈ (s.port p).heldAck, a.1 ≠ ep.val) → last = (s.iseq p ep + 2 ^ 48 - 1) % 2 ^ 48) ∧
    (∀ a, (s.port p).heldAck.find? (fun a => a.1 = ep.val) = some a → last = (a.2.1 + 2 ^ 48 - 1) % 2 ^ 48) ∧
    (s.portLive p = true → due → ∃ t, exec (.inboundAckSend p ep) s = .next t ∧
      Sends s t p 3 ep last pe 0 false s.tickNum [] ∧
      PortTo s t p { s.port p with
        ackDue := (s.port p).ackDue.filter fun a => a.1 ≠ ep.val, acked := alIns (s.port p).acked ep last } ∧
      t = { s with ports := t.ports, out := t.out }) ∧
    (s.portLive p = false ∨ ¬due → exec (.inboundAckSend p ep) s = .next s)

/-- What a port sends: the tick-bound frames that are due before others and none without credit; IDLE, CREDIT and EPOCH frames (R321,
R370, R371, R372, R373, R374, R377, R379, R446).
Where it rests on the model's choices: assumption 46. -/
def Obligations.PortSends : Prop :=
  ∀ (s : State) (p : PortId),
    let u := pu p
    let q := s.port p
    let epoch := s.portEpoch p
    (s.portLive p = false ∨ q.fenced = true → exec (.dataFrameSend p) s = .next s) ∧
    (s.portLive p = true → q.fenced = false → q.epochDue = [] → (s.jn u).aborts = [] →
      (∀ j ∈ (s.jn u).slots, (s.entry u j).state ≠ jRESEND) →
      ∀ i, i < 65536 → i ∈ (s.jn u).slots →
        let e := s.entry u i
        let tb := fun (j : Nat) => (s.entry u j).state = jREADY ∧ (s.entry u j).flag 4 = true ∧
          seqAfter (s.entry u j).tick s.tickNum = false
        let free := fun (j : Nat) => (s.entry u j).state = jREADY ∧ (s.entry u j).flag 4 = false
        let bs := s.wireBytes u e
        (∃ l r, (s.jn u).slots = l ++ i :: r ∧
          ((tb i ∧ ∀ j ∈ l, ¬tb j) ∨ (free i ∧ (∀ j ∈ (s.jn u).slots, ¬tb j) ∧ ∀ j ∈ l, ¬free j))) →
        s.entryReadable e = true → CopiesOk s u i →
        (q.txAdv + q.txCount < q.txUsed + blocks bs.length → exec (.dataFrameSend p) s = .next s) ∧
        (e.len ≤ 8192 → q.txUsed + blocks bs.length ≤ q.txAdv + q.txCount → ∃ t, exec (.dataFrameSend p) s = .next t ∧
          Sends s t p 1 e.ep e.seq epoch (wireFlags e false) ((s.jn u).cut.contains i) e.tick bs ∧
          EntryTo s t u i { e with state := jSENT, epoch := epoch, sent := s.now } ∧
          PortTo s t p { q with txUsed := q.txUsed + blocks bs.length } ∧ OnlyRegs s t [oPORT_CREDIT p] ∧
          t.fld (oPORT_CREDIT p) 47 24 = min (2 ^ 24 - 1) (q.txAdv + q.txCount - (q.txUsed + blocks bs.length)) ∧
          t = { s with regs := t.regs, mem := t.mem, ports := t.ports, jnl := t.jnl, out := t.out })) ∧
    (s.lstate p = lsUP → ∃ t, exec (.idleFrameSend p) s = .next t ∧ Sends s t p 0 0 0 epoch 0 false s.tickNum [] ∧
      t = { s with out := t.out }) ∧
    (s.lstate p ≠ lsUP → exec (.idleFrameSend p) s = .next s ∧ exec (.creditFrameSend p) s = .next s) ∧
    (s.lstate p = lsUP → q.rxFreed ≠ q.rxTold → q.rxFreed < 2 ^ 48 → ∃ t, exec (.creditFrameSend p) s = .next t ∧
      Sends s t p 4 0 q.rxFreed epoch 0 false s.tickNum [] ∧ PortTo s t p { q with rxTold := q.rxFreed } ∧
      t = { s with ports := t.ports, out := t.out }) ∧
    (q.rxFreed = q.rxTold → exec (.creditFrameSend p) s = .next s) ∧
    ∀ ep : EpId,
      let open_ := ep.val ∈ q.epochOpen ∨ ep.val ∈ q.epochDue
      (s.portLive p = true → open_ → s.epOwner p ep < 8 → ∃ t, exec (.epochFrameResend p ep) s = .next t ∧
        Sends s t p 5 ep (s.oseq p ep) epoch 0 false s.tickNum [] ∧ ep.val ∈ (t.port p).epochOpen ∧ ep.val ∉ (t.port p).epochDue ∧
        (∀ v, v ≠ p → t.port v = s.port v) ∧ t = { s with ports := t.ports, out := t.out }) ∧
      (s.portLive p = false ∨ ¬open_ ∨ 8 ≤ s.epOwner p ep → exec (.epochFrameResend p ep) s = .next s)

/-- What a port does with a frame from its partner: a frame that is not well formed is counted; DATA is accepted only in order and in the
partner's epoch; an acknowledgement frees and NACKs resend; a newer epoch fences the port; EPOCH, CREDIT and ABORT frames have the effects of
R592 and R374 (R350, R351, R360, R373, R374, R375, R377, R378, R446, R592).
Where it rests on the model's choices: assumption 46. -/
def Obligations.PortReceives : Prop :=
  ∀ (s : State) (p : PortId) (f : Frame),
    let u := pu p
    let q := s.port p
    let ep := f.ep
    -- no frame of the endpoint waits for its data to be visible
    let shown := ∀ a ∈ q.heldAck, a.1 ≠ ep
    let rx : List (Nat × Instr) := [(1, .rxData p f), (5, .rxEpoch p f), (3, .rxAck p f), (4, .rxCredit p f), (6, .rxAbort p f),
      (2, .rxMarker p f), (0, .rxIdle p f)]
    (s.lstate p ≠ lsUP → ∀ y ∈ rx, exec y.2 s = .next s) ∧
    (s.lstate p = lsUP → f.good = false → ∀ y ∈ rx, ∃ t, exec y.2 s = .next t ∧ Regs s t [cUNIT p 16] ∧
      t.reg (cUNIT p 16) = countBy (s.reg (cUNIT p 16)) 1) ∧
    (s.lstate p = lsUP → f.good = true → s.roleRuns = false → ∀ y ∈ rx, y.1 = f.ty → y.1 ≠ 0 → y.1 ≠ 4 →
      ∃ t, exec y.2 s = .next t ∧ Regs s t [cUNIT p 19] ∧ t.reg (cUNIT p 19) = countBy (s.reg (cUNIT p 19)) 1) ∧
    (s.portLive p = true → f.good = true →
      (f.ty = 0 → exec (.rxIdle p f) s = .next s) ∧
      (f.ty = 2 → exec (.rxMarker p f) s = .next s) ∧
      (f.ty = 4 → ∃ t, exec (.rxCredit p f) s = .next t ∧
        let c := if seqAfter f.seq q.txCount = true then f.seq else q.txCount
        PortTo s t p { q with txCount := c } ∧ OnlyRegs s t [oPORT_CREDIT p] ∧
        t.fld (oPORT_CREDIT p) 47 24 = min (2 ^ 24 - 1) (q.txAdv + c - q.txUsed) ∧
        t = { s with regs := t.regs, ports := t.ports }) ∧
      (f.ty = 5 →
        (8 ≤ s.epOwner p ep → exec (.rxEpoch p f) s = .next s) ∧
        (s.epOwner p ep < 8 →
          (∀ x, s.partnerEpoch p ep = some x → f.epoch ≠ x.toNat → isAfter 16 f.epoch x.toNat = false →
            exec (.rxEpoch p f) s = .next s) ∧
          (shown → (s.partnerEpoch p ep = none ∨
              ∃ x, s.partnerEpoch p ep = some x ∧ (f.epoch = x.toNat ∨ isAfter 16 f.epoch x.toNat = true)) →
            let nxt := if seqAfter f.seq ((s.iseq p ep + 2 ^ 48 - 1) % 2 ^ 48) = true then f.seq else s.iseq p ep
            ∃ t, exec (.rxEpoch p f) s = .next t ∧ t.partnerEpoch p ep = some (BitVec.ofNat 16 f.epoch) ∧ t.iseq p ep = nxt ∧
              Sends s t p 3 ep ((nxt + 2 ^ 48 - 1) % 2 ^ 48) f.epoch 0 false s.tickNum [] ∧ OnlyRegs s t [oJNL_ISEQ p ep] ∧
              (∀ v, v ≠ p → t.port v = s.port v) ∧ t = { s with regs := t.regs, ports := t.ports, out := t.out }))) ∧
      (f.ty = 6 → (∀ d ∈ (s.eng u).delivered, d.ep ≠ ep) → exec (.rxAbort p f) s = .next s) ∧
      (∀ d n, f.ty = 6 → (s.eng u).delivered = [d] → d.ep = ep → d.reported = false → d.seqs = [f.seq] →
        f.payload = leBytes 8 f.seq → ownerPart (s.epOwner p ep) = some n →
        ∃ v : State, exec (.rxAbort p f) s = .next (v.ringPost n (mkCRec 0 d.pgm false false false false ep p 0 0x0D d.cmd 1 0 s.tickNum true)) ∧
          v = { s with engines := v.engines } ∧ (v.eng u).delivered = [{ d with reported := true }] ∧
          ∀ j, j ≠ u → v.eng j = s.eng j) ∧
      (f.ty = 3 →
        (f.len % 8 ≠ 0 ∨ 32 < f.len → ∃ t, exec (.rxAck p f) s = .next t ∧ Regs s t [cUNIT p 16]) ∧
        (f.len % 8 = 0 → f.len ≤ 32 →
          (isAfter 16 f.epoch (s.portEpoch p) = true → s.fld oTWN_STAT 3 0 = 0 → ∃ t, exec (.rxAck p f) s = .next t ∧
            PortTo s t p { q with fenced := true } ∧ t.jnl = s.jnl ∧ t.reg (cUNIT p 18) = countBy (s.reg (cUNIT p 18)) 1) ∧
          (isAfter 16 f.epoch (s.portEpoch p) = true → s.fld oTWN_STAT 3 0 = 2 → (∀ e, s.ceWorks e = false) → ∃ t, exec (.rxAck p f) s = .next t ∧
            t.fld oTWN_STAT 3 0 = 6 ∧ t.flag oTWN_STAT 12 = true ∧ (t.port p).fenced = true ∧ t.roleRuns = false) ∧
          (isAfter 16 f.epoch (s.portEpoch p) = false → f.epoch ≠ s.portEpoch p → exec (.rxAck p f) s = .next s) ∧
          (∀ i, f.epoch = s.portEpoch p → (s.jn u).slots = [i] → i < 65536 → CopiesOk s u i → s.mirrors u = false →
            let e := s.entry u i
            ∀ hi, e.ep = ep → s.sentHi u ep = some hi → seqAfter f.seq hi = false →
            (f.len = 0 → seqAfter e.seq f.seq = false → e.state ≠ jWRITTEN → ∃ t, exec (.rxAck p f) s = .next t ∧
              EntryTo s t u i { e with state := jFREE } ∧ (t.jn u).slots = [] ∧ t.fld (oJNL_STAT u) 48 32 = 0 ∧
              ep ∉ (t.port p).epochOpen ∧ OnlyRegs s t [oJNL_STAT u] ∧
              t = { s with regs := t.regs, mem := t.mem, jnl := t.jnl, ports := t.ports }) ∧
            (f.payload = leBytes 8 (e.seq + 2 ^ 48) → seqAfter e.seq f.seq = true → seqAfter e.seq hi = false → e.state = jSENT →
              ∃ t, exec (.rxAck p f) s = .next t ∧ EntryTo s t u i { e with state := jRESEND } ∧ (t.jn u) = s.jn u ∧
                OnlyRegs s t [cUNIT p 8] ∧ t.reg (cUNIT p 8) = countBy (s.reg (cUNIT p 8)) 1)) ∧
          (∀ hi, f.epoch = s.portEpoch p → f.len = 0 → s.sentHi u ep = some hi → seqAfter f.seq hi = true →
            (∀ j ∈ (s.jn u).slots, (s.entry u j).ep = ep → seqAfter (s.entry u j).seq f.seq = true) →
            seqAfter (s.oseq u ep) f.seq = false →
            ∃ v, exec (.rxAck p f) s = .next (v.record (mkRec 1 (0x58 + p.val) 7 none none 0 (unitInfo p ep) (BitVec.ofNat 64 f.seq))) ∧
              OnlyRegs s v [cUNIT p 7] ∧ v.reg (cUNIT p 7) = countBy (s.reg (cUNIT p 7)) 1 ∧ v.mem = s.mem ∧ v.jnl = s.jnl))) ∧
      (f.ty = 1 →
        let n := blocks f.len
        let q1 := { q with rxUsed := q.rxUsed + n }
        let q2 := { q1 with rxFreed := q.rxFreed + n }
        let fits := q.rxUsed + n ≤ 3072 + q.rxTold
        let exp := s.iseq p ep
        let pe := fun (x : BitVec 16) => s.partnerEpoch p ep = some x
        let echo := match q.accepted.find? (fun a => a.1 = ep) with | some a => a.2.toNat | none => 0
        let last := (exp + 2 ^ 48 - 1) % 2 ^ 48
        (¬fits → ∃ t, exec (.rxData p f) s = .next t ∧ PortTo s t p q2 ∧ OnlyRegs s t [cUNIT p 17] ∧
          t = { s with regs := t.regs, ports := t.ports }) ∧
        (fits → (s.partnerEpoch p ep = none ∨ ∃ x, pe x ∧ x.toNat ≠ f.epoch) → ∃ t, exec (.rxData p f) s = .next t ∧
          PortTo s t p q2 ∧ t = { s with ports := t.ports }) ∧
        (∀ x, fits → pe x → x.toNat = f.epoch →
          let told := { q2 with ackDue := q.ackDue.filter fun a => a.1 ≠ ep, acked := alIns q.acked ep last }
          (shown → f.seq ≠ exp → seqAfter f.seq exp = false → ∃ t, exec (.rxData p f) s = .next t ∧ PortTo s t p told ∧
            OnlyRegs s t [cUNIT p 12] ∧ t.reg (cUNIT p 12) = countBy (s.reg (cUNIT p 12)) 1 ∧
            Sends s t p 3 ep last echo 0 false s.tickNum [] ∧ t.mem = s.mem) ∧
          (shown → seqAfter f.seq exp = true → ∃ t, exec (.rxData p f) s = .next t ∧ PortTo s t p told ∧ OnlyRegs s t [cUNIT p 13] ∧
            t.reg (cUNIT p 13) = countBy (s.reg (cUNIT p 13)) 1 ∧ t.mem = s.mem ∧
            Sends s t p 3 ep last echo 0 false s.tickNum
              (leBytes 8 (exp + min ((f.seq + 2 ^ 48 - exp) % 2 ^ 48) 65535 * 2 ^ 48))) ∧
          (f.seq = exp → (∀ z ∈ q.pool, z.1 ≠ ep) → f.poison = false →
            (s.recvFor u ep = none → s.poolRoom p f = true → ∃ t, exec (.rxData p f) s = .next t ∧
              PortTo s t p { q1 with pool := q.pool ++ [(ep, f)] } ∧ t = { s with ports := t.ports }) ∧
            (∀ x c, s.recvFor u ep = some (x, c) → c.stages = [] → f.len ≤ c.count - c.got.length → KeysCalm s → shown →
              let at_ := (c.w 1).toNat + c.got.length
              s.dmaCheck c.prog.part c.prog.cap pSTORE at_ f.len true = .ok () → ∃ t, exec (.rxData p f) s = .next t ∧
                t.iseq p ep = (exp + 1) % 2 ^ 48 ∧ (t.port p).pool = q.pool ∧ (t.port p).rxFreed = q.rxFreed + n ∧
                t.mem.cells = (s.dmaWrite c.prog.part at_ f.payload).mem.cells ∧
                (f.eom = true → (t.ctx u x).map (·.phase) =
                  some (.done (if c.got.length + f.len < c.count ∧ c.fSli = false then 1 else 0)
                    (c.subBits ||| ((if bit f.h1 27 = true then 1 else 0) + (if bits f.h1 30 29 ≠ 0 then 2 else 0)
                      + (if f.cut = true then 4 else 0))))) ∧
                (f.eom = false → c.got.length + f.len < c.count → (t.ctx u x).map (·.phase) = some .posted))))))

/-- Training: TRAIN frames, the phases from SIGNAL to UP, fewer lanes or DOWN when lanes fail, and what makes a trained port train
afresh (R366, R367, R368, R369, R373, R374, R521). The Towpath interrupt lines: an event sets PENDING, one too close to the last is counted, one beyond NMAX masks the line, a masked line
keeps PENDING until software unmasks it (R386, R388).
Where it rests on the model's choices: assumptions 46, 47, 58. -/
def Obligations.TrainingAndLines : Prop :=
  (∀ (s : State) (p : PortId) (f : Frame) (bad : BitVec 4) (lane : Fin 4) (i : Initiator),
     let q := s.port p
     let l := s.lstate p
     let width : BitVec 4 := match s.fld (oPORT_CTL p) 2 1 with | 0 => 1 | 1 => 3 | _ => 15
     let can := s.flag (oPORT_CTL p) 0 = true ∧ portCfgOk (s.reg (oPORT_CTL p)) = true ∧ s.domainOn (20 + p) = true
     let fresh := fun (t : State) => PortTo s t p { q with failed := 0, lanes := width, partnerLanes := none, trainSent := false } ∧
       OnlyRegs s t [oPORT_STAT p, oPORT_CTL p] ∧ t.lstate p = lsSIGNAL ∧ t.fld (oPORT_STAT p) 23 20 = 0 ∧
       t.flag (oPORT_CTL p) 8 = false ∧ t = { s with regs := t.regs, ports := t.ports }
     let quietCfg := s.fld oCFG_STAT 2 0 ≠ 3
     (l = lsDOWN → exec (.rxTrain p f) s = .next s) ∧
     (l = lsPARAM → f.good = true → f.ty = 7 → f.len = 16 → ∃ t, exec (.rxTrain p f) s = .next t ∧
       let w := (bytesWords f.payload).headD 0
       PortTo s t p { q with partnerLanes := some (w.setWidth 4), txAdv := bits w 39 16 } ∧ OnlyRegs s t [oPORT_CREDIT p] ∧
       t = { s with regs := t.regs, ports := t.ports }) ∧
     (1 ≤ l → l ≤ 3 → f.good = true → exec (.rxTrain p f) s = .next s) ∧
     (l = lsUP → quietCfg → can → f.good = true → f.ty = 7 → ∃ t, exec (.rxTrain p f) s = .next t ∧ fresh t) ∧
     (l = lsDOWN → can → ∃ t, exec (.portDownRetry p) s = .next t ∧ fresh t) ∧
     (l ≠ lsDOWN ∨ ¬can → exec (.portDownRetry p) s = .next s) ∧
     (l = lsUP → can → s.fld (oNI (56 + p) 0) 1 0 = 0 → Manager s i → ∃ t, exec (.portRetrain i p) s = .next t ∧ fresh t) ∧
     (quietCfg → l = lsUP → can →
       (s.flag (oPORT_STAT p) (20 + lane) = true → ∃ t, exec (.laneLockLoss p lane) s = .next t ∧ fresh t) ∧
       (s.fld (oPORT_CTL p) 31 16 ≠ 0 → ∃ t, exec (.uncorrLimitExceeded p) s = .next t ∧ fresh t)) ∧
     (s.flag (oPORT_STAT p) (20 + lane) = false → exec (.laneLockLoss p lane) s = .next s) ∧
     (s.fld (oPORT_CTL p) 31 16 = 0 → exec (.uncorrLimitExceeded p) s = .next s) ∧
     (l = lsPARAM → q.partnerLanes = none → ∃ t, exec (.paramTimeout p) s = .next t ∧ t.lstate p = lsSIGNAL ∧
       PortTo s t p { q with trainSent := false } ∧ OnlyRegs s t [oPORT_STAT p, oPORT_CTL p] ∧
       t = { s with regs := t.regs, ports := t.ports }) ∧
     (l ≠ lsPARAM ∨ q.partnerLanes ≠ none → exec (.paramTimeout p) s = .next s) ∧
     (l = 1 ∨ l = 2 → ∃ t, exec (.trainPhaseComplete p) s = .next t ∧ Regs s t [oPORT_STAT p] ∧ t.lstate p = l + 1) ∧
     (l = 3 → ∃ t, exec (.trainPhaseComplete p) s = .next t ∧ OnlyRegs s t [oPORT_STAT p] ∧ t.lstate p = lsPARAM ∧
       PortTo s t p { q with trainSent := true } ∧ Sends s t p 7 0 0 (s.portEpoch p) 0 false s.tickNum
         (wordBytes [BitVec.ofNat 64 (q.lanes.toNat + s.fld (oPORT_CTL p) 5 3 * 16 + s.fld (oPORT_CTL p) 7 6 * 128 + 3072 * 65536),
           8192])) ∧
     -- UP on the lanes that both sides name, narrow when they are fewer than WIDTH; down when there is none
     (∀ m, l = lsPARAM → q.partnerLanes = some m →
       let lanes := q.lanes &&& m
       let narrow := fun (t : State) => t.flag (oPORT_STAT p) 3 = (s.flag (oPORT_STAT p) 3 || decide (lanes ≠ width))
       (lanes = 0 → ∃ t, exec (.trainPhaseComplete p) s = .next t ∧ Regs s t [oPORT_STAT p] ∧ t.lstate p = lsDOWN ∧
         t.fld (oPORT_STAT p) 23 20 = 0 ∧ narrow t) ∧
       (lanes ≠ 0 → s.reg (oJNL_HOLD p) = 0 → q.epochDue = [] → ∃ t,
         exec (.trainPhaseComplete p) s = .next t ∧ t.lstate p = lsUP ∧ t.fld (oPORT_STAT p) 23 20 = lanes.toNat ∧ narrow t ∧
         t.fld (oPORT_STAT p) 19 12 = min 255 (s.fld (oPORT_STAT p) 19 12 + 1) ∧
         PortTo s t p { q with txCount := 0, txUsed := 0, rxUsed := 0, rxFreed := 0, rxTold := 0 } ∧
         t.fld (oPORT_CREDIT p) 47 24 = min (2 ^ 24 - 1) q.txAdv ∧ OnlyRegs s t [oPORT_STAT p, oPORT_CREDIT p] ∧
         t = { s with regs := t.regs, ports := t.ports })) ∧
     (l = lsPARAM → q.partnerLanes = none → exec (.trainPhaseComplete p) s = .next s) ∧
     (l = lsUP ∨ l = lsDOWN → exec (.trainPhaseComplete p) s = .next s ∧ exec (.trainPhaseTimeout p bad) s = .next s) ∧
     (1 ≤ l → l ≤ 3 →
       let out := (q.failed ||| bad) &&& width
       let m := widest width out
       (m &&& out = 0 ∧ m &&& width = m) ∧
       (m = 0 ↔ width &&& ~~~out = 0) ∧
       ∃ t, exec (.trainPhaseTimeout p bad) s = .next t ∧ t.flag (oPORT_STAT p) 3 = true ∧
         t.reg (cUNIT p 15) = countBy (s.reg (cUNIT p 15)) 1 ∧ (∀ v, v ≠ p → t.port v = s.port v) ∧ (t.port p).failed = out ∧
         (m = 0 → t.lstate p = lsDOWN) ∧ (m ≠ 0 → t.lstate p = lsSIGNAL ∧ (t.port p).lanes = m))) ∧
  (∀ (s : State) (k : Fin 4) (w : Word) (i : Initiator),
     let on := s.flag (oTOW_INT k) 0
     let was := s.tick.tpActive.getLsbD k
     let masked := s.flag oTOW_INTSTAT (20 + k)
     let tmin := max 1 (s.fld (oTOW_INT k) 31 16) * 10
     let nmax := max 1 (s.fld (oTOW_INT k) 39 32)
     let now := (s.advanceTo w).now
     let rest := fun (t : State) => t = { s with regs := t.regs, tick := t.tick } ∧
       (on = true → t.tick.tpActive.getLsbD k = true ∧ ∀ j : Fin 4, j ≠ k → t.tick.tpActive.getLsbD j = s.tick.tpActive.getLsbD j)
     (on = false → ∃ t, exec (.tpIntEvent k true w) s = .next t ∧ Regs s t [oTCK_TIME]) ∧
     (on = true → was = true ∨ masked = true → ∃ t, exec (.tpIntEvent k true w) s = .next t ∧ OnlyRegs s t [oTCK_TIME] ∧ rest t) ∧
     (on = true → ∃ t, exec (.tpIntEvent k false w) s = .next t ∧ OnlyRegs s t [oTCK_TIME] ∧ t.tick.tpActive.getLsbD k = false ∧
       t.tick.tpSince.getLsbD k = false ∧ t = { s with regs := t.regs, tick := t.tick }) ∧
     (on = true → was = false → masked = false →
       let short := ∃ t0, s.tick.tpLast[k] = some t0 ∧ now.toNat < t0.toNat + tmin
       (short → ∃ t, exec (.tpIntEvent k true w) s = .next t ∧ OnlyRegs s t [oTCK_TIME, cUNIT 8 20] ∧ rest t ∧
         t.reg (cUNIT 8 20) = countBy (s.reg (cUNIT 8 20)) 1) ∧
       (¬short → s.tick.tpCount[k] < nmax → ∃ t, exec (.tpIntEvent k true w) s = .next t ∧ rest t ∧
         OnlyRegs s t [oTCK_TIME, oTOW_INTSTAT] ∧ t.reg oTOW_INTSTAT = s.reg oTOW_INTSTAT ||| BitVec.ofNat 64 (2 ^ (16 + k.val)) ∧
         t.tick.tpCount[k] = s.tick.tpCount[k] + 1 ∧ t.tick.tpLast[k] = some now) ∧
       (¬short → nmax ≤ s.tick.tpCount[k] → ∃ v, exec (.tpIntEvent k true w) s = .next (v.record (mkRec 1 0x60 21)) ∧ rest v ∧
         OnlyRegs s v [oTCK_TIME, oTOW_INTSTAT, cUNIT 8 21] ∧ v.reg (cUNIT 8 21) = countBy (s.reg (cUNIT 8 21)) 1 ∧
         v.reg oTOW_INTSTAT = s.reg oTOW_INTSTAT ||| BitVec.ofNat 64 (2 ^ (20 + k.val) + 2 ^ (24 + k.val)))) ∧
     ∀ lines : BitVec 4, Manager s i → s.fld (oNI 64 0) 1 0 = 0 → ∃ t, exec (.tpIntUnmask i lines) s = .next t ∧
       Regs s t [oTOW_INTSTAT] ∧ t.reg oTOW_INTSTAT = s.reg oTOW_INTSTAT &&& ~~~(BitVec.ofNat 64 (lines.toNat * 2 ^ 20)))

/-! The cipher and compression engines. -/

/-- In CTR, CFB-128, OFB and both GCM forms, decrypting what was encrypted with the same key, IV and AAD gives the data back, with every tag
verified; segmented GCM adds 16 bytes for every segment (R398, R399, R402, R403, R404). -/
def Obligations.CipherRoundTrips : Prop :=
  ∀ (w0 : Word) (rest : List Word) (key aad p : List Byte),
    key.length = 16 ∨ key.length = 32 → bits w0 3 0 = 1 → 2 ≤ bits w0 7 4 → bits w0 7 4 ≤ 6 → bits w0 25 24 ≠ 3 → p.length ≤ 2 ^ 32 →
    let r := cipherRun (w0 :: rest) key aad true p p
    r.2 = 0 ∧ cipherRun ((w0 + 1) :: rest) key aad true r.1 r.1 = (p, 0) ∧
    (bits w0 7 4 ≤ 4 → r.1.length = p.length) ∧ (bits w0 7 4 = 5 → r.1.length = p.length + 16) ∧
    (bits w0 7 4 = 6 → r.1.length = p.length + 16 * ((p.length + bits w0 47 32) / (bits w0 47 32 + 1)))

/-- A stage of a job chain runs on its input: the cipher modes, the compressor and the decompressor, with status, check value and bytes
consumed; a key job loads or empties its slot once no job uses it (R389, R390, R391, R395, R396, R401, R408, R409, R410, R412). How jobs end: output and result record are written, the command goes on with the job's status; FINAL clear seals the job's state in its
resume area, and so does the end of a pooled slice; a unit's third error within a second retires it (R315, R393, R394, R413, R414,
R417, R420, R514).
Where it rests on the model's choices: assumptions 49, 50, 51, 52, 53. -/
def Obligations.TransformResults : Prop :=
  ((∀ (m level strat : Nat) (p : List Byte), m ≤ 2 → 1 ≤ level → level ≤ 9 →
      (compressStream m level strat true [p]).length
        ≤ p.length + 5 * max 1 ((p.length + 65534) / 65535) + (if m = 1 then 6 else if m = 2 then 18 else 0)) ∧
   ∀ (s : State) (e : UnitId) (x : CtxId) (c : Ctx) (g : Stage),
     s.ctx e x = some c → c.phase = .job → s.ceWorks e = true → c.stages = [g] → g.ran = false →
     let d := g.desc
     let n := c.prog.part
     let slot := dSlot d
     let k := s.keySlot slot
     let stands := fun (i : Instr) (g' : Stage) => ∃ t, exec i s = .next t ∧
       EngTo s t e { s.eng e with ctx := (s.eng e).ctx.set x (some { c with stages := [g'] }) }
     let reads := fun (t : State) => ∃ u, CacheOnly s u ∧ t = { u with engines := t.engines, freeCtr := t.freeCtr }
     (g.orig = d → g.segs = [] → g.emitted = 0 → dResume d = false →
       (∀ aad, dKind d = 1 ∨ dKind d = 2 →
         s.dmaRead n c.prog.cap (if 5 ≤ dMode d then dWord d 3 else 0) (if 5 ≤ dMode d then dAadLen d else 0) = .ok aad →
         dDict d = false →
         let i : Instr := if dKind d = 1 then .encrypt e x 0 else .decrypt e x 0
         let r := cipherRun d (k.key.getD []) aad (dFinal d) g.inp g.inp
         (r.2 = 0 → stands i { g with
           aux := aad, out := r.1, ran := true, status := 0, check := 0, consumed := g.inp.length }) ∧
         (r.2 ≠ 0 → ∃ t used, exec i s = .next t ∧ used ≤ g.inp.length ∧ reads t ∧
           t.ctx e x = some { c with stages := [{ g with
             aux := aad, out := r.1, ran := true, status := r.2, check := 0, consumed := used }] })) ∧
       (dKind d = 3 → dDict d = false → stands (.compress e x 0) { g with
         aux := [], out := compressStream (dMode d) (dLevel d) (dStrat d) (dFinal d) [g.inp], ran := true, status := 0
         check := checkValue d g.inp, consumed := g.inp.length }) ∧
       (dKind d = 4 → dDict d = false →
         let r := inflateStream (dMode d) none (dFinal d) g.inp
         (r.2 = 0 → stands (.decompress e x 0) { g with
           aux := [], out := r.1, ran := true, status := 0, check := checkValue d r.1, consumed := g.inp.length }) ∧
         (r.2 ≠ 0 → ∃ t g', exec (.decompress e x 0) s = .next t ∧ reads t ∧ t.ctx e x = some { c with stages := [g'] } ∧
           g'.ran = true ∧ g'.status = r.2 ∧ g'.out = r.1))) ∧
     (∀ i ∈ ([(1, .encrypt e x 0), (2, .decrypt e x 0), (3, .compress e x 0), (4, .decompress e x 0), (8, .keyload e x),
       (9, .keyclr e x)] : List (Nat × Instr)), dKind d ≠ i.1 → exec i.2 s = .next s) ∧
     (dKind d = 8 → s.slotBusy slot = true → exec (.keyload e x) s = .next s) ∧
     (dKind d = 9 → s.slotBusy slot = true → exec (.keyclr e x) s = .next s) ∧
     (dKind d = 8 → s.slotBusy slot = false → dWord d 2 ∉ [52, 68, 100] → stands (.keyload e x) { g with ran := true, status := 6 }) ∧
     (∀ blob, dKind d = 8 → s.slotBusy slot = false → dWord d 2 ∈ [52, 68, 100] →
       s.dmaRead n c.prog.cap (dWord d 1) (dWord d 2) = .ok blob →
       let opened := (s.kwk n).bind fun kwk => openBlob kwk slot n blob
       (opened = none → stands (.keyload e x) { g with ran := true, status := 6 }) ∧
       (∀ key t u, opened = some (key, t, u) → ∃ v, exec (.keyload e x) s = .next v ∧
         v.ctx e x = some { c with stages := [{ g with ran := true, status := 0 }] } ∧
         v.keySlot slot = ⟨some key, t, u, k.gen + 1, false⟩ ∧ (∀ j, j ≠ slot → v.keySlot j = s.keySlot j) ∧
         v.flag (oCIP_KLOAD (slot / 64)) (slot % 64) = true ∧ OnlyRegs s v [oCIP_KLOAD (slot / 64)] ∧
         ∃ w, CacheOnly s w ∧ v = { w with regs := v.regs, engines := v.engines, xf := v.xf })) ∧
     (dKind d = 9 → s.slotBusy slot = false → ∃ v, exec (.keyclr e x) s = .next v ∧
       v.ctx e x = some { c with stages := [{ g with ran := true, status := 0 }] } ∧
       (k.key ≠ none → v.keySlot slot = { KeySlot.reset with gen := k.gen + 1 } ∧
         v.flag (oCIP_KLOAD (slot / 64)) (slot % 64) = false) ∧
       (∀ j, j ≠ slot → v.keySlot j = s.keySlot j) ∧ OnlyRegs s v [oCIP_KLOAD (slot / 64)] ∧
       v = { s with regs := v.regs, engines := v.engines, xf := v.xf })) ∧
  ((∀ (s : State) (e : UnitId) (x : CtxId) (c : Ctx) (g : Stage),
      s.ctx e x = some c → c.phase = .job → s.ceWorks e = true → c.stages = [g] → KeysCalm s →
      let d := g.desc
      let n := c.prog.part
      let cap := c.prog.cap
      let area := dWord d 6
      let saved : SavedJob := ⟨s.xf.nextId, n, [{ g with
        segs := g.segs ++ [(g.inp, !dFinal d)], emitted := g.emitted + g.out.length, inp := [], out := [], ran := false }],
        [(s.keySlot (dSlot d)).gen]⟩
      (g.ran = false → exec (.jobComplete e x) s = .next s ∧ exec (.jobSuspend e x) s = .next s) ∧
      (g.ran = true → dFinal d = true → c.op = 0x01 ∨ g.out.length ≤ c.dlen → exec (.jobSuspend e x) s = .next s) ∧
      (g.ran = true → isKeyJob d = true → dWord d 7 = 0 → c.op = 0x03 → c.seqs = [] → ∃ t, exec (.jobComplete e x) s = .next t ∧
        InCtx s t e x (some { c with phase := if g.status = 0 then .done c.rxStatus c.subBits else .done 9 g.status })) ∧
      (g.ran = true → isKeyJob d = false → dFinal d = true → dWord d 7 = 0 →
        (c.op = 0x01 → ∃ t, exec (.jobComplete e x) s = .next t ∧ InCtx s t e x (some { c with phase := .staging })) ∧
        (c.op = 0x02 ∨ c.op = 0x03 → g.status ≠ 9 → g.out.length ≤ c.dlen →
          s.dmaCheck n cap pSTORE c.dest g.out.length true = .ok () → ∃ t, exec (.jobComplete e x) s = .next t ∧
            t.mem = (s.dmaWrite n c.dest g.out).mem ∧
            t.ctx e x = some { c with
              phase := if g.status = 0 then .done c.rxStatus c.subBits else .done 9 g.status }) ∧
        (c.op = 0x03 → g.status = 9 → dWord d 4 = 0 → g.out.length ≤ c.dlen → ∃ t, exec (.jobComplete e x) s = .next t ∧
          t.mem = (s.zeroRange n cap c.dest c.dlen).mem ∧ t.ctx e x = some { c with phase := .done 9 9 })) ∧
      (∀ a, g.ran = true → isKeyJob d = false → dFinal d = true → c.op = 0x01 → dWord d 7 = a → a ≠ 0 →
        s.dmaCheck n cap pSTORE a 32 true = .ok () → ∃ t, exec (.jobComplete e x) s = .next t ∧
          t.ctx e x = some { c with phase := .staging } ∧
          t.mem = (s.dmaWrite n a (wordBytes [BitVec.ofNat 64 g.status, BitVec.ofNat 64 g.consumed, BitVec.ofNat 64 g.out.length,
            if isComp d = true then g.check.setWidth 64 else 0])).mem) ∧
      (g.ran = true → g.status = 0 → isKeyJob d = false → dFinal d = false → c.op = 0x01 → dWord d 7 = 0 → area ≠ 0 →
        s.dmaCheck n cap (pLOAD ||| pSTORE) area 131072 true = .ok () →
        exec (.jobComplete e x) s = .next s ∧ ∃ t, exec (.jobSuspend e x) s = .next t ∧
          t.ctx e x = some { c with phase := .staging } ∧ t.xf = { s.xf with saved := saved :: s.xf.saved, nextId := s.xf.nextId + 1 } ∧
          t.mem = (s.dmaWrite n area (wordBytes (sealedArea s.xf.nextId))).mem) ∧
      (∀ k : XfKind, s.jobs = [(e, x, c)] → kindIs k d = true → area ≠ 0 → dWord d 7 = 0 →
        (s.dedicated k n = 0 → s.dmaCheck n cap (pLOAD ||| pSTORE) area 131072 true = .ok () →
          ∃ t, exec (.xfSliceEnd k n) s = .next t ∧ t.engines = s.engines ∧
            t.xf = { s.xf with
              saved := ⟨s.xf.nextId, n, [g], [(s.keySlot (dSlot d)).gen]⟩ :: s.xf.saved, nextId := s.xf.nextId + 1 } ∧
            t.mem = (s.dmaWrite n area (wordBytes (sealedArea s.xf.nextId))).mem) ∧
        ∀ m, m ≠ n → exec (.xfSliceEnd k m) s = .next s)) ∧
   ∀ (s : State) (k : XfKind) (i : Fin 8) (w : Word), s.jobs = [] →
     let now := (s.advanceTo w).now
     let no := match k with | .pipe => 0 | .clane => 1 | .dlane => 2
     let unit := match k with | .pipe => 0 | .clane => 1 | .dlane => 1
     let recent := s.xf.faults.filter fun f => now.toNat ≤ f.2.toNat + 1000000000
     let earlier := recent.countP fun f => f.1 = 8 * no + i.val
     let stat := match k with | .pipe => oCIP_STAT | .clane => oCMZ_STAT | .dlane => oCMZ_STAT
     let b := match k with | .pipe => i.val | .clane => i.val | .dlane => 8 + i.val
     let counted := fun (t : State) => t.reg (cXF unit unit) = countBy (s.reg (cXF unit unit)) 1 ∧
       t.xf = { s.xf with faults := (8 * no + i.val, now) :: recent }
     (earlier < 2 ∨ s.flag stat b = true → ∃ t, exec (.xfUnitFault k i w) s = .next t ∧ counted t ∧
       OnlyRegs s t [oTCK_TIME, cXF unit unit] ∧ t = { s with regs := t.regs, xf := t.xf }) ∧
     (2 ≤ earlier → s.flag stat b = false → ∃ v, exec (.xfUnitFault k i w) s = .next (v.record (mkRec 1 (0x62 + unit) unit)) ∧
       counted v ∧ OnlyRegs s v [oTCK_TIME, cXF unit unit, stat] ∧ v.flag stat b = true ∧
       v.nv.repair = s.nv.repair ++ [⟨BitVec.ofNat 8 (8 + no), BitVec.ofNat 16 i, 0, 2, 2⟩] ∧
       v = { s with regs := v.regs, xf := v.xf, nv := v.nv }))

/-! The Canal network. -/

/-- The network: responses, link replays and failures, route changes and returned packets, power domains, DOMAIN_ABSENT, probes and the
snapshot; what a request and its answer count, the virtual channel they take, the tokens, and the header (R426, R428, R429, R430, R433,
R435, R437, R438, R439, R440, R441, R442, R514, R545).
Where it rests on the model's choices: assumptions 56, 57. -/
def Obligations.CanalNetwork : Prop :=
  ∀ (s : State) (req : Packet) (i : Initiator) (w : Word),
    let src := req.src
    let dst := req.dst
    let tid := req.tid
    let netOnly := fun (t : State) => t = { s with regs := t.regs, noc := t.noc }
    let nisAs := fun (v t : State) => ∀ j, j ≠ src → t.ni j = v.ni j
    let resend := fun (v t : State) => netOnly t ∧ nisAs v t ∧ OnlyRegs v t [oNI src 0xD8, oNI src 8] ∧
      t.ni src = { v.ni src with absent := (tid, dst.val) :: (v.ni src).absent.filter fun r => r.1 ≠ tid } ∧
      t.reg (oNI src 0xD8) = countBy (v.reg (oNI src 0xD8)) 1
    (∀ (flits : Nat) (atDst : Bool), src ≠ dst →
      let v := s.answered req flits atDst
      let bound := req.tb && (decide (56 ≤ src.val ∧ src.val ≤ 67) || decide (src.val = 70))
      let service := decide (req.cls = .regAccess ∨ req.cls = .errorRecord ∨ req.cls = .maintenance)
      let room := match req.part with | some p => decide (1 + req.len.val + flits ≤ (s.ni src).tokens[p]) | none => false
      let vc := if src.val < 20 then 0 else if service then 3 else if bound && room then 2 else 0
      let spills := !decide (src.val < 20) && !service && bound && !room
      let counts := fun (o k : Nat) => v.reg o = countBy (s.reg o) k
      let after := Vector.ofFn fun p : PartId =>
        if vc = 2 ∧ req.part = some p then (s.ni src).tokens[p] - (1 + req.len.val + flits) else (s.ni src).tokens[p]
      netOnly v ∧ (∀ j, j ≠ src → v.ni j = s.ni j) ∧
      OnlyRegs s v ([oNI src (0x80 + 8 * vc), oNI src 0xA0, oNI src 0xA8] ++ (if spills then [oNI src 0xC8] else []) ++
        if atDst then [oNI dst (0x80 + 8 * (if vc = 0 then 1 else vc)), oNI dst 0xA0, oNI dst 0xA8] else []) ∧
      counts (oNI src (0x80 + 8 * vc)) 1 ∧ counts (oNI src 0xA0) (1 + req.len) ∧ counts (oNI src 0xA8) flits ∧
      (spills = true → counts (oNI src 0xC8) 1) ∧
      (atDst = true → counts (oNI dst (0x80 + 8 * (if vc = 0 then 1 else vc))) 1 ∧ counts (oNI dst 0xA0) flits ∧
        counts (oNI dst 0xA8) (1 + req.len)) ∧
      v.ni src = { s.ni src with tokens := after }) ∧
    (∀ lat flits, lat < 2 ^ 48 →
      let v := s.answered req flits true
      ∃ t, exec (.niResponse src dst req.toPktHead ⟨lat, flits⟩) s = .next t ∧ netOnly t ∧ nisAs v t ∧
        OnlyRegs v t [oNI src 0xB0, oNI src 0xB8, oNI src 0xC0, oNI src 8] ∧
        t.ni src = { v.ni src with
          absent := (v.ni src).absent.filter fun r => r.1 ≠ tid, heldReq := (v.ni src).heldReq.filter fun r => r.1 ≠ tid } ∧
        t.reg (oNI src 0xB0) = countBy (s.reg (oNI src 0xB0)) lat ∧ t.reg (oNI src 0xB8) = countBy (s.reg (oNI src 0xB8)) 1 ∧
        t.fld (oNI src 0xC0) 47 0 = max (s.fld (oNI src 0xC0) 47 0) lat) ∧
    (∀ l : Fin 15,
      let now := (s.advanceTo w).now
      let near := s.noc.replays.countP fun r => decide (r.1 = l.val) && decide (now.toNat ≤ r.2.toNat + 1000000)
      let ends := linkEnds l
      let sp := l.val / 5 * 5 + 4
      let spare := s.flag oNOC_LINK (16 + sp) = false ∧ s.flag oNOC_LINK sp = false
      (s.flag oNOC_LINK l = true → ∃ t, exec (.linkFlitCrcError l w) s = .next t ∧ Regs s t [oTCK_TIME]) ∧
      (s.flag oNOC_LINK l = false → near < 15 → ∃ t, exec (.linkFlitCrcError l w) s = .next t ∧ netOnly t ∧
        OnlyRegs s t [oTCK_TIME, cDEV (6 + l)] ∧ t.reg (cDEV (6 + l)) = countBy (s.reg (cDEV (6 + l))) 1 ∧ t.noc.nis = s.noc.nis) ∧
      (s.flag oNOC_LINK l = false → 15 ≤ near → ∃ t, exec (.linkFlitCrcError l w) s = .next t ∧ t.flag oNOC_LINK l = true ∧
        t.flag (oROUTER_CTL ends.1) (16 + ends.2.1) = true ∧ t.flag (oROUTER_CTL ends.2.2.1) (16 + ends.2.2.2) = true ∧
        t.reg (cDEV (6 + l)) = countBy (s.reg (cDEV (6 + l))) 1 ∧ (spare → l.val ≠ sp → t.linkActive sp = true) ∧
        (((List.range 5).any fun k => t.linkActive (l.val / 5 * 5 + k)) = false → t.twin.deviceFail = true) ∧
        (((List.range 5).any fun k => t.linkActive (l.val / 5 * 5 + k)) = true → t.twin = s.twin) ∧
        t.nv.repair.length = s.nv.repair.length + 1)) ∧
    (Manager s i → s.fld oNOC_ROUTE 9 8 = 0 →
      let ok := s.niEntries.all fun e => s.routeOk e.1 e.2 (s.reg (oNI e.1 (0x400 + 8 * e.2)))
      let go := fun (r : Nat) => s.fld (oROUTER_CTL r) 12 8 &&& (31 - s.fld (oROUTER_CTL r) 20 16)
      (ok = true → ∃ t, exec (.routeArm i) s = .next t ∧ t.noc = { s.noc with armedAt := s.now } ∧ netOnly t ∧
        OnlyRegs s t (oNOC_ROUTE :: (List.range 62).map oROUTER_CTL) ∧
        t.reg oNOC_ROUTE = insBits (s.reg oNOC_ROUTE) 9 8 3 ∧
        ∀ r < 62, (go r = 0 → t.reg (oROUTER_CTL r) = s.reg (oROUTER_CTL r)) ∧
          (go r ≠ 0 → t.reg (oROUTER_CTL r) = insBits (insBits (s.reg (oROUTER_CTL r)) 4 0 (go r)) 28 24 (go r))) ∧
      (ok = false → ∃ u, Same s u ∧ exec (.routeArm i) s = .next (u.accessRecord i oNOC_ROUTE true))) ∧
    (Manager s i → s.flag oNOC_ROUTE 9 = true → ∃ t, exec (.routeArm i) s = .next t ∧ Regs s t [oNOC_ROUTE] ∧
      t.reg oNOC_ROUTE = insBits (s.reg oNOC_ROUTE) 8 8 1) ∧
    (let at_ := s.noc.armedAt.toNat + 2000
     let due := s.flag oNOC_ROUTE 9 = true ∧ at_ ≤ s.now.toNat ∧ (s.fld oTCK_STAT 2 0 = 0 ∨ at_ ≤ (s.reg oTCK_EDGE).toNat)
     (¬due → exec .routeSwitch s = .next s) ∧
     (due → ∃ t, exec .routeSwitch s = .next t ∧ netOnly t ∧
       (∀ a b : NiId, t.reg (oNI a (0x100 + 8 * b.val)) = s.reg (oNI a (0x400 + 8 * b.val)) ∧
         t.reg (oNI a (0x400 + 8 * b.val)) = s.reg (oNI a (0x400 + 8 * b.val))) ∧
       t.fld oNOC_ROUTE 9 8 = 0 ∧ t.fld oNOC_ROUTE 7 0 = (s.fld oNOC_ROUTE 7 0 + 1) % 256 ∧
       (∀ r < 62, t.reg (oROUTER_CTL r) =
         insBits (insBits (insBits (s.reg (oROUTER_CTL r)) 20 16 (s.fld (oROUTER_CTL r) 12 8)) 4 0 0) 28 24 0) ∧
       ∀ j, (t.ni j).heldReq = [] ∧ (t.ni j).holdDst = [] ∧
         (t.ni j).absent = ((s.ni j).heldReq.filter fun r => !t.reachable j r.2) ++ (s.ni j).absent)) ∧
    (∀ (router : Fin 62) (repoch : BitVec 8),
      let v := s.answered req 1 false
      (repoch.toNat ≠ s.fld oNOC_ROUTE 7 0 → ∃ t, exec (.rerouteReturn src dst req.toPktHead repoch router) s = .next t ∧
        Regs v t [oNI src 0xE0] ∧ t.reg (oNI src 0xE0) = countBy (s.reg (oNI src 0xE0)) 1) ∧
      (repoch.toNat = s.fld oNOC_ROUTE 7 0 → ∃ t, exec (.rerouteReturn src dst req.toPktHead repoch router) s = .next t ∧ nisAs v t ∧
        t.ni src = { v.ni src with
          heldReq := (tid, dst.val) :: (v.ni src).heldReq.filter fun r => r.1 ≠ tid
          holdDst := dst.val :: (v.ni src).holdDst.filter (· ≠ dst.val) } ∧
        t.reg (oNI src 0xE0) = countBy (s.reg (oNI src 0xE0)) 1 ∧ t.reg (oNI src 0xE8) = countBy (s.reg (oNI src 0xE8)) 1)) ∧
    (∀ (d : Domain) (k : Nat) (j : NiId), domainOf d = some (k, j) →
      (s.mayClose d = true → s.fld (oNI j 0) 1 0 = 0 → ∃ t, exec (.domainClose d) s = .next t ∧ Regs s t [oNI j 0, oNI j 8] ∧
        t.fld (oNI j 0) 1 0 = 1 ∧ t.flag (oNI j 8) 0 = false) ∧
      (s.mayClose d = false ∨ s.fld (oNI j 0) 1 0 ≠ 0 → exec (.domainClose d) s = .next s) ∧
      (s.fld (oNI j 0) 1 0 = 1 → ∃ t, exec (.domainDrained d) s = .next t ∧
        Regs s t ([oNI j 0, oNI j 8, oPWR_DOM k] ++ if k < 20 then [oCS_PWR k] else []) ∧
        t.fld (oNI j 0) 1 0 = 2 ∧ t.flag (oNI j 8) 0 = true ∧ t.fld (oPWR_DOM k) 1 0 = 2) ∧
      (s.fld (oNI j 0) 1 0 ≠ 1 → exec (.domainDrained d) s = .next s) ∧
      (s.pwr.emergency = false → (∀ e, d = .unit e → s.ceState e = ceOFF) → ∃ t, exec (.domainOpen d) s = .next t ∧
        t.fld (oNI j 0) 1 0 = 0 ∧ t.flag (oNI j 8) 0 = false ∧ t.fld (oPWR_DOM k) 1 0 = 0 ∧ t = { s with regs := t.regs } ∧
        (∀ e, d = .unit e → OnlyRegs s t [oNI j 0, oNI j 8, oPWR_DOM k, oCE_STAT e] ∧ t.ceState e =
          if t.cePowered e = true then
            (if s.flag (oCE_CTL e) 0 = true ∧ (s.eng e).retired = false ∧ s.roleRuns = true then ceRUNNING else ceSTOPPED)
          else ceOFF) ∧
        ((∀ e, d ≠ .unit e) →
          OnlyRegs s t ([oNI j 0, oNI j 8, oPWR_DOM k] ++ if k < 20 then [oCS_PWR k] else [])))) ∧
    (∀ (d : Domain) (b : Nat) (k : XfKind) (m : Nat), gateBit d = some (b, k, m) →
      (s.mayClose d = true → ∃ t, exec (.domainDrained d) s = .next t ∧ Regs s t [oPWR_UNITGATE] ∧ t.flag oPWR_UNITGATE b = true) ∧
      (s.pwr.emergency = false → ∃ t, exec (.domainOpen d) s = .next t ∧ Regs s t [oPWR_UNITGATE] ∧
        t.flag oPWR_UNITGATE b = false)) ∧
    (∀ off : BitVec 24,
      let who : Initiator := if src.val = 69 then .pf0 else .lkp
      let k := if dst.val = 67 then 1 else 0
      let v := s.answered req 1 true
      (∃ t, exec (.domainAbsentAnswer src dst req.toPktHead .engine off) s = .next t ∧ resend v t) ∧
      (∃ t, exec (.domainAbsentAnswer src dst req.toPktHead .journal off) s = .next t ∧ resend v t) ∧
      exec (.domainAbsentAnswer src dst req.toPktHead .snoop off) s = .next v ∧
      (∃ t, exec (.domainAbsentAnswer src dst req.toPktHead .xfDispatch off) s = .next t ∧ Regs v t [cXF k k] ∧
        t.reg (cXF k k) = countBy (s.reg (cXF k k)) 1) ∧
      exec (.domainAbsentAnswer src dst req.toPktHead .regRead off) s =
        .next ({ v with resp := .word 0 }.accessRecord who off.toNat false) ∧
      exec (.domainAbsentAnswer src dst req.toPktHead .regWrite off) s = .next (v.accessRecord who off.toNat true)) ∧
    (∀ p : Fin 8, Manager s i → w &&& ~~~0x177F#64 = 0 → ∃ t, exec (.probeCtlWrite i p w) s = .next t ∧ netOnly t ∧
      OnlyRegs s t [oPROBE p 0] ∧ t.reg (oPROBE p 0) = s.reg (oPROBE p 0) &&& ~~~0x177F#64 ||| w ∧ t.noc = { s.noc with probeN := s.noc.probeN.set p 0 }) ∧
    (∀ (router : Fin 62) (port : Fin 5) (h : HeadFlit),
      let hdr := (headFlit h).extractLsb' 64 64
      let part := match h.pkt.part with | some p => p.val | none => 15
      bits hdr 63 52 = h.age.toNat ∧ bits hdr 51 50 = h.vc ∧ bits hdr 45 38 = h.repoch.toNat ∧ bits hdr 37 31 = h.pkt.src ∧
      bits hdr 30 24 = h.pkt.dst ∧ bits hdr 23 20 = part ∧ bits hdr 19 15 = h.pkt.len ∧ bit hdr 1 = h.pkt.tb ∧
      bit hdr 0 = h.starved ∧ ∃ t, exec (.probeMatch router port h w) s = .next t ∧ netOnly t ∧
      t.now = (s.advanceTo w).now ∧ OnlyRegs s t (oTCK_TIME :: (List.range 0x100).flatMap fun x => (List.range 8).map fun p => oPROBE p x) ∧
      ∀ p : Fin 8,
        let c := s.reg (oPROBE p 0)
        let m := s.reg (oPROBE p 0x10)
        let at_ := s.noc.probeN[p]
        let hit := s.flag (oROUTER_CTL router) (16 + port) = false ∧ bit c 0 = true ∧ bits c 6 1 = router.val ∧
          bits c 10 8 = port.val ∧ hdr &&& m = s.reg (oPROBE p 8) &&& m
        (¬hit → t.noc.probeN[p] = at_ ∧ ∀ x < 0x100, t.reg (oPROBE p x) = s.reg (oPROBE p x)) ∧
        (hit → t.reg (oPROBE p 0x18) = countBy (s.reg (oPROBE p 0x18)) 1 ∧
          (bit c 12 = true → 8 ≤ at_ → t.noc.probeN[p] = at_ ∧ ∀ x < 0x100, x ≠ 0x18 → t.reg (oPROBE p x) = s.reg (oPROBE p x)) ∧
          (bit c 12 = false ∨ at_ < 8 → t.noc.probeN[p] = at_ + 1 ∧ t.reg (oPROBE p (0x80 + 16 * (at_ % 8))) = hdr ∧
            t.reg (oPROBE p (0x88 + 16 * (at_ % 8))) = t.now))) ∧
    (Manager s i → ∃ t, exec (.statsSnapshot i) s = .next t ∧ t = { s with regs := t.regs } ∧
      (∀ j : NiId, t.reg (oNI j 0x770) = s.now ∧ ∀ k < 14, t.reg (oNI j (0x700 + 8 * k)) = s.reg (oNI j (0x80 + 8 * k))) ∧
      t.fld oNOC_SNAP 63 16 = s.tickNum ∧ t.flag oNOC_SNAP 0 = false ∧ t.flag oNOC_SNAP 1 = s.flag oNOC_SNAP 1 ∧
      ∀ o, (∀ j : NiId, ∀ k < 15, o ≠ oNI j (0x700 + 8 * k)) → o ≠ oNOC_SNAP → t.reg o = s.reg o)

/-! The twin. -/

/-- Roles: election, heartbeats and their loss, takeover, handover, standing down, resynchronisation and the state of the link; a command
that the role does not allow leaves an access record (R444, R445, R448, R449, R450, R451, R455, R458, R462, R463, R464, R466).
Where it rests on the model's choices: assumptions 58, 59, 60, 62, 63. -/
def Obligations.TwinRoles : Prop :=
  ∀ (s : State) (i : Initiator) (w : Word),
    let r := s.role
    let next := fun (x : Instr) (P : State → Prop) => ∃ t, exec x s = .next t ∧ P t
    let took := fun (t : State) => ∃ v, TookOver s v false ∧
      t = v.record (mkRec 4 srcTwin 0xF00B none none 0 (BitVec.ofNat 64 r) (BitVec.ofNat 64 rACTIVE))
    let silent := fun (t : State) => t.role = rRESYNC ∧ t.fld oTCK_CTL 2 0 = 5 ∧ t.fld oTWN_STAT 47 40 = 0 ∧
      t.twin.inSync = false ∧ t.twin.bulkIn = [] ∧
      ∀ u : UnitId, (t.jn u).slots = [] ∧ (t.jn u).pool = [] ∧ (t.eng u).sealedCmds = [] ∧ (s.ceWorks u = true → t.ceState u = ceSTOPPED)
    let twinOnly := fun (t : State) (m : TwinUnit) => Regs s { t with twin := s.twin } [oTCK_TIME] ∧ t.twin = m
    (Manager s i →
      let refused := fun (x : Instr) => ∃ u, Same s u ∧ exec x s = .next (u.accessRecord i oTWN_CMD true)
      (r = rSTANDBY ∨ r = rELECTING → next (.takeover i) took) ∧
      (r ≠ rSTANDBY → r ≠ rELECTING → refused (.takeover i)) ∧
      (r = rELECTING ∨ rSTANDBY ≤ r ∧ r ≤ rFENCED → next (.forceTakeover i) took) ∧
      (r = rSOLO ∨ r = rACTIVE → refused (.forceTakeover i)) ∧
      (r = rSTALE ∨ r = rFENCED → s.linkUp = true → s.twin.partner = rACTIVE → next (.resync i) silent) ∧
      ((r ≠ rSTALE ∧ r ≠ rFENCED) ∨ s.linkUp = false ∨ s.twin.partner ≠ rACTIVE → refused (.resync i)) ∧
      (r = rACTIVE → s.twin.partner = rSTANDBY → s.pathsGood = true → next (.handover i) fun t => ∃ T,
        (∀ o, t.reg o = s.reg o) ∧ t = { s with regs := t.regs, twin := { s.twin with handover := some T } } ∧
        (s.period ≠ 0 →
          let lo := if s.tick.commitDone = true then 2 else 1
          ∃ k, lo ≤ k ∧ T = (s.tickNum + k) % 2 ^ 48 ∧ s.now.toNat + 22000 ≤ s.edgeTime + k * s.period ∧
            ∀ j, lo ≤ j → j < k → s.edgeTime + j * s.period < s.now.toNat + 22000)) ∧
      (r ≠ rACTIVE ∨ s.twin.partner ≠ rSTANDBY ∨ s.pathsGood = false → refused (.handover i)) ∧
      (r = rACTIVE → next (.standDown i) fun t => t.role = rFENCED ∧ t.twin.deviceFail = true ∧
        ∀ e : UnitId, s.ceWorks e = true → t.ceState e = ceSTOPPED) ∧
      (r ≠ rACTIVE → refused (.standDown i))) ∧
    (r = rELECTING → s.flag oTWN_CTL 1 = true → next .joinWaitExpiry (Active s)) ∧
    (r ≠ rELECTING ∨ s.flag oTWN_CTL 1 = false → exec .joinWaitExpiry s = .next s) ∧
    (r = rSTANDBY ∨ r = rELECTING → next .ownGntAssert took) ∧
    (r ≠ rSTANDBY → r ≠ rELECTING → next .ownGntAssert fun t => Regs s t [oTWN_STAT] ∧ t.flag oTWN_STAT 8 = true ∧ t.role = r) ∧
    (∀ T, s.twin.handover = some T → r = rACTIVE →
      (seqAfter T s.tickNum = true → exec .handoverSwitch s = .next s) ∧
      (seqAfter T s.tickNum = false → next .handoverSwitch fun t => t.role = rSTANDBY ∧ t.twin.inSync = true ∧ t.twin.handover = none ∧
        t.twin.partner = rACTIVE ∧ t.fld oTCK_CTL 2 0 = 5 ∧ ∀ e : UnitId, (s.ceWorks e = true → t.ceState e = ceSTOPPED) ∧
          (t.eng e).sealedCmds = [] ∧ (t.jn e).mirEntry = [] ∧ (t.jn e).mirPayload = [])) ∧
    (s.twin.handover = none → r = rSTANDBY → s.twin.partner = rACTIVE → s.linkUp = true →
      next .handoverSwitch fun t => TookOver s t true) ∧
    (s.auxOn = false → exec .heartbeatSend s = .next s) ∧
    (s.auxOn = true → next .heartbeatSend fun t => ∃ h : Word,
      bits h 63 56 = 0xD5 ∧ bits h 55 55 = s.fld oTWN_STAT 5 5 ∧
      bits h 54 52 = (if s.rstL = true ∧ s.pwrok = true ∧ s.pwr.emergency = false then r else s.twin.lastRole) % 8 ∧
      bit h 51 = s.twin.deviceFail ∧ bit h 50 = s.linkUp ∧ bit h 49 = s.twin.inSync ∧ bit h 48 = false ∧
      bits h 47 8 = s.tickNum % 2 ^ 40 ∧ bits h 7 0 = crc8 h ∧
      (s.linkUp = false → t = { s with out := .heartbeat .pins h :: s.out }) ∧
      (s.linkUp = true → SendsDal (s.emit (.heartbeat .pins h)) t 6 0 (bits h 31 0) (leBytes 8 h.toNat) ∧
        t = { s with out := t.out, twin := t.twin } ∧ t.twin.txSeq = (s.twin.txSeq + 1) % 2 ^ 48)) ∧
    (∀ h : Word,
      let good := bits h 63 56 = 0xD5 ∧ bits h 7 0 = crc8 h
      let own := bits h 55 55 = s.fld oTWN_STAT 5 5
      let their := bits h 54 52
      let seqd : TwinUnit := { s.twin with rxSeq := (s.twin.rxSeq + 1) % 2 ^ 48 }
      let heardPins : TwinUnit := { s.twin with
        partner := their, partnerSync := bit h 49, missPins := 0, bulkSent := if their = rRESYNC then s.twin.bulkSent else 0 }
      let heardLink : TwinUnit := { seqd with
        partner := their, partnerSync := bit h 49, missLink := 0, bulkSent := if their = rRESYNC then s.twin.bulkSent else 0 }
      let plain := s.twinOn = true → r ≠ rELECTING ∧ bit h 51 = false ∧ (r = rACTIVE → their ≠ rRESYNC)
      (s.twin.pinsIgnored = true → next (.heartbeatReceive .pins h w) fun t => Regs s t [oTCK_TIME]) ∧
      (s.twin.pinsIgnored = false → ¬good → s.twin.hbBad ≠ 16 → next (.heartbeatReceive .pins h w) fun t =>
        OnlyRegs s t [oTCK_TIME, cDEV 4] ∧ t.reg (cDEV 4) = countBy (s.reg (cDEV 4)) 1 ∧
        t = { s with regs := t.regs, twin := { s.twin with hbBad := s.twin.hbBad + 1 } }) ∧
      (s.twin.pinsIgnored = false → ¬good → s.twin.hbBad = 16 → ∃ v, OnlyRegs s v [oTCK_TIME, cDEV 4] ∧
        v = { s with regs := v.regs, twin := { s.twin with hbBad := 17, pinsIgnored := true } } ∧
        exec (.heartbeatReceive .pins h w) s = .next (v.record (mkRec 1 srcTwin 4))) ∧
      (¬good → next (.heartbeatReceive .link h w) fun t => twinOnly t seqd) ∧
      (good → own → s.twin.pinsIgnored = false → next (.heartbeatReceive .pins h w) fun t =>
        t.role = rSOLO ∧ t.reg (cDEV 5) = countBy (s.reg (cDEV 5)) 1) ∧
      (good → ¬own → s.twin.pinsIgnored = false → plain → next (.heartbeatReceive .pins h w) fun t =>
        OnlyRegs s t [oTCK_TIME, oTWN_STAT] ∧ t.reg oTWN_STAT = insBits (s.reg oTWN_STAT) 7 7 1 ∧
        t = { s with regs := t.regs, twin := heardPins }) ∧
      (good → ¬own → plain → next (.heartbeatReceive .link h w) fun t => twinOnly t heardLink) ∧
      (good → ¬own → s.twinOn = true → bit h 51 = false → r = rELECTING → their = rACTIVE →
        next (.heartbeatReceive .link h w) silent) ∧
      (good → ¬own → s.twinOn = true → bit h 51 = false → r = rELECTING → their = rELECTING →
        let mine := s.fld oTWN_CTL 6 5
        let same := mine = s.freeVal.toNat % 4
        let win := if same ∧ mine = 1 then 1 else 0
        next (.heartbeatReceive .link h w) fun t => (¬same → t.flag oTWN_STAT 11 = true) ∧
          t.role = if s.fld oTWN_STAT 5 5 = win then rACTIVE else rRESYNC) ∧
      (good → ¬own → s.twinOn = true → bit h 51 = true → r = rSTANDBY → next (.heartbeatReceive .link h w) fun t =>
        t.role = rACTIVE ∧ t.flag oTWN_STAT 13 = true) ∧
      (good → ¬own → s.twinOn = true → bit h 51 = true → r = rSTALE → next (.heartbeatReceive .link h w) fun t =>
        t.role = rSTALE ∧ t.freeCtr = s.freeCtr + 1) ∧
      (good → ¬own → s.twinOn = true → bit h 51 = false → r = rACTIVE → their = rRESYNC → s.twin.bulkSent = 0 → s.linkUp = true →
        next (.heartbeatReceive .link h w) fun t => t.role = rACTIVE ∧ t.twin.bulkSent = 1 ∧
          (s.freeVal.getLsbD 0 = true → t.twin.mirrorNext = true) ∧ (s.freeVal.getLsbD 0 = false → t.flag oTWN_STAT 11 = true))) ∧
    (s.twinOn = false → ∀ p, exec (.heartbeatMiss p) s = .next s) ∧
    (s.twinOn = true →
      let pins := s.twin.missPins + 1
      let link := s.twin.missLink + 1
      (pins ≠ 4 → next (.heartbeatMiss .pins) fun t => t = { s with twin := { s.twin with missPins := pins } }) ∧
      (link ≠ 4 ∨ s.twin.missPins < 4 ∨ s.linkUp = false → next (.heartbeatMiss .link) fun t =>
        t = { s with twin := { s.twin with missLink := link } }) ∧
      (pins = 4 → s.twin.missLink < 4 ∨ s.linkUp = false → next (.heartbeatMiss .pins) fun t =>
        t.flag oTWN_STAT 10 = true ∧ t.flag oTWN_STAT 7 = false ∧ t.role = r ∧ t.twin.missPins = 4 ∧ t.twin.handover = none) ∧
      (pins = 4 → 4 ≤ s.twin.missLink → s.linkUp = true → r = rSTANDBY → next (.heartbeatMiss .pins) fun t =>
        t.role = rACTIVE ∧ t.flag oTWN_STAT 13 = true ∧ t.flag oTWN_STAT 10 = true) ∧
      (link = 4 → 4 ≤ s.twin.missPins → s.linkUp = true → r = rSTANDBY → next (.heartbeatMiss .link) took)) ∧
    (s.linkUp = false → exec .dalnosLinkLoss s = .next s) ∧
    (s.linkUp = true → next .dalnosLinkLoss fun t => t.linkUp = false ∧ t.fld oTWN_STAT 34 32 = 0 ∧ t.flag oTWN_STAT 9 = true ∧
      t.twin.handover = none ∧ t.twin.rdTags = [] ∧
      t.role = (if r = rRESYNC ∨ (r = rSTANDBY ∧ s.twin.missPins < 4) then rSTALE else r) ∧
      (r = rACTIVE → s.twin.mirrorOn = true → t.twin.mirrorOn = false ∧ t.twin.bypass = true ∧
        ∀ u : UnitId, s.mirrorSet u = true → t.flag (oJNL_STAT u) 1 = true ∧
          t.reg (cUNIT u 11) = countBy (s.reg (cUNIT u 11)) 1)) ∧
    ∀ (lanes : BitVec 16) (delay : Nat),
      let width := if lanes = 0xFFFF then 3 else if lanes &&& 0xFF = 0xFF ∨ lanes &&& 0xFF00 = 0xFF00 then 2
        else if lanes &&& 0xF = 0xF ∨ lanes &&& 0xF000 = 0xF000 then 1 else 0
      (width = 0 ∨ s.domainOn 29 = false → exec (.dalnosLinkUp lanes delay) s = .next s) ∧
      (width ≠ 0 → s.domainOn 29 = true → next (.dalnosLinkUp lanes delay) fun t => OnlyRegs s t [oTWN_STAT] ∧
        t = { s with regs := t.regs, twin := t.twin } ∧ t.linkUp = true ∧ t.fld oTWN_STAT 34 32 = width ∧ t.role = r ∧
        t.twin = if s.linkUp = true then { s.twin with linkDelay := delay }
          else { s.twin with linkDelay := delay, txSeq := 0, rxSeq := 0, replay := [], missLink := 0 })

/-- The frames of the Dalnos link: a bad frame or a gap is answered with LNAK; payloads, entries, acknowledgements and frees keep the
standby's copies; STATE and TICK carry numbers; BULK and the end of the copy bring a unit into step; payloads are read back; LNAK has
frames sent again (R355, R356, R453, R454, R465).
Where it rests on the model's choices: assumptions 59, 60, 61. -/
def Obligations.DalnosFrames : Prop :=
  (∀ (s : State) (f : DalFrame),
     let rows : List (Nat × Instr) := [(0, .dalIdle f), (1, .dalPayload f), (2, .dalEntry f), (3, .dalMack f), (4, .dalFree f),
       (5, .dalState f), (7, .dalTick f), (8, .dalBulk f), (9, .dalRdreq f), (9, .dalRdrsp f), (10, .dalLnak f)]
     let x := s.twin.rxSeq
     let lnak := fun (t : State) => SendsDal s t 10 0 (x % 2 ^ 32) [] ∧ t = { s with out := t.out }
     ∀ row ∈ rows,
       (s.linkUp = false ∨ f.ty ≠ row.1 → exec row.2 s = .next s) ∧
       (s.linkUp = true → f.ty = row.1 →
         (f.good = false → ∃ t, exec row.2 s = .next t ∧ lnak t) ∧
         (f.good = true → row.1 ≠ 0 → row.1 ≠ 10 →
           (seqAfter f.lseq x = true → f.lseq ≠ x → ∃ t, exec row.2 s = .next t ∧ lnak t) ∧
           (seqAfter f.lseq x = false → f.lseq ≠ x → exec row.2 s = .next s)) ∧
         (f.good = true → row.1 = 0 → exec row.2 s = .next s))) ∧
  (∀ s : State,
     (s.role = rRESYNC → ∃ t, exec .resyncComplete s = .next t ∧ t.role = rSTANDBY ∧ t.twin.inSync = true ∧ t.twin.bulkIn = [] ∧
       t.fld oTWN_STAT 47 40 = 100 ∧ t.fld oTCK_CTL 2 0 = 5) ∧
     (s.role = rACTIVE → s.twin.bulkSent ≠ 0 → s.linkUp = true → ∃ t, exec .resyncComplete s = .next t ∧ OnlyRegs s t [oTWN_STAT] ∧
       t.fld oTWN_STAT 47 40 = 100 ∧ t = { s with regs := t.regs, twin := { s.twin with partner := rSTANDBY } }) ∧
     (s.role ≠ rRESYNC → s.role ≠ rACTIVE ∨ s.twin.bulkSent = 0 ∨ s.linkUp = false → exec .resyncComplete s = .next s)) ∧
  (∀ (s : State) (f : DalFrame), s.linkUp = true → f.good = true → f.ty = 10 → ∃ t, exec (.dalLnak f) s = .next t ∧
     t = { s with out := ((s.replayBuffer.dropWhile fun g => decide (g.lseq % 2 ^ 32 ≠ f.arg)).map OutEvent.dal).reverse ++ s.out }) ∧
  ∀ (s : State) (f : DalFrame), s.linkUp = true → f.good = true → f.lseq = s.twin.rxSeq →
    let u := dalUnit f
    let next := fun (ty : Nat) (x : Instr) (P : State → Prop) => f.ty = ty → ∃ t, exec x s = .next t ∧ P t
    let seqd : TwinUnit := { s.twin with rxSeq := (s.twin.rxSeq + 1) % 2 ^ 48 }
    let only := fun (t : State) => t = { s with twin := seqd }
    let held := s.role = rSTANDBY ∨ s.role = rRESYNC
    let follows := rSTANDBY ≤ s.role ∧ s.role ≤ rRESYNC
    let ws := bytesWords f.payload
    let jnOthers := fun (t : State) => ∀ v, v ≠ u → t.jn v = s.jn v
    (¬held → next 1 (.dalPayload f) only ∧ next 2 (.dalEntry f) only ∧ next 4 (.dalFree f) only) ∧
    (held →
      (let doff := f.arg % 2 ^ 30
       let area := s.poolArea u
       doff % 64 = 0 → area.1 ≤ doff → doff + f.len ≤ area.1 + area.2 → (s.jn u).mirPayload = [] → next 1 (.dalPayload f) fun t =>
         OnlyRegs s t [oJNL_STAT u] ∧ jnOthers t ∧ t.mem = s.mem.putRaws (journalBase + doff) ws ∧
         t.jn u = { s.jn u with pool := (⟨doff, f.len⟩, 1) :: (s.jn u).pool.filter fun q => q.1.doff ≠ doff } ∧
         t.twin = { seqd with heldPay := (u.val, doff) :: s.twin.heldPay.filter (· ≠ (u.val, doff)) } ∧
         t = { s with regs := t.regs, mem := t.mem, jnl := t.jnl, twin := t.twin }) ∧
      (let e := JEntry.ofWords ws
       let n := seqNext e.seq
       let i := f.arg
       f.len = 64 → i < 65536 → e.keeps = false → (s.jn u).slots = [] → next 2 (.dalEntry f) fun t =>
         EntryTo s t u i e ∧ jnOthers t ∧ t.jn u = { s.jn u with slots := [i], lastSlot := i, mirPayload := [] } ∧
         SendsDal s t 3 u i [] ∧ OnlyRegs s t [oJNL_STAT u, oJNL_OSEQ u e.ep] ∧
         t.oseq u e.ep = (if seqAfter n (s.oseq u e.ep) = true then n else s.oseq u e.ep) ∧
         t = { s with regs := t.regs, mem := t.mem, jnl := t.jnl, twin := t.twin, out := t.out }) ∧
      (∀ i, (s.jn u).slots = [i] → i < 65536 → CopiesOk s u i → f.payload = leBytes 2 i → f.arg = 1 → (s.entry u i).keeps = false →
        next 4 (.dalFree f) fun t => EntryTo s t u i { s.entry u i with state := jFREE } ∧ jnOthers t ∧ (t.jn u).slots = [] ∧
          (t.jn u).pool = (s.jn u).pool ∧ OnlyRegs s t [oJNL_STAT u] ∧
          t = { s with regs := t.regs, mem := t.mem, jnl := t.jnl, twin := seqd })) ∧
    (s.role ≠ rACTIVE ∨ f.arg ∉ (s.jn u).slots → next 3 (.dalMack f) only) ∧
    (∀ i, s.role = rACTIVE → (s.jn u).slots = [i] → f.arg = i → i < 65536 → CopiesOk s u i →
      let e := s.entry u i
      let key := 65536 * u.val + i
      next 3 (.dalMack f) fun t => jnOthers t ∧
        t.jn u = { s.jn u with
          mirEntry := (s.jn u).mirEntry.filter (· ≠ i), mirPayload := (s.jn u).mirPayload.filter (· ≠ i)
          mirDone := (s.jn u).mirDone.filter (· ≠ i) ++ [i] } ∧
        t.twin = { seqd with bulk := s.twin.bulk.filter (· ≠ key) } ∧ t = { s with mem := t.mem, jnl := t.jnl, twin := t.twin } ∧
        (key ∉ s.twin.bulk → e.state = jWRITTEN → EntryTo s t u i { e with state := jREADY }) ∧
        (key ∉ s.twin.bulk → e.state ≠ jWRITTEN → t.mem = s.mem) ∧
        (key ∈ s.twin.bulk → e.flag 3 = true → e.state ≠ jWRITTEN → EntryTo s t u i { e with flags := e.flags &&& ~~~(8 : Byte) })) ∧
    (¬follows → next 5 (.dalState f) only ∧ next 7 (.dalTick f) only) ∧
    (follows → f.len = 4136 → next 5 (.dalState f) fun t =>
      t.twin.rxSeq = seqd.rxSeq ∧ t.twin.twinTick = bits (ws.getD 0 0) 47 0 ∧ t.twin.twinDigest = some (ws.getD 2 0) ∧
      (∀ (p : PortId) (ep : EpId), t.iseq p ep = bits (ws.getD (5 + 64 * p.val + ep.val) 0) 47 0) ∧
      (∀ p : PortId,
        let v := bits (ws.getD (3 + p.val / 4) 0) (16 * (p.val % 4) + 15) (16 * (p.val % 4))
        t.portEpoch p = if isAfter 16 v (s.portEpoch p) = true then v else s.portEpoch p) ∧
      t.role = (if ws.getD 2 0 = s.g0Digest then s.role else rSTALE) ∧
      t.flag oTWN_STAT 11 = (s.flag oTWN_STAT 11 || decide (ws.getD 2 0 ≠ s.g0Digest))) ∧
    (follows → f.len = 16 → s.tick.src = 5 →
      let at_ := (ws.getD 1 0).toNat + s.twin.linkDelay
      let T := bits (ws.getD 0 0) 47 0
      at_ < 2 ^ 64 → s.now.toNat ≤ at_ →
        (s.tkState = 0 → next 7 (.dalTick f) fun t => OnlyRegs s t [oTCK_TIME] ∧ t = { s with regs := t.regs, twin := seqd }) ∧
        (Still s → s.tick.srcDue = none → s.tkState = 2 →
          (s.edgeTime + s.tmin ≤ at_ → next 7 (.dalTick f) fun t => Ticked s t T at_ 0 ∧ t.tkState = 2) ∧
          (at_ < s.edgeTime + s.tmin → next 7 (.dalTick f) fun t => OnlyRegs s t [oTCK_TIME, cDEV 0, oTCK_STAT] ∧
            t.tickNum = s.tickNum ∧ t.reg (cDEV 0) = countBy (s.reg (cDEV 0)) 1))) ∧
    (s.role ≠ rRESYNC → next 8 (.dalBulk f) only) ∧
    (s.role = rRESYNC → next 8 (.dalBulk f) fun t => OnlyRegs s t [oTWN_STAT] ∧ t.fld oTWN_STAT 47 40 ≤ 100 ∧ t.role = rRESYNC ∧
      t = { s with regs := t.regs, freeCtr := s.freeCtr + 1, twin := { seqd with bulkIn := s.twin.bulkIn ++ [f.payload] } }) ∧
    (let w := ws.getD 0 0
     let v : UnitId := ⟨bits w 35 32 % 9, Nat.mod_lt _ (by decide)⟩
     let answers := fun (bs : List Byte) => next 9 (.dalRdreq f) fun t => SendsDal s t 9 0 f.arg bs ∧
       t = { s with twin := t.twin, out := t.out }
     (∀ p ∈ (s.jn v).pool, p.1.doff ≠ bits w 29 0) → answers []) ∧
    (let w := ws.getD 0 0
     let v : UnitId := ⟨bits w 35 32 % 9, Nat.mod_lt _ (by decide)⟩
     ∀ p c, (s.jn v).pool.find? (fun p => p.1.doff = bits w 29 0) = some (p, c) → p.len ≤ 8192 → next 9 (.dalRdreq f) fun t =>
       SendsDal s t 9 0 f.arg (if s.payloadOk p = true then s.payloadBytes p else []) ∧ t = { s with twin := t.twin, out := t.out }) ∧
    ((∀ g ∈ s.twin.rdTags, g.1 ≠ f.arg) → next 9 (.dalRdrsp f) only) ∧
    (∀ (v : UnitId) (i : Nat) (l r : List (Nat × Nat × Nat)), s.twin.rdTags = l ++ (f.arg, v.val, i) :: r → (∀ g ∈ l, g.1 ≠ f.arg) →
      i ∈ (s.jn v).rdWait → f.payload ≠ [] → f.payload.length = (s.entry v i).len → next 9 (.dalRdrsp f) fun t =>
        t.mem = s.mem.putRaws (journalBase + (s.entry v i).doff) ws ∧
        t.jn v = { s.jn v with rdWait := (s.jn v).rdWait.filter (· ≠ i) } ∧ (∀ z, z ≠ v → t.jn z = s.jn z) ∧
        t.twin = { seqd with rdTags := s.twin.rdTags.filter fun g => g.1 ≠ f.arg } ∧
        t = { s with mem := t.mem, jnl := t.jnl, twin := t.twin })

/-! Partitions, Esfort and field access. -/

/-- Partitions: PRT_CMD, the entry into service with the root block and the entry capabilities, and the clearing of frames (R470, R472,
R473, R475, R477).
Where it rests on the model's choices: assumptions 39, 63, 64. -/
def Obligations.Partitions : Prop :=
  ∀ (s : State) (i : Initiator) (n : PartId),
    let st := s.partState n
    let due := fun (w : BitVec 8) => w ||| BitVec.ofNat 8 (2 ^ n.val)
    let refused := fun (x : Instr) => ∃ u, Same s u ∧ exec x s = .next (u.accessRecord i oPRT_CMD true)
    let cpsOnly := fun (t : State) (b : Bool) => OnlyRegs s t [oPRT_STAT n] ∧ t = { s with regs := t.regs, pcie := t.pcie, cps := t.cps } ∧
      ∀ k : CpId, t.cp k = if k ∈ s.partCps n then { s.cp k with halted := b } else s.cp k
    (Manager s i →
      (st = ptLOADING → ∃ t, exec (.prtStart i n) s = .next t ∧ t.startDue = due s.startDue ∧ Same s { t with startDue := s.startDue }) ∧
      (st ≠ ptLOADING → refused (.prtStart i n)) ∧
      (st = ptRUNNING → ∃ t, exec (.prtHalt i n) s = .next t ∧ cpsOnly t true ∧ t.partState n = ptHALTED) ∧
      (st ≠ ptRUNNING → refused (.prtHalt i n)) ∧
      (st = ptHALTED → ∃ t, exec (.prtResume i n) s = .next t ∧ cpsOnly t false ∧ t.partState n = ptRUNNING) ∧
      (st ≠ ptHALTED → refused (.prtResume i n)) ∧
      (st = ptRUNNING ∨ st = ptHALTED → ∃ t, exec (.prtRestart i n) s = .next t ∧ t.startDue = due s.startDue ∧ t.partState n = st ∧
        ∀ e : UnitId, ∀ p ∈ (t.eng e).queue, p.part ≠ n) ∧
      (st ≠ ptRUNNING → st ≠ ptHALTED → refused (.prtRestart i n))) ∧
    (s.startDue.getLsbD n = false → exec (.partitionEnterService n) s = .next s) ∧
    (s.startDue.getLsbD n = true → ∃ t, exec (.partitionEnterService n) s = .next t ∧ t.partState n = ptRUNNING ∧
      t.startDue.getLsbD n = false ∧ t.tick.t0[n] = s.tickNum ∧
      (∀ pa d, s.xlate n 0x1FF000 false = .ok pa d → Fresh s →
        let holds := fun (j : Nat) (x : TWord) => t.mem.word (pa + 8 * j) = { x with col := (s.mem.word (pa + 8 * j)).col }
        let pair := fun (j : Nat) (c : Cap) => holds j c.pair.1 ∧ holds (j + 1) c.pair.2
        pair 0 (s.rootCap n) ∧ pair 2 ⟨1, 0xFD, pSEAL ||| pUNSEAL, 0, false⟩ ∧
        holds 4 (TWord.ofRaw (BitVec.ofNat 64 (n.val + s.fld (oPRT_CTL n) 15 0 * 2 ^ 16))) ∧
        holds 5 (TWord.ofRaw (BitVec.ofNat 64 s.tickNum)) ∧
        pair 6 ⟨0xFFFFFFFFFFF00000, 0x100000, pLOAD ||| pSTORE, 0, false⟩ ∧ ∀ j, 8 ≤ j → j < 512 → holds j TWord.raw0) ∧
      ∀ k : CpId, (k ∉ s.partCps n → t.cp k = s.cp k) ∧
        (k ∈ s.partCps n → s.partOf k = some n → (s.siteOf k).isSome = true →
          let j := (List.range k.val).countP fun i => s.flag (oPRT_CTL n) i
          (t.cp k).inService = true ∧ (t.cp k).halted = false ∧ (t.cp k).checkstop = false ∧ (t.cp k).held = [] ∧
          t.cr k = { CpRegs.init ⟨BitVec.ofNat 64 (4 * j), BitVec.ofNat 40 (0x200000 - 4 * j), pLOAD ||| pEXEC ||| pLDCAP ||| pSYS, 0, false⟩
            with evpend := (t.cr k).evpend })) ∧
    (s.clearing[n] = [] → st ≠ ptCLEARING → exec (.frameClearDone n) s = .next s) ∧
    (s.clearing[n] ≠ [] ∨ st = ptCLEARING → ∃ t, exec (.frameClearDone n) s = .next t ∧ t.clearing[n] = [] ∧
      t.fld (oPRT_STAT n) 39 32 = 100 ∧ t.partState n = (if st = ptCLEARING then ptNONE else st) ∧
      (Fresh s → (∀ f ∈ s.clearing[n], f < 57344) → ∀ a, a % 8 = 0 → a < dataEnd →
        t.mem.word a = if a / 2 ^ 21 ∈ s.clearing[n] then TWord.raw0 else s.mem.word a))

/-- Esfort: challenges, identity, attestation and measurement, signed requests and what each changes, the lifecycle, sessions by challenge
and by password, boundary control and access through the IEEE 1149.1 port (R493, R495, R496, R497, R498, R499, R500, R501, R502, R503,
R504, R505). The verdict of a signature is a free value, so both outcomes are stated.
Where it rests on the model's choices: assumptions 66, 67, 68, 69, 71. -/
def Obligations.Esfort : Prop :=
  ∀ (s : State) (m : Mailbox) (sg : Signed) (sc : Scope),
    let next := fun (x : Instr) (P : State → Prop) => ∃ t, exec x s = .next t ∧ P t
    let stays := fun (x : Instr) => exec x s = .next s
    let up := s.auxOn = true ∧ (m = .smbus ∨ s.rstL = true ∧ s.pwr.emergency = false ∧ s.fld oESF_STAT 7 6 ≠ 3)
    let lc := s.fld oESF_STAT 3 0
    let lcb : Byte := BitVec.ofNat 8 lc
    let error := fun (t : State) => t.freeCtr = s.freeCtr + 1 ∧ t.nv = s.nv ∧ ∃ e, e ≠ 0 ∧ t.resp = .doe e []
    let refused := fun (t : State) => error t ∧ t.esf = s.esf ∧ t.reg oESF_STAT = s.reg oESF_STAT
    let failed := fun (t : State) => error t ∧ t.reg oESF_STAT = s.reg oESF_STAT ∧
      t.esf = { s.esf with chal := s.esf.chal.set (mailboxNo m) none }
    let ok := fun (t : State) => t.resp = .doe 0 []
    let verified := fun (key : Option (List Byte)) (body : List Byte) (ctx : String) => ∃ c k, s.esf.chal[mailboxNo m] = some c ∧
      key = some k ∧ Config.mldsaVerify k (c ++ deviceId ++ body) (ascii ctx) sg.sig = true
    let signed := fun (x : Instr) (allowed : Prop) (key : Option (List Byte)) (body : List Byte) (act : State → Prop) =>
      next x fun t =>
        (allowed ∧ verified key body "KR9600-CMD" → ok t ∧ t.esf.chal[mailboxNo m] = none ∧ act t) ∧
        (¬(allowed ∧ verified key body "KR9600-CMD") → failed t)
    let reach := fun (c : Scope) => ∀ n, m = .vf n → c = .part n
    let owned := lc = 1 ∨ lc = 2
    let image := if sha3_384 sg.key = Config.selaufenImageKeyDigest then some sg.key else none
    let keys := fun (t : State) (c : Scope) => t.keysOf c
    let others := fun (t : State) (c : Scope) => ∀ d, d ≠ c → t.keysOf d = s.keysOf d
    let closed := fun (t : State) (c : Scope) => t.flag oESF_STAT (sessionBit c) = false
    let opened := fun (t : State) (c : Scope) => t.flag oESF_STAT (sessionBit c) = true
    let extended := fun (t : State) (k : Nat) (v : List Byte) =>
      ∀ w < 6, (sha3_384 (s.slot k ++ v)).length = 48 → t.reg (oESF_MEAS k w) = (bytesWords (sha3_384 (s.slot k ++ v))).getD w 0
    (¬up → ∀ (a b : List Byte) (p : Bool) (n : PartId) (kind svn : BitVec 16) (target : BitVec 4), ∀ x ∈ [Instr.getChallenge m, .getIdentity m,
      .attest m a, .extend m a, .enrollOwner m a b sg, .transferOwner m a b p sg, .enrollPart m n a b sg, .setDebug m sc a sg,
      .setPassword m sc a b sg, .kwkSet m sc p a sg, .svnAdvance m kind svn sg, .ideKey m a sg, .lifecycle m target sg, .faResponse m sc sg,
      .faPassword m sc a, .faClose m sc], stays x) ∧
    (up →
      (let c := Config.challenge s.esf.chalCount
       exec (.getChallenge m) s = .next { s with
         esf := { s.esf with chal := s.esf.chal.set (mailboxNo m) (some c), chalCount := s.esf.chalCount + 1 }, resp := .doe 0 c }) ∧
      exec (.getIdentity m) s = .next { s with resp := .doe 0 Config.identityCert } ∧
      (∀ nonce, (nonce.length = 32 → ∃ r, exec (.attest m nonce) s = .next { s with
          resp := .doe 0 (r ++ Config.mldsaSign r (ascii "KR9600-ATT")) } ∧
          r.take 40 = leBytes 4 0x41549600 ++ [1, 0, lcb, match m with | .vf n => BitVec.ofNat 8 n.val | _ => 0xFF] ++ nonce ∧
          ∃ h z : List Byte, ∃ mask : Nat, r = h ++ leBytes 2 mask ++ List.replicate 14 0 ++ z ∧
            mask = (match m with | .vf n => 0x6000 + 0x1F + 2 ^ (5 + n.val) | _ => 0xFFFF) ∧
            z = ((List.range 16).map fun k => if mask.testBit k then s.slot k else List.replicate 48 0).flatten) ∧
        (nonce.length ≠ 32 → next (.attest m nonce) refused)) ∧
      (∀ v, (m = .pf0 → v.length = 48 → next (.extend m v) fun t => ok t ∧ extended t 15 v ∧
          OnlyRegs s t ((List.range 6).map (oESF_MEAS 15)) ∧ t = { s with regs := t.regs, resp := t.resp }) ∧
        (m ≠ .pf0 ∨ v.length ≠ 48 → next (.extend m v) refused)) ∧
      (∀ owner dbg : List Byte,
        let good := owner.length = 2592 ∧ dbg.length = 2592
        signed (.enrollOwner m owner dbg sg) (reach .dev ∧ lc = 1 ∧ s.nv.dev.owner = none ∧ good) image (0x10 :: owner ++ dbg) (fun t =>
          keys t .dev = { s.nv.dev with owner := some owner, debug := some dbg } ∧ others t .dev) ∧
        (∀ clr : Bool, signed (.transferOwner m owner dbg clr sg) (reach .dev ∧ owned ∧ good) s.nv.dev.owner
          (0x11 :: owner ++ dbg ++ [if clr then 1 else 0]) fun t =>
            keys t .dev = ⟨some owner, some dbg, [], [], none⟩ ∧ (lc = 2 → closed t .dev) ∧
            ∀ n, keys t (.part n) = if clr = true then ScopeKeys.none else s.nv.parts[n]) ∧
        ∀ n : PartId, signed (.enrollPart m n owner dbg sg) (reach (.part n) ∧ owned ∧ good) s.nv.dev.owner
          (0x12 :: BitVec.ofNat 8 n.val :: owner ++ dbg) fun t =>
            keys t (.part n) = { s.nv.parts[n] with owner := some owner, debug := some dbg, seed := none } ∧ others t (.part n) ∧
            closed t (.part n)) ∧
      (∀ dbg, signed (.setDebug m sc dbg sg) (reach sc ∧ owned ∧ dbg.length = 2592) (keys s sc).owner (0x13 :: scopeByte sc :: dbg)
        fun t => keys t sc = { s.keysOf sc with debug := some dbg } ∧ others t sc) ∧
      (∀ salt digest : List Byte, signed (.setPassword m sc salt digest sg) (reach sc ∧ owned ∧ salt.length = 32 ∧ digest.length = 48)
        (keys s sc).owner (0x14 :: scopeByte sc :: salt ++ digest) fun t => others t sc ∧
          keys t sc = if ∀ b ∈ digest, b = 0 then { s.keysOf sc with salt := [], digest := [] }
            else { s.keysOf sc with salt := salt, digest := digest }) ∧
      (∀ seed, signed (.kwkSet m sc false seed sg) (reach sc ∧ owned ∧ (lc = 1 → seed.length = 32) ∧ (lc = 2 → (s.unwrapSeed sc sc seed).isSome))
          (if lc = 1 then s.nv.dev.owner else (keys s sc).owner) (0x15 :: scopeByte sc :: 0 :: seed) (fun t => others t sc ∧
            keys t sc = { s.keysOf sc with seed := if lc = 1 then some seed else s.unwrapSeed sc sc seed }) ∧
        signed (.kwkSet m sc true seed sg) (reach sc ∧ owned ∧ (lc = 1 → seed.length = 32) ∧ (lc = 2 → (s.unwrapSeed .dev sc seed).isSome))
          s.nv.dev.owner (0x15 :: scopeByte sc :: 1 :: seed) fun t => others t sc ∧
            keys t sc = { s.keysOf sc with seed := if lc = 1 then some seed else s.unwrapSeed .dev sc seed }) ∧
      (∀ kind svn : BitVec 16,
        let i := kind.toNat - 1
        let old := s.nv.svn.toList.getD i 0
        signed (.svnAdvance m kind svn sg) (reach .dev ∧ lc = 2 ∧ 1 ≤ kind.toNat ∧ kind.toNat ≤ 4 ∧ old ≤ svn.toNat ∧
            svn.toNat ≤ s.nv.svnNow.toList.getD i 0) s.nv.dev.owner (0x16 :: leBytes 2 kind.toNat ++ leBytes 2 svn.toNat) fun t =>
          t.nv.svn = s.nv.svn.setIfInBounds i svn.toNat ∧ t.fld oESF_SVN (16 * i + 15) (16 * i) = svn.toNat ∧ others t .dev) ∧
      (∀ body, signed (.ideKey m body sg) (m = .pf0 ∧ owned ∧ (s.ideMaterial body).isSome) s.nv.dev.owner (0x17 :: body) fun t =>
        ∀ j k, s.ideMaterial body = some (j, k) → t.pcie = { s.pcie with ideKeys := alIns s.pcie.ideKeys j k }) ∧
      (∀ target : BitVec 4,
        let body : List Byte := [0x20, target.setWidth 8]
        let moves := fun (t : State) => t.nv = { s.nv with lifeNext := some target.toNat, returnHalf := false } ∧ t.rstL = false ∧
          closed t .dev ∧ ∀ n, closed t (.part n)
        (lc = 0 → target = 1 → signed (.lifecycle m target sg) (reach .dev) image body moves) ∧
        (lc = 1 → target = 2 → signed (.lifecycle m target sg)
          (reach .dev ∧ s.nv.dev.owner.isSome = true ∧ s.nv.dev.seed.isSome = true) s.nv.dev.owner body moves) ∧
        (lc = 2 → target = 3 →
          (s.nv.returnHalf = true → image.isSome = true → signed (.lifecycle m target sg) (reach .dev) image body moves) ∧
          (s.nv.returnHalf = false ∨ image = none → signed (.lifecycle m target sg) (reach .dev) s.nv.dev.owner body fun t =>
            t.nv = { s.nv with returnHalf := true } ∧ t.rstL = s.rstL)) ∧
        ((lc ≠ 0 ∨ target ≠ 1) → (lc ≠ 1 ∨ target ≠ 2) → (lc ≠ 2 ∨ target ≠ 3) → next (.lifecycle m target sg) failed)) ∧
      (let key := if lc = 3 then (if sc = .dev then image else none) else (keys s sc).debug
       let good := reach sc ∧ 2 ≤ lc ∧ verified key [scopeByte sc, lcb] "KR9600-FA"
       next (.faResponse m sc sg) fun t => (good → ok t ∧ opened t sc ∧ t.esf.chal[mailboxNo m] = none ∧ t.nv = s.nv ∧
           (closed s sc → extended t 14 ([lcb, scopeByte sc, 1] ++ List.replicate 45 0))) ∧
         (¬good → failed t)) ∧
      (∀ pw : List Byte,
        let k := s.keysOf sc
        let wait := bits s.esfStat 47 32
        let good := k.digest ≠ [] ∧ sha3_384 (k.salt ++ pw) = k.digest
        let f := s.fld oESF_STAT 31 28 + 1
        (¬reach sc ∨ lc ≠ 2 → next (.faPassword m sc pw) refused) ∧
        (reach sc → lc = 2 → wait ≠ 0 ∨ pw.length < 16 ∨ 64 < pw.length → next (.faPassword m sc pw) refused) ∧
        (reach sc → lc = 2 → wait = 0 → 16 ≤ pw.length → pw.length ≤ 64 →
          (good → next (.faPassword m sc pw) fun t => ok t ∧ opened t sc ∧ t.nv = s.nv ∧ t.fld oESF_STAT 31 28 = s.fld oESF_STAT 31 28) ∧
          (¬good → next (.faPassword m sc pw) fun t => error t ∧ t.fld oESF_STAT 31 28 = f % 16 ∧
            t.fld oESF_STAT 47 32 = (if 10 ≤ f then 0xFFFF else 2 ^ (f - 1)) ∧ t.esf = { s.esf with backoffAt := s.now } ∧
            OnlyRegs s t [oESF_STAT]))) ∧
      (¬reach sc → next (.faClose m sc) refused) ∧
      (reach sc → sc = .dev → lc < 2 → exec (.faClose m sc) s = .next { s with resp := .doe 0 [] }) ∧
      (reach sc → sc ≠ .dev ∨ 2 ≤ lc → next (.faClose m sc) fun t => ok t ∧ closed t sc ∧ t.nv = s.nv ∧ t.esf = s.esf)) ∧
    exec (.challengeExpiry m) s = .next { s with esf := { s.esf with chal := s.esf.chal.set (mailboxNo m) none } } ∧
    (let b := s.fld oESF_STAT 47 32
     (b = 0 ∨ b = 0xFFFF → stays .pwBackoffExpiry) ∧
     (b ≠ 0 → b ≠ 0xFFFF → next .pwBackoffExpiry fun t => Regs s t [oESF_STAT, oTCK_TIME] ∧ t.fld oESF_STAT 47 32 = 0 ∧
       t.fld oESF_STAT 31 0 = s.fld oESF_STAT 31 0 ∧ (s.rstL = false → t.now = s.now))) ∧
    (s.auxOn = false → stays .jtagBoundaryControl) ∧
    (s.auxOn = true → next .jtagBoundaryControl fun t => t.esf = { s.esf with boundary := true } ∧
      extended t 14 ([lcb, 0xFF, 4] ++ List.replicate 45 0) ∧ t = { s with esf := t.esf, regs := t.regs } ∧
      OnlyRegs s t ((List.range 6).map (oESF_MEAS 14)) ∧ ∀ k, t.issuing k = false) ∧
    (s.running = false → ∀ a, stays (.jtagDebugAccess a)) ∧
    (s.running = true → ∀ (off : BitVec 24) (v : Word) (pa : BitVec 40) (w : Word),
      let o := off.toNat
      let at_ := pa.toNat / 8 * 8
      let shut := s.debugOpen none = false ∧ ∀ n : PartId, s.flag oESF_STAT (12 + n.val) = false
      (shut → exec (.jtagDebugAccess (.regRead off)) s = .next { s with resp := .word 0 } ∧ stays (.jtagDebugAccess (.regWrite off v)) ∧
        (at_ + 8 ≤ storageEnd → stays (.jtagDebugAccess (.memRead pa)) ∧ stays (.jtagDebugAccess (.memWrite pa w)))) ∧
      (storageEnd < at_ + 8 → exec (.jtagDebugAccess (.memRead pa)) s = .fault .noStorage ∧
        exec (.jtagDebugAccess (.memWrite pa w)) s = .fault .noStorage) ∧
      (s.debugOpen none = true →
        (∀ fs, regFields o = some fs →
          let all := BitVec.ofNat 64 (definedMask fs)
          exec (.jtagDebugAccess (.regRead off)) s = .next { s with resp := .word (s.liveReg o &&& all) } ∧
          (∀ n : PartId, o = oTCK_PART n → next (.jtagDebugAccess (.regWrite off v)) fun t => OnlyRegs s t [o] ∧
            t.reg o = (s.reg o &&& ~~~all) ||| (v &&& all) ∧ t = { s with regs := t.regs, tick := t.tick } ∧
            t.tick = if bit (v &&& all) 63 = true then { s.tick with doneAt := s.tick.doneAt.set n (some s.now) } else s.tick)) ∧
        (at_ + 8 ≤ storageEnd →
          let x := s.mem.word at_
          exec (.jtagDebugAccess (.memRead pa)) s =
            .next { s with resp := .bytes (leBytes 8 x.data.toNat ++ [x.col ++ x.tag]) x.poison }) ∧
        (at_ < dataEnd → Fresh s → next (.jtagDebugAccess (.memWrite pa w)) fun t =>
          ∀ a, a % 8 = 0 → a < dataEnd →
            t.mem.word a = if a = at_ then { s.mem.word a with data := w, poison := false } else s.mem.word a)))

/-! Start-up, ageing and configuration generations. -/

/-- The lands RST_L, VDD_AUX and PWROK, start-up from Esfort to READY, self-test, ageing, and the generations from COMMIT to a rollback
(R507, R508, R510, R511, R512, R513, R514, R516, R519, R520, R521, R522).
Where it rests on the model's choices: assumptions 58, 66, 73, 74, 75, 76, 77, 78, 84. -/
def Obligations.StartUpAndGenerations : Prop :=
  ∀ (s : State) (i : Initiator),
    let next := fun (x : Instr) (P : State → Prop) => ∃ t, exec x s = .next t ∧ P t
    let stays := fun (x : Instr) => exec x s = .next s
    let stage := fun (t : State) => t.fld oCFG_START 3 0
    let gen := fun (t : State) => t.fld oCFG_STAT 2 0
    let answer := fun (t : State) (r off part : Nat) =>
      t.fld oCFG_STAT 35 32 = r ∧ t.fld oCFG_STAT 63 40 = off % 2 ^ 24 ∧ t.fld oCFG_STAT 39 36 = part % 16
    let retired := fun (t : State) (kind inst : Nat) => ∃ e ∈ t.nv.repair, e.kind.toNat = kind ∧ e.inst.toNat = inst ∧ e.action = 2
    -- the lands
    (∀ b : BootIn,
      let lc := s.nv.lifeNext.getD s.nv.lifecycle
      (s.rstL = true ∨ s.auxOn = false ∨ s.pwrok = false → stays (.coldReset b)) ∧
      (s.rstL = false → s.auxOn = true → s.pwrok = true → next (.coldReset b) fun t =>
        t.rstL = true ∧ t.towPresent = b.towPresent ∧ t.smbAddr = b.smbAddr ∧ t.flag oTWN_STAT 5 = b.unitId ∧
        t.twin.deviceFail = false ∧ t.fld oESF_STAT 3 0 = lc % 16 ∧ t.nv.lifecycle = lc ∧ t.nv.lifeNext = none ∧
        t.fld oESF_STAT 7 6 = (if b.fwStoreOk = true then 1 else if b.fwFlashOk = true then 2 else 3) ∧
        (∀ n : PartId, t.flag oESF_STAT (12 + n.val) = false) ∧ t.flag oESF_STAT 11 = decide (lc % 16 ≤ 1) ∧
        t.esf.chal = Vector.replicate 10 none ∧ t.esf.boundary = false ∧
        (s.nv.lifeNext = some 3 → t.nv.dev = ScopeKeys.none ∧ ∀ n : PartId, t.nv.parts[n] = ScopeKeys.none) ∧
        (b.fwStoreOk = true ∨ b.fwFlashOk = true → stage t = 2 ∧
          (∀ w < 6, t.reg (oESF_MEAS 0 w) = (bytesWords (sha3_384 (List.replicate 48 0 ++ b.fwDigest))).getD w 0) ∧
          (b.repairOk = false → t.nv.repair = []) ∧ (b.repairOk = true → t.nv.repair = s.nv.repair)) ∧
        (b.fwStoreOk = false → b.fwFlashOk = false → stage t = stage s ∧ t.running = false) ∧ t.cps = s.cps ∧ t.engines = s.engines)) ∧
    (s.rstL = false → stays .resetAssert) ∧
    (let always := fun (t : State) => t.nv = s.nv ∧ t.pending = s.pending ∧ t.freeCtr = s.freeCtr ∧ t.mem = s.mem ∧ t.rstL = false ∧
       t.cps = State.reset.cps ∧ t.sites = State.reset.sites ∧ t.engines = State.reset.engines ∧ t.ports = State.reset.ports ∧
       t.jnl = State.reset.jnl ∧ t.tick = State.reset.tick ∧ t.pcie = State.reset.pcie ∧ t.pairs = State.reset.pairs ∧
       t.out = landEvents s t ++ if stage s = 5 then .pin "READY" false :: s.out else s.out
     (s.rstL = true → next .resetAssert fun t => always t ∧ t.auxOn = s.auxOn ∧ t.pwrok = s.pwrok ∧
       (∀ o, o < 0x40000 ∨ 0x50000 ≤ o → o ≠ oTWN_STAT → t.reg o = regReset o) ∧
       (∀ o, 0x40000 ≤ o → o < 0x50000 → o ≠ oESF_STAT → t.reg o = s.reg o) ∧ t.fld oESF_STAT 31 0 = s.fld oESF_STAT 31 0 ∧
       t.flag oTWN_STAT 5 = s.flag oTWN_STAT 5 ∧ t.twin.deviceFail = s.twin.deviceFail ∧
       t.twin.lastRole = if s.pwrok = true ∧ s.pwr.emergency = false then s.role else s.twin.lastRole) ∧
     next .auxPowerLoss fun t => always t ∧ t.auxOn = false ∧ (∀ o, t.reg o = regReset o) ∧
       t.esf = { EsfUnit.reset with chalCount := s.esf.chalCount } ∧ t.twin = TwinUnit.reset) ∧
    (s.auxOn = true → stays .auxPowerUp) ∧
    (s.auxOn = false → next .auxPowerUp fun t => OnlyRegs s t [oESF_STAT, oESF_SVN] ∧ t = { s with regs := t.regs, auxOn := true } ∧
      t.fld oESF_STAT 3 0 = s.nv.lifecycle % 16 ∧ t.fld oESF_SVN 15 0 = s.nv.svn[0] % 2 ^ 16 ∧ t.fld oESF_SVN 31 16 = s.nv.svn[1] % 2 ^ 16 ∧
      t.fld oESF_SVN 47 32 = s.nv.svn[2] % 2 ^ 16 ∧ t.fld oESF_SVN 63 48 = s.nv.svn[3] % 2 ^ 16) ∧
    (∀ l, exec (.pwrokEdge l) s = .next (if s.rstL = true then s else { s with pwrok := l })) ∧
    -- start-up
    (s.running = false ∨ stage s ≠ 2 → ∀ ok r, stays (.hbmTrainingDone ok) ∧ stays (.selfTestDone r)) ∧
    (s.running = true → stage s = 2 →
      exec (.hbmTrainingDone 0xF) s = .next { s with mem := Mem.empty, cfg := { s.cfg with hbmOk := true } } ∧
      (∀ ok : BitVec 4, ok ≠ 0xF → next (.hbmTrainingDone ok) fun t => stage t = 0xF ∧ t.freeCtr = s.freeCtr + 1 ∧
        (s.flag oERR_CAP 1 = false → bits (t.reg (oERR_WORST 0)) 61 59 = 6 ∧
          ∀ n < 4, ok.getLsbD n = false → (∀ m < n, ok.getLsbD m = true) → bits (t.reg (oERR_WORST 0)) 47 40 = 0x40 + n)) ∧
      (s.cfg.hbmOk = false → ∀ r, stays (.selfTestDone r)) ∧
      (s.cfg.hbmOk = true → ∀ r : SelfTestResult,
        (r.arrayLost = true → next (.selfTestDone r) fun t => stage t = 0xF) ∧
        (r.arrayLost = false → next (.selfTestDone r) fun t => stage t = 4 ∧
          t.fld oCFG_START 47 40 = ((List.range 20).countP fun x => r.siteOk.getLsbD x) ∧
          (∀ e ∈ s.nv.repair, e.origin = 0 → e ∈ t.nv.repair) ∧ (∀ e ∈ r.newEntries, e ∈ t.nv.repair) ∧
          (∀ x : SiteId, (r.siteOk.getLsbD x = false → retired t 3 x) ∧
            (r.siteOk.getLsbD x = true → (∀ e ∈ s.nv.repair ++ r.newEntries, e.kind.toNat = 3 → e.inst.toNat ≠ x) → ¬retired t 3 x) ∧
            (r.siteOk.getLsbD x = true → s.nv.passes[x] = 2 → (∀ e ∈ r.newEntries, e.kind.toNat = 3 → e.inst.toNat ≠ x) →
              (∀ e ∈ s.nv.repair, e.kind.toNat = 3 → e.inst.toNat = x → e.origin ≠ 0) → ¬retired t 3 x) ∧
            let good := (List.finRange 20).countP fun y => decide (y < x) && !t.mapped 3 y
            (retired t 3 x → t.bindSt x = bFAILED) ∧
            (¬retired t 3 x → good < 16 → t.bindSt x = bBOUND ∧ t.fld (oCS_BIND x) 11 8 = good ∧ t.fld (oCS_BIND x) 19 16 = 15) ∧
            (¬retired t 3 x → 16 ≤ good → t.bindSt x = bSPARE)) ∧
          (∀ c : CompId, (r.compOk.getLsbD c = false → retired t 4 c) ∧ (retired t 4 c → t.fld (oCMP_UNIT c) 2 0 = uFAILED) ∧
            (¬retired t 4 c → t.fld (oCMP_UNIT c) 2 0 = uSPARE)) ∧
          (∀ l < 15, r.linkOk.getLsbD l = false → t.flag oNOC_LINK l = true) ∧
          (∀ u < 8, (r.pipeOk.getLsbD u = false → t.flag oCIP_STAT u = true) ∧ (r.claneOk.getLsbD u = false → t.flag oCMZ_STAT u = true) ∧
            (r.dlaneOk.getLsbD u = false → t.flag oCMZ_STAT (8 + u) = true)) ∧
          (s.nv.newImages = [] →
            (∀ im, s.selaufenImage 1 r.cpImage = .ok im → ∀ x : SiteId, t.bindSt x ≠ bFAILED →
              (t.site x).seq = (s.site x).seq.load 0 0x3000 (imageWords im) ∧ t.fld (oSITE x 0x100) 47 32 = im.serial.toNat % 2 ^ 16) ∧
            ∀ im, s.selaufenImage 3 r.ceImage = .ok im → ∀ e : UnitId,
              (t.eng e).seq = (s.eng e).seq.load 0 0x1800 (imageWords im) ∧ t.fld (oCE e 0x100) 47 32 = im.serial.toNat % 2 ^ 16)))) ∧
    (s.running = false ∨ stage s ≠ 4 → stays .startupReady) ∧
    (s.running = true → stage s = 4 → next .startupReady fun t => stage t = 5 ∧ OutEvent.pin "READY" true ∈ t.out ∧
      t.role = (if t.flag oTWN_CTL 0 = true then rELECTING else rSOLO) ∧
      (∀ h, s.nv.hwm = some h →
        (∀ (u : UnitId) (ep : Fin 64), t.fld (oJNL_PHWM_OUT u ep) 47 0 = h.outs.getD (64 * u.val + ep.val) 0 % 2 ^ 48 ∧
          t.fld (oJNL_OSEQ u ep) 47 0 = (h.outs.getD (64 * u.val + ep.val) 0 + 2 ^ 32) % 2 ^ 48) ∧
        (∀ (u : PortId) (ep : Fin 64), t.fld (oJNL_PHWM_IN u ep) 47 0 = h.ins.getD (64 * u.val + ep.val) 0 % 2 ^ 48 ∧
          t.fld (oJNL_ISEQ u ep) 47 0 = seqNext (h.ins.getD (64 * u.val + ep.val) 0)) ∧
        ∀ u : PortId, t.fld (oPORT_STAT u) 47 32 = (h.epochs.getD u 0 + 1) % 65536) ∧
      (s.nv.hwm = none → ∀ u : PortId, t.fld (oPORT_STAT u) 47 32 = 1) ∧
      (s.nv.gens = [] → gen t = gen s) ∧
      (∀ g0 older g, s.nv.gens = g0 :: older → s.checkGen g0 = .ok g →
        (s.nv.probation = false → gen t = gSTABLE ∧ t.nv.gens = s.nv.gens) ∧
        (s.nv.probation = true → s.nv.probLost = 0 → gen t = gPROBATION ∧ t.fld oCFG_STAT 27 4 = g.probation % 2 ^ 24 ∧
          t.nv.probLost = 1 ∧ t.nv.gens = s.nv.gens) ∧
        ∀ g1 rest h, s.nv.probation = true → s.nv.probLost = 1 → older = g1 :: rest → s.checkGen g1 = .ok h →
          gen t = gSTABLE ∧ t.nv.gens = h.bytes :: rest)) ∧
    -- ageing
    (s.running = false ∨ s.ready = false → ∀ ev, stays (.ageingThreshold ev)) ∧
    (s.running = true → s.ready = true →
      let adds := fun (t : State) (e : RepairEntry) => t.nv = { s.nv with repair := s.nv.repair ++ [e] }
      (∀ x : SiteId, exec (.ageingThreshold (.siteDelay x)) s = .next (s.modSite x fun y => { y with spareDue := true }) ∧
        exec (.ageingThreshold (.siteRetries x)) s = .next (s.modSite x fun y => { y with spareDue := true })) ∧
      (∀ c row set way, next (.ageingThreshold (.sramRow c row set way)) fun t => t.reg (cDEV 22) = countBy (s.reg (cDEV 22)) 1 ∧
        adds t ⟨1, BitVec.ofNat 16 (cacheNo c), BitVec.ofNat 32 row, 1, 2⟩) ∧
      (∀ (c : CacheRef) (way : Fin 16),
        (s.wayRetired c way = true → stays (.ageingThreshold (.cacheWay c way))) ∧
        (s.wayRetired c way = false → next (.ageingThreshold (.cacheWay c way)) fun t =>
          adds t ⟨2, BitVec.ofNat 16 (cacheNo c), BitVec.ofNat 32 way, 2, 2⟩ ∧ ∀ set, t.entryAt c set way = none)) ∧
      (∀ n row, next (.ageingThreshold (.hbmRow n row)) fun t => t.reg (cMSC n 3) = countBy (s.reg (cMSC n 3)) 1 ∧
        adds t ⟨7, BitVec.ofNat 16 n, BitVec.ofNat 32 row, 1, 2⟩) ∧
      (∀ l : Fin 15, (s.flag oNOC_LINK l = true → stays (.ageingThreshold (.linkReplays l))) ∧
        (s.flag oNOC_LINK l = false → next (.ageingThreshold (.linkReplays l)) fun t => t.flag oNOC_LINK l = true ∧
          ∃ a, adds t ⟨5, BitVec.ofNat 16 l, 0, a, 2⟩)) ∧
      (∀ u lane, next (.ageingThreshold (.serdes u lane)) fun t => t.freeCtr = s.freeCtr + 1 ∧
        adds t ⟨6, BitVec.ofNat 16 u, BitVec.ofNat 32 lane, 1, 2⟩) ∧
      ∀ u : Fin 8, ∀ c ∈ [(AgeEvent.pipe u, oCIP_STAT, u.val, (8 : BitVec 8)), (.clane u, oCMZ_STAT, u.val, 9),
          (.dlane u, oCMZ_STAT, 8 + u.val, 10)],
        (s.flag c.2.1 c.2.2.1 = true → stays (.ageingThreshold c.1)) ∧
        (s.flag c.2.1 c.2.2.1 = false → next (.ageingThreshold c.1) fun t => t.flag c.2.1 c.2.2.1 = true ∧
          adds t ⟨c.2.2.2, BitVec.ofNat 16 u, 0, 2, 2⟩)) ∧
    -- generations
    (let store := [oCFG_STAT, cDEV 21]
     let rest := fun (t : State) => t = { s with regs := t.regs, cfg := t.cfg, nv := t.nv, pcie := t.pcie } ∧ OnlyRegs s t store
     (Manager s i → gen s = gSTABLE ∨ gen s = gDEFAULT → next (.cfgCommit i) fun t => rest t ∧ gen t = gCHECKING ∧
       t.cfg = { s.cfg with image := s.srcImage, prev := gen s } ∧ t.nv.gens = s.nv.gens) ∧
     ((i = .pf0 ∨ i = .lkp) → s.running = true → s.ready = false ∨ gen s ≠ gSTABLE ∧ gen s ≠ gDEFAULT →
       next (.cfgCommit i) fun t => Regs s t [oCFG_STAT] ∧ gen t = gen s ∧ answer t resBUSY 0 15) ∧
     (gen s ≠ gCHECKING → stays .cfgCheckDone) ∧
     (gen s = gCHECKING →
       let refused := fun (r off part : Nat) => next .cfgCheckDone fun t => gen t = s.cfg.prev % 8 ∧ answer t r off part ∧ t.nv = s.nv ∧
         t.cfg = s.cfg
       (∀ r, s.checkGen s.cfg.image = .error r → s.cfg.prev ≠ gCHECKING → refused (r.result % 16) r.off r.part) ∧
       (s.cfg.prev ≠ gCHECKING →
         (genParse s.cfg.image = none → refused resFORMAT 0 15) ∧
         (∀ g, genParse s.cfg.image = some g →
           (signedBy 3 s.byOwner g.body g.block = false → refused resSIGNATURE 0 15) ∧
           (signedBy 3 s.byOwner g.body g.block = true → s.svnOk 3 (blkSvn g.block) = false → refused resSVN 0 15))) ∧
       (∀ g, s.checkGen s.cfg.image = .ok g → next .cfgCheckDone fun t => gen t = gPENDING ∧ answer t 0 0 15 ∧
         t.cfg = { s.cfg with since := s.now } ∧ t.nv = s.nv)) ∧
     (gen s ≠ gPENDING ∨ s.sparingNow = true ∨
       (if s.tkState = tkSTOPPED then s.now.toNat else s.edgeTime) < s.cfg.since.toNat + 20000 → stays .generationApply) ∧
     (∀ g, gen s = gPENDING → s.sparingNow = false → genParse s.cfg.image = some g →
       s.cfg.since.toNat + 20000 ≤ (if s.tkState = tkSTOPPED then s.now.toNat else s.edgeTime) →
       next .generationApply fun t => gen t = gPROBATION ∧ t.fld oCFG_STAT 27 4 = g.probation % 2 ^ 24 ∧
         t.nv.gens = (g.bytes :: s.nv.gens).take 4 ∧ t.nv.probation = true ∧ t.nv.probLost = 0 ∧ t.cfg.cust = g.cust ∧
         t.overruns = 0 ∧ t.ovrLimit = g.ovrLimit ∧
         ∀ (n : PartId) (u : UnitId), ∀ o ∈ [oTCK_PART n, oCIP_PART n, oCMZ_PART n, oJNL_POOL u],
           ((∀ r ∈ g.recs, r.1.toNat ≠ o) → t.reg o &&& appliedMask o = regReset o &&& appliedMask o) ∧
           ∀ r ∈ g.recs, (g.recs.map (·.1)).Nodup → r.1.toNat = o → t.reg o &&& appliedMask o = r.2 &&& appliedMask o) ∧
     (let stable := fun (t : State) => gen t = gSTABLE ∧ t.fld oCFG_STAT 27 4 = 0 ∧ t.nv.probation = false
      let rest := fun (t : State) => t = { s with regs := t.regs, nv := t.nv, pcie := t.pcie } ∧ OnlyRegs s t [oCFG_STAT]
      (Manager s i → gen s = gPROBATION → next (.cfgAccept i) fun t => stable t ∧ rest t) ∧
      (Manager s i → gen s ≠ gPROBATION → next (.cfgAccept i) (Same s)) ∧
      (gen s = gPROBATION → s.fld oCFG_STAT 27 4 = 0 → next .probationExpiry fun t => stable t ∧ rest t) ∧
      (gen s ≠ gPROBATION ∨ s.fld oCFG_STAT 27 4 ≠ 0 → stays .probationExpiry) ∧
      (Manager s i → gen s = gSTABLE ∨ gen s = gPROBATION →
        (s.nv.gens.length ≤ 1 → next (.cfgRollback i) fun t => Regs s t [oCFG_STAT] ∧ gen t = gen s ∧ answer t resNOOLDER 0 15) ∧
        (1 < s.nv.gens.length → next (.cfgRollback i) fun t => gen t = gROLLING ∧ rest t)) ∧
      (Manager s i → gen s ≠ gSTABLE → gen s ≠ gPROBATION → next (.cfgRollback i) (Same s)) ∧
      (gen s ≠ gROLLING ∨ s.sparingNow = true → stays .rollbackApply) ∧
      (gen s = gROLLING → s.sparingNow = false → ∀ g0 older, s.nv.gens = g0 :: older →
        (∀ bad good rest g, older = bad ++ good :: rest → s.checkGen good = .ok g → (∀ b ∈ bad, ∃ r, s.checkGen b = .error r) →
          next .rollbackApply fun t => stable t ∧ t.nv.gens = g.bytes :: rest ∧ answer t 0 0 15 ∧ t.cfg.cust = g.cust) ∧
        (∀ bad last r, older = bad ++ [last] → s.checkGen last = .error r → (∀ b ∈ bad, ∃ r, s.checkGen b = .error r) →
          next .rollbackApply fun t => stable t ∧ t.nv.gens = [g0] ∧ answer t (r.result % 16) r.off r.part ∧ t.cfg = s.cfg ∧
            t.cps = s.cps ∧ t.engines = s.engines ∧ t.ports = s.ports))) ∧
     (Manager s i →
       let pa := s.fld oCFG_SRC 51 6 * 64
       let len := s.captured.length
       (gen s ≠ gDEFAULT → next (.cfgCapture i) (Same s)) ∧
       (gen s = gDEFAULT → s.fld oCFG_SRC 63 52 * 1024 < len ∨ storageEnd < pa + len →
         next (.cfgCapture i) fun t => Regs s t [oCFG_STAT] ∧ answer t resFORMAT 0 15) ∧
       (gen s = gDEFAULT → len ≤ s.fld oCFG_SRC 63 52 * 1024 → pa + len ≤ dataEnd → next (.cfgCapture i) fun t => answer t 0 0 15 ∧
         gen t = gDEFAULT ∧ (Fresh s → leBytes 4 0x43479600 = (List.range 4).map (fun j => t.mem.byte (pa + j)) ∧
           ∀ a, a < dataEnd → a < pa ∨ pa + len ≤ a → t.mem.byte a = s.mem.byte a)) ∧
       (∀ r, s.checkSelaufen s.srcImage = .error r → next (.storeSelaufen i) fun t => Regs s t [oCFG_STAT] ∧ answer t (r % 16) 0 15) ∧
       ∀ im, s.checkSelaufen s.srcImage = .ok im → next (.storeSelaufen i) fun t => answer t 0 0 15 ∧ rest t ∧
         t.nv.newImages = (im.kind, im.bytes ++ im.block) :: s.nv.newImages.filter fun e => e.1 ≠ im.kind))

/-! The host interface, clocks and power. -/

/-- The PCIe interface: MSI-X messages, BAR2 and the VF windows, the window register, notices and messages, configuration requests, link
loss and function resets (R80, R548, R549, R552, R554, R555, R556, R557, R560).
Where it rests on the model's choices: assumptions 10, 58, 72, 81, 88. -/
def Obligations.HostInterface : Prop :=
  ∀ (s : State) (i : Initiator) (n : PartId),
    let zeros := fun (len : Nat) => { s with resp := .bytes (List.replicate len 0) false }
    let up := s.running = true ∧ s.ready = true
    let fine := fun (v : State) (pa : Nat) => tagReserved (v.mem.word pa).tag = false ∧ (v.mem.word pa).poison = false
    let bad := fun (v : State) (part : Option PartId) (who pa : Nat) => ({ v with resp := .bytes [] true }).record
      (mkRec 3 0x68 0xF010 part none (BitVec.ofNat 64 pa) 0
        (BitVec.ofNat 64 (who + if tagReserved (v.mem.word pa).tag = true then 256 else 0)))
    (∀ (fn : PcieFn) (vec : BitVec 11),
      let f := s.pcie.fns[fnNo fn]
      let sends := s.running = true ∧ s.flag oPCI_STAT 0 = true ∧ f.busMaster = true ∧ f.msixEn = true ∧ f.fnMask = false ∧
        vec.toNat ∈ f.unmasked ∧ vec.toNat ∈ f.pend ∧ (fn = .pf0 ∨ s.pcie.vfEnable = true)
      (sends → exec (.msixSend fn vec) s = .next { s with
        out := .msix (fnNo fn) vec.toNat :: s.out
        pcie := { s.pcie with fns := s.pcie.fns.set (fnNo fn) { f with pend := f.pend.filter (· ≠ vec.toNat) } } }) ∧
      (¬sends → exec (.msixSend fn vec) s = .next s)) ∧
    (∀ (off : BitVec 30) (len : Nat) (bs : List Byte) (po ok : Bool),
      let base := s.fld oPCI_WIN 51 30 * 2 ^ 30
      let x := base + off.toNat
      (¬up → exec (.bar2Read off len) s = .next (zeros len) ∧ exec (.bar2Write off bs po ok) s = .next s) ∧
      (up → 112 * 2 ^ 30 ≤ base → exec (.bar2Read off len) s = .next ((zeros len).accessRecord .pf0 off.toNat false) ∧
        exec (.bar2Write off bs false true) s = .next (s.accessRecord .pf0 off.toNat true)) ∧
      (up → base < 112 * 2 ^ 30 → off.toNat + len ≤ 2 ^ 30 → 0 < len →
        ∃ v, CacheOnly s v ∧
          ((∀ a, x ≤ a → a < x + len → fine v (a / 8 * 8)) →
            exec (.bar2Read off len) s = .next { v with resp := .bytes (v.mem.bytes x len) false }) ∧
          ∀ a, x ≤ a → a < x + len → ¬fine v (a / 8 * 8) → (∀ b, x ≤ b → b / 8 < a / 8 → fine v (b / 8 * 8)) →
            exec (.bar2Read off len) s = .next (bad v none 0x80 (a / 8 * 8))) ∧
      (up → po = true ∨ ok = false → ∃ t, exec (.bar2Write off bs po ok) s = .next t ∧ t.freeCtr = s.freeCtr + 1 ∧
        ∀ a, s.ringUsed < 512 → s.fld oERR_SPILLSTAT 20 0 = 0 → t.mem.byte a = s.mem.byte a) ∧
      (up → base < 112 * 2 ^ 30 → off.toNat + bs.length ≤ 2 ^ 30 → ∃ t, exec (.bar2Write off bs false true) s = .next t ∧
        (Fresh s → (∀ a, a < dataEnd → t.mem.byte a = if x ≤ a ∧ a < x + bs.length then bs.getD (a - x) 0 else s.mem.byte a) ∧
          ∀ a, x ≤ a → a < x + bs.length →
            (t.mem.word (a / 8 * 8)).tag = tagRAW ∧ (t.mem.word (a / 8 * 8)).col = (s.mem.word (a / 8 * 8)).col))) ∧
    (∀ (off : BitVec 18) (len : Nat) (bs : List Byte),
      let ea := (s.pcie.vwin[n]).toNat + off.toNat
      let at_ := 0xC0000 + off.toNat
      (s.running = true → s.partState n = ptNONE ∨ 2 ^ 18 < off.toNat + len →
        exec (.vfWindowRead n off len) s = .next ((zeros len).accessRecord (.vf n) at_ false)) ∧
      (s.running = true → s.partState n = ptNONE ∨ s.partState n = ptCLEARING ∨ 2 ^ 18 < off.toNat + bs.length →
        exec (.vfWindowWrite n off bs) s = .next (s.accessRecord (.vf n) at_ true)) ∧
      (s.running = true → s.partState n ≠ ptNONE → off.toNat + len ≤ 2 ^ 18 →
        (∀ ws, s.windowWords n ea len false = .ok ws → ∃ v, CacheOnly s v ∧
          ((∀ pa ∈ ws, fine v pa) → exec (.vfWindowRead n off len) s = .next { v with
            resp := .bytes ((List.range len).map fun j => v.mem.byte (s.dmaPa n (8 * ((ea + j) / 8)) + (ea + j) % 8)) false }) ∧
          ∀ l pa r, ws = l ++ pa :: r → (∀ q ∈ l, fine v q) → ¬fine v pa →
            exec (.vfWindowRead n off len) s = .next (bad v (some n) (0x90 + n.val) pa)) ∧
        (s.windowWords n ea len false = .error none →
          exec (.vfWindowRead n off len) s = .next ((zeros len).accessRecord (.vf n) at_ false)) ∧
        (∀ da, s.windowWords n ea len false = .error (some da) → exec (.vfWindowRead n off len) s =
          .next ((zeros len).record (mkRec 5 0x68 0xF004 (some n) none (BitVec.ofNat 64 da))))) ∧
      (s.running = true → s.partState n ≠ ptNONE → s.partState n ≠ ptCLEARING → off.toNat + bs.length ≤ 2 ^ 18 →
        (∀ ws, s.windowWords n ea bs.length true = .ok ws → exec (.vfWindowWrite n off bs) s = .next (s.dmaWrite n ea bs)) ∧
        (s.windowWords n ea bs.length true = .error none →
          exec (.vfWindowWrite n off bs) s = .next (s.accessRecord (.vf n) at_ true)) ∧
        (∀ da, s.windowWords n ea bs.length true = .error (some da) → exec (.vfWindowWrite n off bs) s =
          .next (s.record (mkRec 5 0x68 0xF004 (some n) none (BitVec.ofNat 64 da)))))) ∧
    (∀ v : Word, Manager s i → v &&& ~~~0xFFFFFC0000000#64 = 0 → ∃ t, exec (.pciWinWrite i v) s = .next t ∧ Regs s t [oPCI_WIN] ∧
      t.fld oPCI_WIN 51 30 = bits v 51 30) ∧
    (∀ k : CpId,
      let v := BitVec.ofNat 64 k.val
      let here := s.partOf k = some n ∧ (s.cp k).inService = true
      let sender := fun (a : Initiator) (at_ : Nat) =>
        (here → ∃ u, Same s u ∧ exec (.pciHnote a n v) s = .next (u.modCp k fun c => { c with
          regs := { c.regs with evpend := insBits c.regs.evpend 5 5 1 }, waiting := false })) ∧
        (¬here → ∃ u, Same s u ∧ exec (.pciHnote a n v) s = .next (u.accessRecord a at_ true))
      (Manager s i → sender i (oPCI_HNOTE n)) ∧
      (up → s.partState n ≠ ptNONE → s.partState n ≠ ptCLEARING → sender (.vf n) 8)) ∧
    (∀ (k : CpId) (vec : Byte), up → s.partOf k = some n →
      let sys := (s.cr k).sys = true
      (sys → vec.toNat < 248 → ∃ u, Same s u ∧ exec (.pciMsg (.cp k) n (BitVec.ofNat 64 (2048 + vec.toNat))) s =
        .next (u.raiseMsix 0 (64 + 248 * n.val + vec.toNat))) ∧
      (sys → 4 ≤ vec.toNat → ∃ u, Same s u ∧ exec (.pciMsg (.cp k) n (BitVec.ofNat 64 vec.toNat)) s =
        .next (u.raiseMsix (vfFn n) vec.toNat)) ∧
      (¬sys ∨ 248 ≤ vec.toNat → ∃ u, Same s u ∧ exec (.pciMsg (.cp k) n (BitVec.ofNat 64 (2048 + vec.toNat))) s =
        .next (u.accessRecord (.cp k) 0x28 true))) ∧
    (∀ vec : Byte, Manager s i → ∃ u, Same s u ∧
      exec (.pciMsg i n (BitVec.ofNat 64 vec.toNat)) s = .next (u.accessRecord i (oPCI_MSG n) true)) ∧
    (s.running = false → ∀ fn op w, exec (.configRequest fn op w) s = .next s) ∧
    (∀ (fn : PcieFn) (op : ConfigOp) (w : Word), s.running = true →
      let now := (s.advanceTo w).now.toNat
      (now < 30000000 → ∃ t, exec (.configRequest fn op w) s = .next t ∧ OnlyRegs s t [oTCK_TIME] ∧
        t = { s with regs := t.regs, resp := .config false 0 }) ∧
      (30000000 ≤ now → ∃ t, exec (.configRequest fn op w) s = .next t ∧ OnlyRegs s t [oTCK_TIME, oPCI_STAT] ∧
        t = { s with regs := t.regs, pcie := t.pcie, resp := t.resp } ∧
        (op = .readIds → t.resp = .config true (if fn = .pf0 then 0x96001E5F else 0x96011E5F) ∧ t.pcie = s.pcie) ∧
        (op = .readClass → t.resp = .config true 0x0B4000A1 ∧ t.pcie = s.pcie) ∧
        (op = .readSubsys → t.resp = .config true 0x96001E5F ∧ t.pcie = s.pcie) ∧
        (op = .absent → t.resp = .config true 0 ∧ t.pcie = s.pcie) ∧
        (∀ b, op = .busMaster b → (t.pcie.fns[fnNo fn]).busMaster = b) ∧
        (∀ b, op = .msixEnable b → (t.pcie.fns[fnNo fn]).msixEn = b) ∧
        (∀ b, op = .functionMask b → (t.pcie.fns[fnNo fn]).fnMask = b) ∧
        (∀ v b, op = .vectorMask v b → v.toNat < (if fn = .pf0 then 2048 else 256) →
          (v.toNat ∈ (t.pcie.fns[fnNo fn]).unmasked ↔ b = false)) ∧
        (∀ b, op = .vfEnable b → t.pcie.vfEnable = if fn = .pf0 then b else s.pcie.vfEnable) ∧
        (∀ k b, op = .ideStream k b → fn = .pf0 →
          t.flag oPCI_STAT (16 + k) = (b && s.pcie.ideKeys.any fun e => e.1 / 4 == k.val)) ∧
        ∀ g, g ≠ fnNo fn → t.pcie.fns[g] = s.pcie.fns[g])) ∧
    (let downs := min 255 (s.fld oPCI_STAT 31 24 + 1)
     let reset := fun (t : State) => t.pcie.vfEnable = false ∧ t.pcie.vwin = s.pcie.vwin ∧
       ∀ g : Fin 9, let f := t.pcie.fns[g]
         f = { FnState.reset with pend := f.pend } ∧ ∀ x ∈ (s.pcie.fns[g]).pend, x ∈ f.pend
     let lost := fun (t : State) => t.reg oPCI_STAT = BitVec.ofNat 64 (downs * 2 ^ 24 + 2) ∧ t.freeCtr = s.freeCtr + 1
     (s.running = true → ∃ t, exec .perstAssert s = .next t ∧ reset t ∧ lost t ∧ t.cps = s.cps ∧ t.engines = s.engines ∧
       t.ports = s.ports ∧ t.jnl = s.jnl ∧ t.tick = s.tick ∧ t.reg oPCI_WIN = s.reg oPCI_WIN) ∧
     (s.running = true → s.flag oPCI_STAT 0 = true → ∃ t, exec .pcieLinkDown s = .next t ∧ lost t ∧ t.cps = s.cps ∧
       t.engines = s.engines ∧ t.ports = s.ports ∧ t.jnl = s.jnl ∧ t.tick = s.tick ∧ t.pcie.vwin = s.pcie.vwin) ∧
     (s.running = false → exec .perstAssert s = .next s) ∧
     (s.running = false ∨ s.flag oPCI_STAT 0 = false → exec .pcieLinkDown s = .next s) ∧
     (∃ t, exec .flrPf s = .next t ∧ reset t ∧ (∀ g : Fin 9, (t.pcie.fns[g]).pend = (s.pcie.fns[g]).pend) ∧ OnlyRegs s t [oPCI_STAT] ∧ t.fld oPCI_STAT 19 16 = 0 ∧
       t = { s with regs := t.regs, pcie := t.pcie }) ∧
     (let f : FnState := { FnState.reset with pend := (s.pcie.fns[vfFn n]).pend }
      exec (.flrVf n) s = .next { s with pcie := { s.pcie with fns := s.pcie.fns.set (vfFn n) f } })) ∧
    ∀ (w : BitVec 5) (r : BitVec 3),
      let real := w.toNat ∈ [1, 2, 4, 8, 16] ∧ r ≠ 7#3
      (s.running = true → real → ∃ t, exec (.pcieLinkUp w r) s = .next t ∧ Regs s t [oPCI_STAT] ∧ t.flag oPCI_STAT 0 = true ∧
        t.fld oPCI_STAT 12 8 = w.toNat ∧ t.fld oPCI_STAT 7 5 = r.toNat ∧ t.fld oPCI_STAT 31 24 = s.fld oPCI_STAT 31 24) ∧
      (s.running = false ∨ ¬real → exec (.pcieLinkUp w r) s = .next s)

/-- The Lockkeeper mailbox, core-site clocks, throttling and the power limit, and the emergency shutdown (R570, R583, R585, R586, R587,
R588, R591).
Where it rests on the model's choices: assumptions 58, 63, 82. -/
def Obligations.PowerAndMailbox : Prop :=
  (∀ (s : State) (i : Initiator) (tag code : Byte), Manager s i →
     let done := fun (t : State) (r : Nat) => t.flag oLKP_STAT 0 = false ∧ t.flag oLKP_STAT 1 = true ∧ t.fld oLKP_STAT 7 4 = r ∧
       t.fld oLKP_STAT 15 8 = tag.toNat ∧ 1 ∈ (t.pcie.fns[(0 : Fin 9)]).pend
     let rest := fun (t : State) => t = { s with regs := t.regs, pcie := t.pcie }
     let k := cpField (s.fld (oLKP_ARG 0) 3 0)
     (s.flag oLKP_STAT 0 = true → ∀ x ∈ [Instr.lkpSpareCp i tag, .lkpPowerDown i tag, .lkpEcho i tag, .lkpReservedCode i tag code],
       ∃ u, Same s u ∧ exec x s = .next (u.accessRecord i oLKP_CMD true)) ∧
     (s.flag oLKP_STAT 0 = false →
       (∃ t, exec (.lkpEcho i tag) s = .next t ∧ done t 0 ∧ rest t ∧ OnlyRegs s t [oLKP_STAT, oLKP_RES 0] ∧
         t.reg (oLKP_RES 0) = s.reg (oLKP_ARG 0)) ∧
       (code.toNat = 0 ∨ 4 ≤ code.toNat → ∃ t, exec (.lkpReservedCode i tag code) s = .next t ∧ done t 2 ∧ rest t ∧
         OnlyRegs s t [oLKP_STAT]) ∧
       (s.fld (oLKP_ARG 0) 63 4 ≠ 0 → ∃ t, exec (.lkpSpareCp i tag) s = .next t ∧ done t 3 ∧ rest t ∧ OnlyRegs s t [oLKP_STAT]) ∧
       (s.fld (oLKP_ARG 0) 63 4 = 0 → s.siteOf k = none ∨ (s.cp k).inService = false → ∃ t, exec (.lkpSpareCp i tag) s = .next t ∧
         done t 4 ∧ rest t ∧ OnlyRegs s t [oLKP_STAT]) ∧
       (∀ x, s.fld (oLKP_ARG 0) 63 4 = 0 → s.siteOf k = some x → (s.cp k).inService = true → s.pairOf k = none →
         ∃ t, exec (.lkpSpareCp i tag) s = .next t ∧ t.flag oLKP_STAT 0 = true ∧ t.lkpSpare = some (k, tag) ∧
           t.bindSt x = bSPARING ∧ (t.cp k).frozen = true ∧ (t.cp k).held = [] ∧ (t.cp k).retired = 0 ∧
           (t.cp k).regs = { (s.cp k).ckpt with evpend := insBits (s.cr k).evpend 1 1 (s.cp k).ckptArith.isSome.toNat } ∧
           ∀ j, j ≠ k → t.cp j = s.cp j) ∧
       ∃ t, exec (.lkpPowerDown i tag) s = .next t ∧ done t 0 ∧ t.twin.deviceFail = true ∧ t.nv.hwmCount = s.nv.hwmCount + 1 ∧
         t.fld oJNL_HWM 63 16 = s.tickNum ∧
         ∀ (d : Domain) (x : Nat) (j : NiId), domainOf d = some (x, j) → s.fld (oNI j 0) 1 0 = 0 →
           t.fld (oNI j 0) 1 0 = if s.mayClose d = true then 1 else 0)) ∧
  (∀ (s : State) (i : Initiator) (x : SiteId) (v : Byte), Manager s i →
     let own := min (max 48 (min 184 v.toNat)) (s.fld (oCS_CLK x) 15 8)
     ∃ t, exec (.csFreqWrite i x (BitVec.ofNat 64 v.toNat)) s = .next t ∧ OnlyRegs s t ((List.range 20).map oCS_CLK) ∧
       t = { s with regs := t.regs, cps := t.cps } ∧ t.fld (oCS_CLK x) 7 0 = v.toNat ∧
       t.fld (oCS_CLK x) 15 8 = s.fld (oCS_CLK x) 15 8 ∧
       (s.bindSt x ≠ bFOLLOWER → t.fld (oCS_CLK x) 23 16 = own) ∧
       (s.bindSt x = bBOUND → ∀ y : SiteId, s.bindSt y = bFOLLOWER → s.fld (oCS_BIND y) 11 8 = s.fld (oCS_BIND x) 11 8 →
         t.fld (oCS_CLK y) 23 16 = own) ∧
       (∀ l, s.bindSt x = bFOLLOWER → s.siteOf (cpField (s.fld (oCS_BIND x) 11 8)) = some l →
         t.fld (oCS_CLK x) 23 16 = s.fld (oCS_CLK l) 23 16)) ∧
  ∀ (s : State) (w : Word),
    let shown := fun (u t : State) => t.flag oPWR_STAT 2 = u.extActs ∧ ∀ d : Fin 2,
      t.flag oPWR_STAT d = (dieSites d).any fun x => t.fld (oCS_CLK x) 15 8 != 184
    (s.powered = false → (∀ l, ∃ t, exec (.throttleStep l w) s = .next t ∧ Regs s t [oTCK_TIME]) ∧
      (∀ k v, exec (.thermalWarn k v) s = .next s) ∧ (∀ p, exec (.powerCap p) s = .next s) ∧
      ∀ b, exec (.emergencyShutdown b) s = .next s) ∧
    (∀ low, ∃ t, exec (.throtLChange low) s = .next t ∧ OnlyRegs s t [oPWR_STAT] ∧
      t = { s with regs := t.regs, pwr := { s.pwr with throtLow := low } } ∧ t.flag oPWR_STAT 2 = (low && s.flag oPWR_CTL 0) ∧ shown t t) ∧
    (s.powered = true →
      (∀ (k : Fin 46) (v : BitVec 16),
        let at_ := s.fld oPWR_THERM 7 0
        let warn := if 60 ≤ at_ ∧ at_ ≤ 105 then at_ else 95
        (v.toInt < 16 * (warn : Int) → ∃ t, exec (.thermalWarn k v) s = .next t ∧ Regs s t [oPWR_TEMP k] ∧
          t.fld (oPWR_TEMP k) 15 0 = v.toNat) ∧
        (16 * (warn : Int) ≤ v.toInt → ∃ t, exec (.thermalWarn k v) s = .next t ∧ t.fld (oPWR_TEMP k) 15 0 = v.toNat ∧
          t.flag oPWR_STAT 4 = true ∧ t.freeCtr = s.freeCtr + 1)) ∧
      (∀ temps : List (BitVec 16), ∃ u t, exec (.throttleStep temps w) s = .next t ∧
        Regs s u (oTCK_TIME :: (List.range 46).map oPWR_TEMP) ∧ u.now = (s.advanceTo w).now ∧
        (∀ k v, k < 46 → temps[k]? = some v → u.fld (oPWR_TEMP k) 15 0 = v.toNat) ∧ shown u t ∧ t.mem = s.mem ∧
        ∀ d : Fin 2,
          let ceil := fun (z : State) (x : SiteId) => z.fld (oCS_CLK x) 15 8
          let early := (dieSites d).filter u.lowFirst
          let stays := ∀ x ∈ dieSites d, ceil t x = ceil u x
          (u.dieHot d = true →
            ((∃ x ∈ early, ceil u x ≠ 48) → ∀ x ∈ dieSites d,
              ceil t x = if x ∈ early then max 48 (ceil u x - 4) else ceil u x) ∧
            ((∀ x ∈ early, ceil u x = 48) →
              (s.pwr.since[d] = none → stays ∧ t.pwr.since[d] = some u.now) ∧
              ∀ t0, s.pwr.since[d] = some t0 → t.pwr.since[d] = some t0 ∧
                (u.now.toNat < t0.toNat + 10000000 → stays) ∧
                (t0.toNat + 10000000 ≤ u.now.toNat → ∀ x ∈ dieSites d, ceil t x = max 48 (ceil u x - 4)))) ∧
          (u.dieHot d = false → t.pwr.since[d] = none ∧
            ((∀ k < 46, u.cool k = true) → s.pwr.throtLow = false → ∀ x ∈ dieSites d, ceil t x = min 184 (ceil u x + 4)) ∧
            ((∃ k < 46, u.cool k = false) ∨ s.pwr.throtLow = true → stays))) ∧
      (∀ p : BitVec 16,
        let limit := s.fld oPWR_CTL 25 16
        let above := (if 100 ≤ limit ∧ limit ≤ 380 then limit else 380) < p.toNat
        ∃ t, exec (.powerCap p) s = .next t ∧ t.fld oPWR_STAT 63 48 = p.toNat ∧ t.flag oPWR_STAT 3 = decide above ∧
          (¬above → Regs s t [oPWR_STAT]) ∧
          (above → t.reg (cDEV 25) = countBy (s.reg (cDEV 25)) 1 ∧
            (s.flag oPWR_STAT 3 = true → Regs s t [oPWR_STAT, cDEV 25]) ∧
            ∀ x : SiteId, t.fld (oCS_CLK x) 15 8 ≤ max 48 (s.fld (oCS_CLK x) 15 8))) ∧
      ∀ thermal, ∃ t, exec (.emergencyShutdown thermal) s = .next t ∧ t.pwr.emergency = true ∧ t.running = false ∧
        t.twin.deviceFail = true ∧ (thermal = true → OutEvent.pin "THERM_TRIP_L" false ∈ t.out) ∧
        (∀ d < 30, t.fld (oPWR_DOM d) 1 0 = 2) ∧ t.nv = s.nv ∧ t.twin.lastRole = (if s.pwrok = true then s.role else s.twin.lastRole))
end

