-- ==== Sys2Proof/Laws/Bits.lean ====
section
/-! SUPPORT. Reads of a field of a word after a field of it is replaced. -/

namespace Sys2Proof.Machine

theorem fmask_testBit (hi lo i : Nat) : (fmask hi lo).testBit i = decide (lo ≤ i ∧ i < lo + (hi + 1 - lo)) := by
  unfold fmask
  rw [show (2 ^ (hi + 1 - lo) - 1) * 2 ^ lo = (2 ^ (hi + 1 - lo) - 1) <<< lo by rw [Nat.shiftLeft_eq]]
  rw [Nat.testBit_shiftLeft, Nat.testBit_two_pow_sub_one]
  by_cases h : lo ≤ i
  · simp [h]; omega
  · simp [h]

/-- Bit i of a word after a field is replaced. -/
theorem getLsbD_insBits (w : Word) (hi lo v i : Nat) (h : i < 64) :
    (insBits w hi lo v).getLsbD i =
      if lo ≤ i ∧ i < lo + (hi + 1 - lo) then v.testBit (i - lo) else w.getLsbD i := by
  unfold insBits
  rw [show v % 2 ^ (hi + 1 - lo) * 2 ^ lo = (v % 2 ^ (hi + 1 - lo)) <<< lo by rw [Nat.shiftLeft_eq]]
  simp only [BitVec.getLsbD_or, BitVec.getLsbD_and, BitVec.getLsbD_not, BitVec.getLsbD_ofNat, h, decide_true, Bool.true_and,
    fmask_testBit, Nat.testBit_shiftLeft, Nat.testBit_mod_two_pow]
  by_cases a : lo ≤ i
  · by_cases b : i < lo + (hi + 1 - lo)
    · have : i - lo < hi + 1 - lo := by omega
      simp [a, b, this]
    · have : ¬ i - lo < hi + 1 - lo := by omega
      simp [b, this]
  · simp [a]

theorem bits_testBit (w : Word) (hi lo i : Nat) : (bits w hi lo).testBit i = (decide (i < hi + 1 - lo) && w.getLsbD (lo + i)) := by
  unfold bits
  rw [Nat.testBit_mod_two_pow, Nat.testBit_div_two_pow]
  rw [BitVec.testBit_toNat, Nat.add_comm lo i]

/-- A field that lies beside the one replaced. -/
theorem bits_insBits_of_disjoint (w : Word) {hi lo h l : Nat} (v : Nat) (hh : h < 64) (hd : h < lo ∨ hi < l) :
    bits (insBits w hi lo v) h l = bits w h l := by
  apply Nat.eq_of_testBit_eq
  intro i
  simp only [bits_testBit]
  by_cases hi' : i < h + 1 - l
  · rw [getLsbD_insBits _ _ _ _ _ (by omega)]
    have : ¬ (lo ≤ l + i ∧ l + i < lo + (hi + 1 - lo)) := by omega
    simp [this]
  · simp [hi']

/-- The field replaced. -/
theorem bits_insBits_self (w : Word) {hi lo : Nat} (v : Nat) (hh : hi < 64) :
    bits (insBits w hi lo v) hi lo = v % 2 ^ (hi + 1 - lo) := by
  apply Nat.eq_of_testBit_eq
  intro i
  rw [bits_testBit, Nat.testBit_mod_two_pow]
  by_cases hi' : i < hi + 1 - lo
  · rw [getLsbD_insBits _ _ _ _ _ (by omega)]
    have : lo ≤ lo + i ∧ lo + i < lo + (hi + 1 - lo) := by omega
    simp [this]
  · simp [hi']
end Sys2Proof.Machine
end

