-- ==== Sys2Proof/Laws/State.lean ====
section
/-! SUPPORT. What each update of State leaves alone, one lemma per field per update, and how the reads of registers, CPs
and core sites see the updates. -/

namespace Sys2Proof.Machine

/-! State.setReg changes only regs. -/

@[simp] theorem State.setReg_pending (s : State) (off : Nat) (v : Word) : (s.setReg off v).pending = s.pending := rfl
@[simp] theorem State.setReg_freeCtr (s : State) (off : Nat) (v : Word) : (s.setReg off v).freeCtr = s.freeCtr := rfl
@[simp] theorem State.setReg_out (s : State) (off : Nat) (v : Word) : (s.setReg off v).out = s.out := rfl
@[simp] theorem State.setReg_resp (s : State) (off : Nat) (v : Word) : (s.setReg off v).resp = s.resp := rfl
@[simp] theorem State.setReg_mem (s : State) (off : Nat) (v : Word) : (s.setReg off v).mem = s.mem := rfl
@[simp] theorem State.setReg_cps (s : State) (off : Nat) (v : Word) : (s.setReg off v).cps = s.cps := rfl
@[simp] theorem State.setReg_sites (s : State) (off : Nat) (v : Word) : (s.setReg off v).sites = s.sites := rfl
@[simp] theorem State.setReg_l3 (s : State) (off : Nat) (v : Word) : (s.setReg off v).l3 = s.l3 := rfl
@[simp] theorem State.setReg_l3Frozen (s : State) (off : Nat) (v : Word) : (s.setReg off v).l3Frozen = s.l3Frozen := rfl
@[simp] theorem State.setReg_l3Stale (s : State) (off : Nat) (v : Word) : (s.setReg off v).l3Stale = s.l3Stale := rfl
@[simp] theorem State.setReg_l3Old (s : State) (off : Nat) (v : Word) : (s.setReg off v).l3Old = s.l3Old := rfl
@[simp] theorem State.setReg_tagCache (s : State) (off : Nat) (v : Word) : (s.setReg off v).tagCache = s.tagCache := rfl
@[simp] theorem State.setReg_pairs (s : State) (off : Nat) (v : Word) : (s.setReg off v).pairs = s.pairs := rfl
@[simp] theorem State.setReg_err (s : State) (off : Nat) (v : Word) : (s.setReg off v).err = s.err := rfl
@[simp] theorem State.setReg_pcie (s : State) (off : Nat) (v : Word) : (s.setReg off v).pcie = s.pcie := rfl
@[simp] theorem State.setReg_overruns (s : State) (off : Nat) (v : Word) : (s.setReg off v).overruns = s.overruns := rfl
@[simp] theorem State.setReg_ovrLimit (s : State) (off : Nat) (v : Word) : (s.setReg off v).ovrLimit = s.ovrLimit := rfl
@[simp] theorem State.setReg_rstL (s : State) (off : Nat) (v : Word) : (s.setReg off v).rstL = s.rstL := rfl
@[simp] theorem State.setReg_towPresent (s : State) (off : Nat) (v : Word) : (s.setReg off v).towPresent = s.towPresent := rfl
@[simp] theorem State.setReg_smbAddr (s : State) (off : Nat) (v : Word) : (s.setReg off v).smbAddr = s.smbAddr := rfl
@[simp] theorem State.setReg_auxOn (s : State) (off : Nat) (v : Word) : (s.setReg off v).auxOn = s.auxOn := rfl
@[simp] theorem State.setReg_pwrok (s : State) (off : Nat) (v : Word) : (s.setReg off v).pwrok = s.pwrok := rfl
@[simp] theorem State.setReg_engines (s : State) (off : Nat) (v : Word) : (s.setReg off v).engines = s.engines := rfl
@[simp] theorem State.setReg_jnl (s : State) (off : Nat) (v : Word) : (s.setReg off v).jnl = s.jnl := rfl
@[simp] theorem State.setReg_ports (s : State) (off : Nat) (v : Word) : (s.setReg off v).ports = s.ports := rfl
@[simp] theorem State.setReg_xf (s : State) (off : Nat) (v : Word) : (s.setReg off v).xf = s.xf := rfl
@[simp] theorem State.setReg_tick (s : State) (off : Nat) (v : Word) : (s.setReg off v).tick = s.tick := rfl
@[simp] theorem State.setReg_ringWait (s : State) (off : Nat) (v : Word) : (s.setReg off v).ringWait = s.ringWait := rfl
@[simp] theorem State.setReg_startDue (s : State) (off : Nat) (v : Word) : (s.setReg off v).startDue = s.startDue := rfl
@[simp] theorem State.setReg_pendWait (s : State) (off : Nat) (v : Word) : (s.setReg off v).pendWait = s.pendWait := rfl
@[simp] theorem State.setReg_twin (s : State) (off : Nat) (v : Word) : (s.setReg off v).twin = s.twin := rfl
@[simp] theorem State.setReg_nv (s : State) (off : Nat) (v : Word) : (s.setReg off v).nv = s.nv := rfl
@[simp] theorem State.setReg_esf (s : State) (off : Nat) (v : Word) : (s.setReg off v).esf = s.esf := rfl
@[simp] theorem State.setReg_cfg (s : State) (off : Nat) (v : Word) : (s.setReg off v).cfg = s.cfg := rfl
@[simp] theorem State.setReg_noc (s : State) (off : Nat) (v : Word) : (s.setReg off v).noc = s.noc := rfl
@[simp] theorem State.setReg_pwr (s : State) (off : Nat) (v : Word) : (s.setReg off v).pwr = s.pwr := rfl
@[simp] theorem State.setReg_clearing (s : State) (off : Nat) (v : Word) : (s.setReg off v).clearing = s.clearing := rfl
@[simp] theorem State.setReg_heldCfg (s : State) (off : Nat) (v : Word) : (s.setReg off v).heldCfg = s.heldCfg := rfl
@[simp] theorem State.setReg_lkpSpare (s : State) (off : Nat) (v : Word) : (s.setReg off v).lkpSpare = s.lkpSpare := rfl

/-! State.setFld changes only regs. -/

@[simp] theorem State.setFld_pending (s : State) (off hi lo v : Nat) : (s.setFld off hi lo v).pending = s.pending := rfl
@[simp] theorem State.setFld_freeCtr (s : State) (off hi lo v : Nat) : (s.setFld off hi lo v).freeCtr = s.freeCtr := rfl
@[simp] theorem State.setFld_out (s : State) (off hi lo v : Nat) : (s.setFld off hi lo v).out = s.out := rfl
@[simp] theorem State.setFld_resp (s : State) (off hi lo v : Nat) : (s.setFld off hi lo v).resp = s.resp := rfl
@[simp] theorem State.setFld_mem (s : State) (off hi lo v : Nat) : (s.setFld off hi lo v).mem = s.mem := rfl
@[simp] theorem State.setFld_cps (s : State) (off hi lo v : Nat) : (s.setFld off hi lo v).cps = s.cps := rfl
@[simp] theorem State.setFld_sites (s : State) (off hi lo v : Nat) : (s.setFld off hi lo v).sites = s.sites := rfl
@[simp] theorem State.setFld_l3 (s : State) (off hi lo v : Nat) : (s.setFld off hi lo v).l3 = s.l3 := rfl
@[simp] theorem State.setFld_l3Frozen (s : State) (off hi lo v : Nat) : (s.setFld off hi lo v).l3Frozen = s.l3Frozen := rfl
@[simp] theorem State.setFld_l3Stale (s : State) (off hi lo v : Nat) : (s.setFld off hi lo v).l3Stale = s.l3Stale := rfl
@[simp] theorem State.setFld_l3Old (s : State) (off hi lo v : Nat) : (s.setFld off hi lo v).l3Old = s.l3Old := rfl
@[simp] theorem State.setFld_tagCache (s : State) (off hi lo v : Nat) : (s.setFld off hi lo v).tagCache = s.tagCache := rfl
@[simp] theorem State.setFld_pairs (s : State) (off hi lo v : Nat) : (s.setFld off hi lo v).pairs = s.pairs := rfl
@[simp] theorem State.setFld_err (s : State) (off hi lo v : Nat) : (s.setFld off hi lo v).err = s.err := rfl
@[simp] theorem State.setFld_pcie (s : State) (off hi lo v : Nat) : (s.setFld off hi lo v).pcie = s.pcie := rfl
@[simp] theorem State.setFld_overruns (s : State) (off hi lo v : Nat) : (s.setFld off hi lo v).overruns = s.overruns := rfl
@[simp] theorem State.setFld_ovrLimit (s : State) (off hi lo v : Nat) : (s.setFld off hi lo v).ovrLimit = s.ovrLimit := rfl
@[simp] theorem State.setFld_rstL (s : State) (off hi lo v : Nat) : (s.setFld off hi lo v).rstL = s.rstL := rfl
@[simp] theorem State.setFld_towPresent (s : State) (off hi lo v : Nat) : (s.setFld off hi lo v).towPresent = s.towPresent := rfl
@[simp] theorem State.setFld_smbAddr (s : State) (off hi lo v : Nat) : (s.setFld off hi lo v).smbAddr = s.smbAddr := rfl
@[simp] theorem State.setFld_auxOn (s : State) (off hi lo v : Nat) : (s.setFld off hi lo v).auxOn = s.auxOn := rfl
@[simp] theorem State.setFld_pwrok (s : State) (off hi lo v : Nat) : (s.setFld off hi lo v).pwrok = s.pwrok := rfl
@[simp] theorem State.setFld_engines (s : State) (off hi lo v : Nat) : (s.setFld off hi lo v).engines = s.engines := rfl
@[simp] theorem State.setFld_jnl (s : State) (off hi lo v : Nat) : (s.setFld off hi lo v).jnl = s.jnl := rfl
@[simp] theorem State.setFld_ports (s : State) (off hi lo v : Nat) : (s.setFld off hi lo v).ports = s.ports := rfl
@[simp] theorem State.setFld_xf (s : State) (off hi lo v : Nat) : (s.setFld off hi lo v).xf = s.xf := rfl
@[simp] theorem State.setFld_tick (s : State) (off hi lo v : Nat) : (s.setFld off hi lo v).tick = s.tick := rfl
@[simp] theorem State.setFld_ringWait (s : State) (off hi lo v : Nat) : (s.setFld off hi lo v).ringWait = s.ringWait := rfl
@[simp] theorem State.setFld_startDue (s : State) (off hi lo v : Nat) : (s.setFld off hi lo v).startDue = s.startDue := rfl
@[simp] theorem State.setFld_pendWait (s : State) (off hi lo v : Nat) : (s.setFld off hi lo v).pendWait = s.pendWait := rfl
@[simp] theorem State.setFld_twin (s : State) (off hi lo v : Nat) : (s.setFld off hi lo v).twin = s.twin := rfl
@[simp] theorem State.setFld_nv (s : State) (off hi lo v : Nat) : (s.setFld off hi lo v).nv = s.nv := rfl
@[simp] theorem State.setFld_esf (s : State) (off hi lo v : Nat) : (s.setFld off hi lo v).esf = s.esf := rfl
@[simp] theorem State.setFld_cfg (s : State) (off hi lo v : Nat) : (s.setFld off hi lo v).cfg = s.cfg := rfl
@[simp] theorem State.setFld_noc (s : State) (off hi lo v : Nat) : (s.setFld off hi lo v).noc = s.noc := rfl
@[simp] theorem State.setFld_pwr (s : State) (off hi lo v : Nat) : (s.setFld off hi lo v).pwr = s.pwr := rfl
@[simp] theorem State.setFld_clearing (s : State) (off hi lo v : Nat) : (s.setFld off hi lo v).clearing = s.clearing := rfl
@[simp] theorem State.setFld_heldCfg (s : State) (off hi lo v : Nat) : (s.setFld off hi lo v).heldCfg = s.heldCfg := rfl
@[simp] theorem State.setFld_lkpSpare (s : State) (off hi lo v : Nat) : (s.setFld off hi lo v).lkpSpare = s.lkpSpare := rfl

/-! State.setFlag changes only regs. -/

@[simp] theorem State.setFlag_pending (s : State) (off i : Nat) (b : Bool) : (s.setFlag off i b).pending = s.pending := rfl
@[simp] theorem State.setFlag_freeCtr (s : State) (off i : Nat) (b : Bool) : (s.setFlag off i b).freeCtr = s.freeCtr := rfl
@[simp] theorem State.setFlag_out (s : State) (off i : Nat) (b : Bool) : (s.setFlag off i b).out = s.out := rfl
@[simp] theorem State.setFlag_resp (s : State) (off i : Nat) (b : Bool) : (s.setFlag off i b).resp = s.resp := rfl
@[simp] theorem State.setFlag_mem (s : State) (off i : Nat) (b : Bool) : (s.setFlag off i b).mem = s.mem := rfl
@[simp] theorem State.setFlag_cps (s : State) (off i : Nat) (b : Bool) : (s.setFlag off i b).cps = s.cps := rfl
@[simp] theorem State.setFlag_sites (s : State) (off i : Nat) (b : Bool) : (s.setFlag off i b).sites = s.sites := rfl
@[simp] theorem State.setFlag_l3 (s : State) (off i : Nat) (b : Bool) : (s.setFlag off i b).l3 = s.l3 := rfl
@[simp] theorem State.setFlag_l3Frozen (s : State) (off i : Nat) (b : Bool) : (s.setFlag off i b).l3Frozen = s.l3Frozen := rfl
@[simp] theorem State.setFlag_l3Stale (s : State) (off i : Nat) (b : Bool) : (s.setFlag off i b).l3Stale = s.l3Stale := rfl
@[simp] theorem State.setFlag_l3Old (s : State) (off i : Nat) (b : Bool) : (s.setFlag off i b).l3Old = s.l3Old := rfl
@[simp] theorem State.setFlag_tagCache (s : State) (off i : Nat) (b : Bool) : (s.setFlag off i b).tagCache = s.tagCache := rfl
@[simp] theorem State.setFlag_pairs (s : State) (off i : Nat) (b : Bool) : (s.setFlag off i b).pairs = s.pairs := rfl
@[simp] theorem State.setFlag_err (s : State) (off i : Nat) (b : Bool) : (s.setFlag off i b).err = s.err := rfl
@[simp] theorem State.setFlag_pcie (s : State) (off i : Nat) (b : Bool) : (s.setFlag off i b).pcie = s.pcie := rfl
@[simp] theorem State.setFlag_overruns (s : State) (off i : Nat) (b : Bool) : (s.setFlag off i b).overruns = s.overruns := rfl
@[simp] theorem State.setFlag_ovrLimit (s : State) (off i : Nat) (b : Bool) : (s.setFlag off i b).ovrLimit = s.ovrLimit := rfl
@[simp] theorem State.setFlag_rstL (s : State) (off i : Nat) (b : Bool) : (s.setFlag off i b).rstL = s.rstL := rfl
@[simp] theorem State.setFlag_towPresent (s : State) (off i : Nat) (b : Bool) : (s.setFlag off i b).towPresent = s.towPresent := rfl
@[simp] theorem State.setFlag_smbAddr (s : State) (off i : Nat) (b : Bool) : (s.setFlag off i b).smbAddr = s.smbAddr := rfl
@[simp] theorem State.setFlag_auxOn (s : State) (off i : Nat) (b : Bool) : (s.setFlag off i b).auxOn = s.auxOn := rfl
@[simp] theorem State.setFlag_pwrok (s : State) (off i : Nat) (b : Bool) : (s.setFlag off i b).pwrok = s.pwrok := rfl
@[simp] theorem State.setFlag_engines (s : State) (off i : Nat) (b : Bool) : (s.setFlag off i b).engines = s.engines := rfl
@[simp] theorem State.setFlag_jnl (s : State) (off i : Nat) (b : Bool) : (s.setFlag off i b).jnl = s.jnl := rfl
@[simp] theorem State.setFlag_ports (s : State) (off i : Nat) (b : Bool) : (s.setFlag off i b).ports = s.ports := rfl
@[simp] theorem State.setFlag_xf (s : State) (off i : Nat) (b : Bool) : (s.setFlag off i b).xf = s.xf := rfl
@[simp] theorem State.setFlag_tick (s : State) (off i : Nat) (b : Bool) : (s.setFlag off i b).tick = s.tick := rfl
@[simp] theorem State.setFlag_ringWait (s : State) (off i : Nat) (b : Bool) : (s.setFlag off i b).ringWait = s.ringWait := rfl
@[simp] theorem State.setFlag_startDue (s : State) (off i : Nat) (b : Bool) : (s.setFlag off i b).startDue = s.startDue := rfl
@[simp] theorem State.setFlag_pendWait (s : State) (off i : Nat) (b : Bool) : (s.setFlag off i b).pendWait = s.pendWait := rfl
@[simp] theorem State.setFlag_twin (s : State) (off i : Nat) (b : Bool) : (s.setFlag off i b).twin = s.twin := rfl
@[simp] theorem State.setFlag_nv (s : State) (off i : Nat) (b : Bool) : (s.setFlag off i b).nv = s.nv := rfl
@[simp] theorem State.setFlag_esf (s : State) (off i : Nat) (b : Bool) : (s.setFlag off i b).esf = s.esf := rfl
@[simp] theorem State.setFlag_cfg (s : State) (off i : Nat) (b : Bool) : (s.setFlag off i b).cfg = s.cfg := rfl
@[simp] theorem State.setFlag_noc (s : State) (off i : Nat) (b : Bool) : (s.setFlag off i b).noc = s.noc := rfl
@[simp] theorem State.setFlag_pwr (s : State) (off i : Nat) (b : Bool) : (s.setFlag off i b).pwr = s.pwr := rfl
@[simp] theorem State.setFlag_clearing (s : State) (off i : Nat) (b : Bool) : (s.setFlag off i b).clearing = s.clearing := rfl
@[simp] theorem State.setFlag_heldCfg (s : State) (off i : Nat) (b : Bool) : (s.setFlag off i b).heldCfg = s.heldCfg := rfl
@[simp] theorem State.setFlag_lkpSpare (s : State) (off i : Nat) (b : Bool) : (s.setFlag off i b).lkpSpare = s.lkpSpare := rfl

/-! State.count changes only regs. -/

@[simp] theorem State.count_pending (s : State) (off n : Nat) : (s.count off n).pending = s.pending := rfl
@[simp] theorem State.count_freeCtr (s : State) (off n : Nat) : (s.count off n).freeCtr = s.freeCtr := rfl
@[simp] theorem State.count_out (s : State) (off n : Nat) : (s.count off n).out = s.out := rfl
@[simp] theorem State.count_resp (s : State) (off n : Nat) : (s.count off n).resp = s.resp := rfl
@[simp] theorem State.count_mem (s : State) (off n : Nat) : (s.count off n).mem = s.mem := rfl
@[simp] theorem State.count_cps (s : State) (off n : Nat) : (s.count off n).cps = s.cps := rfl
@[simp] theorem State.count_sites (s : State) (off n : Nat) : (s.count off n).sites = s.sites := rfl
@[simp] theorem State.count_l3 (s : State) (off n : Nat) : (s.count off n).l3 = s.l3 := rfl
@[simp] theorem State.count_l3Frozen (s : State) (off n : Nat) : (s.count off n).l3Frozen = s.l3Frozen := rfl
@[simp] theorem State.count_l3Stale (s : State) (off n : Nat) : (s.count off n).l3Stale = s.l3Stale := rfl
@[simp] theorem State.count_l3Old (s : State) (off n : Nat) : (s.count off n).l3Old = s.l3Old := rfl
@[simp] theorem State.count_tagCache (s : State) (off n : Nat) : (s.count off n).tagCache = s.tagCache := rfl
@[simp] theorem State.count_pairs (s : State) (off n : Nat) : (s.count off n).pairs = s.pairs := rfl
@[simp] theorem State.count_err (s : State) (off n : Nat) : (s.count off n).err = s.err := rfl
@[simp] theorem State.count_pcie (s : State) (off n : Nat) : (s.count off n).pcie = s.pcie := rfl
@[simp] theorem State.count_overruns (s : State) (off n : Nat) : (s.count off n).overruns = s.overruns := rfl
@[simp] theorem State.count_ovrLimit (s : State) (off n : Nat) : (s.count off n).ovrLimit = s.ovrLimit := rfl
@[simp] theorem State.count_rstL (s : State) (off n : Nat) : (s.count off n).rstL = s.rstL := rfl
@[simp] theorem State.count_towPresent (s : State) (off n : Nat) : (s.count off n).towPresent = s.towPresent := rfl
@[simp] theorem State.count_smbAddr (s : State) (off n : Nat) : (s.count off n).smbAddr = s.smbAddr := rfl
@[simp] theorem State.count_auxOn (s : State) (off n : Nat) : (s.count off n).auxOn = s.auxOn := rfl
@[simp] theorem State.count_pwrok (s : State) (off n : Nat) : (s.count off n).pwrok = s.pwrok := rfl
@[simp] theorem State.count_engines (s : State) (off n : Nat) : (s.count off n).engines = s.engines := rfl
@[simp] theorem State.count_jnl (s : State) (off n : Nat) : (s.count off n).jnl = s.jnl := rfl
@[simp] theorem State.count_ports (s : State) (off n : Nat) : (s.count off n).ports = s.ports := rfl
@[simp] theorem State.count_xf (s : State) (off n : Nat) : (s.count off n).xf = s.xf := rfl
@[simp] theorem State.count_tick (s : State) (off n : Nat) : (s.count off n).tick = s.tick := rfl
@[simp] theorem State.count_ringWait (s : State) (off n : Nat) : (s.count off n).ringWait = s.ringWait := rfl
@[simp] theorem State.count_startDue (s : State) (off n : Nat) : (s.count off n).startDue = s.startDue := rfl
@[simp] theorem State.count_pendWait (s : State) (off n : Nat) : (s.count off n).pendWait = s.pendWait := rfl
@[simp] theorem State.count_twin (s : State) (off n : Nat) : (s.count off n).twin = s.twin := rfl
@[simp] theorem State.count_nv (s : State) (off n : Nat) : (s.count off n).nv = s.nv := rfl
@[simp] theorem State.count_esf (s : State) (off n : Nat) : (s.count off n).esf = s.esf := rfl
@[simp] theorem State.count_cfg (s : State) (off n : Nat) : (s.count off n).cfg = s.cfg := rfl
@[simp] theorem State.count_noc (s : State) (off n : Nat) : (s.count off n).noc = s.noc := rfl
@[simp] theorem State.count_pwr (s : State) (off n : Nat) : (s.count off n).pwr = s.pwr := rfl
@[simp] theorem State.count_clearing (s : State) (off n : Nat) : (s.count off n).clearing = s.clearing := rfl
@[simp] theorem State.count_heldCfg (s : State) (off n : Nat) : (s.count off n).heldCfg = s.heldCfg := rfl
@[simp] theorem State.count_lkpSpare (s : State) (off n : Nat) : (s.count off n).lkpSpare = s.lkpSpare := rfl

/-! State.freeStep changes only freeCtr. -/

@[simp] theorem State.freeStep_pending (s : State) : (s.freeStep).pending = s.pending := rfl
@[simp] theorem State.freeStep_out (s : State) : (s.freeStep).out = s.out := rfl
@[simp] theorem State.freeStep_resp (s : State) : (s.freeStep).resp = s.resp := rfl
@[simp] theorem State.freeStep_regs (s : State) : (s.freeStep).regs = s.regs := rfl
@[simp] theorem State.freeStep_mem (s : State) : (s.freeStep).mem = s.mem := rfl
@[simp] theorem State.freeStep_cps (s : State) : (s.freeStep).cps = s.cps := rfl
@[simp] theorem State.freeStep_sites (s : State) : (s.freeStep).sites = s.sites := rfl
@[simp] theorem State.freeStep_l3 (s : State) : (s.freeStep).l3 = s.l3 := rfl
@[simp] theorem State.freeStep_l3Frozen (s : State) : (s.freeStep).l3Frozen = s.l3Frozen := rfl
@[simp] theorem State.freeStep_l3Stale (s : State) : (s.freeStep).l3Stale = s.l3Stale := rfl
@[simp] theorem State.freeStep_l3Old (s : State) : (s.freeStep).l3Old = s.l3Old := rfl
@[simp] theorem State.freeStep_tagCache (s : State) : (s.freeStep).tagCache = s.tagCache := rfl
@[simp] theorem State.freeStep_pairs (s : State) : (s.freeStep).pairs = s.pairs := rfl
@[simp] theorem State.freeStep_err (s : State) : (s.freeStep).err = s.err := rfl
@[simp] theorem State.freeStep_pcie (s : State) : (s.freeStep).pcie = s.pcie := rfl
@[simp] theorem State.freeStep_overruns (s : State) : (s.freeStep).overruns = s.overruns := rfl
@[simp] theorem State.freeStep_ovrLimit (s : State) : (s.freeStep).ovrLimit = s.ovrLimit := rfl
@[simp] theorem State.freeStep_rstL (s : State) : (s.freeStep).rstL = s.rstL := rfl
@[simp] theorem State.freeStep_towPresent (s : State) : (s.freeStep).towPresent = s.towPresent := rfl
@[simp] theorem State.freeStep_smbAddr (s : State) : (s.freeStep).smbAddr = s.smbAddr := rfl
@[simp] theorem State.freeStep_auxOn (s : State) : (s.freeStep).auxOn = s.auxOn := rfl
@[simp] theorem State.freeStep_pwrok (s : State) : (s.freeStep).pwrok = s.pwrok := rfl
@[simp] theorem State.freeStep_engines (s : State) : (s.freeStep).engines = s.engines := rfl
@[simp] theorem State.freeStep_jnl (s : State) : (s.freeStep).jnl = s.jnl := rfl
@[simp] theorem State.freeStep_ports (s : State) : (s.freeStep).ports = s.ports := rfl
@[simp] theorem State.freeStep_xf (s : State) : (s.freeStep).xf = s.xf := rfl
@[simp] theorem State.freeStep_tick (s : State) : (s.freeStep).tick = s.tick := rfl
@[simp] theorem State.freeStep_ringWait (s : State) : (s.freeStep).ringWait = s.ringWait := rfl
@[simp] theorem State.freeStep_startDue (s : State) : (s.freeStep).startDue = s.startDue := rfl
@[simp] theorem State.freeStep_pendWait (s : State) : (s.freeStep).pendWait = s.pendWait := rfl
@[simp] theorem State.freeStep_twin (s : State) : (s.freeStep).twin = s.twin := rfl
@[simp] theorem State.freeStep_nv (s : State) : (s.freeStep).nv = s.nv := rfl
@[simp] theorem State.freeStep_esf (s : State) : (s.freeStep).esf = s.esf := rfl
@[simp] theorem State.freeStep_cfg (s : State) : (s.freeStep).cfg = s.cfg := rfl
@[simp] theorem State.freeStep_noc (s : State) : (s.freeStep).noc = s.noc := rfl
@[simp] theorem State.freeStep_pwr (s : State) : (s.freeStep).pwr = s.pwr := rfl
@[simp] theorem State.freeStep_clearing (s : State) : (s.freeStep).clearing = s.clearing := rfl
@[simp] theorem State.freeStep_heldCfg (s : State) : (s.freeStep).heldCfg = s.heldCfg := rfl
@[simp] theorem State.freeStep_lkpSpare (s : State) : (s.freeStep).lkpSpare = s.lkpSpare := rfl

/-! State.emit changes only out. -/

@[simp] theorem State.emit_pending (s : State) (e : OutEvent) : (s.emit e).pending = s.pending := rfl
@[simp] theorem State.emit_freeCtr (s : State) (e : OutEvent) : (s.emit e).freeCtr = s.freeCtr := rfl
@[simp] theorem State.emit_resp (s : State) (e : OutEvent) : (s.emit e).resp = s.resp := rfl
@[simp] theorem State.emit_regs (s : State) (e : OutEvent) : (s.emit e).regs = s.regs := rfl
@[simp] theorem State.emit_mem (s : State) (e : OutEvent) : (s.emit e).mem = s.mem := rfl
@[simp] theorem State.emit_cps (s : State) (e : OutEvent) : (s.emit e).cps = s.cps := rfl
@[simp] theorem State.emit_sites (s : State) (e : OutEvent) : (s.emit e).sites = s.sites := rfl
@[simp] theorem State.emit_l3 (s : State) (e : OutEvent) : (s.emit e).l3 = s.l3 := rfl
@[simp] theorem State.emit_l3Frozen (s : State) (e : OutEvent) : (s.emit e).l3Frozen = s.l3Frozen := rfl
@[simp] theorem State.emit_l3Stale (s : State) (e : OutEvent) : (s.emit e).l3Stale = s.l3Stale := rfl
@[simp] theorem State.emit_l3Old (s : State) (e : OutEvent) : (s.emit e).l3Old = s.l3Old := rfl
@[simp] theorem State.emit_tagCache (s : State) (e : OutEvent) : (s.emit e).tagCache = s.tagCache := rfl
@[simp] theorem State.emit_pairs (s : State) (e : OutEvent) : (s.emit e).pairs = s.pairs := rfl
@[simp] theorem State.emit_err (s : State) (e : OutEvent) : (s.emit e).err = s.err := rfl
@[simp] theorem State.emit_pcie (s : State) (e : OutEvent) : (s.emit e).pcie = s.pcie := rfl
@[simp] theorem State.emit_overruns (s : State) (e : OutEvent) : (s.emit e).overruns = s.overruns := rfl
@[simp] theorem State.emit_ovrLimit (s : State) (e : OutEvent) : (s.emit e).ovrLimit = s.ovrLimit := rfl
@[simp] theorem State.emit_rstL (s : State) (e : OutEvent) : (s.emit e).rstL = s.rstL := rfl
@[simp] theorem State.emit_towPresent (s : State) (e : OutEvent) : (s.emit e).towPresent = s.towPresent := rfl
@[simp] theorem State.emit_smbAddr (s : State) (e : OutEvent) : (s.emit e).smbAddr = s.smbAddr := rfl
@[simp] theorem State.emit_auxOn (s : State) (e : OutEvent) : (s.emit e).auxOn = s.auxOn := rfl
@[simp] theorem State.emit_pwrok (s : State) (e : OutEvent) : (s.emit e).pwrok = s.pwrok := rfl
@[simp] theorem State.emit_engines (s : State) (e : OutEvent) : (s.emit e).engines = s.engines := rfl
@[simp] theorem State.emit_jnl (s : State) (e : OutEvent) : (s.emit e).jnl = s.jnl := rfl
@[simp] theorem State.emit_ports (s : State) (e : OutEvent) : (s.emit e).ports = s.ports := rfl
@[simp] theorem State.emit_xf (s : State) (e : OutEvent) : (s.emit e).xf = s.xf := rfl
@[simp] theorem State.emit_tick (s : State) (e : OutEvent) : (s.emit e).tick = s.tick := rfl
@[simp] theorem State.emit_ringWait (s : State) (e : OutEvent) : (s.emit e).ringWait = s.ringWait := rfl
@[simp] theorem State.emit_startDue (s : State) (e : OutEvent) : (s.emit e).startDue = s.startDue := rfl
@[simp] theorem State.emit_pendWait (s : State) (e : OutEvent) : (s.emit e).pendWait = s.pendWait := rfl
@[simp] theorem State.emit_twin (s : State) (e : OutEvent) : (s.emit e).twin = s.twin := rfl
@[simp] theorem State.emit_nv (s : State) (e : OutEvent) : (s.emit e).nv = s.nv := rfl
@[simp] theorem State.emit_esf (s : State) (e : OutEvent) : (s.emit e).esf = s.esf := rfl
@[simp] theorem State.emit_cfg (s : State) (e : OutEvent) : (s.emit e).cfg = s.cfg := rfl
@[simp] theorem State.emit_noc (s : State) (e : OutEvent) : (s.emit e).noc = s.noc := rfl
@[simp] theorem State.emit_pwr (s : State) (e : OutEvent) : (s.emit e).pwr = s.pwr := rfl
@[simp] theorem State.emit_clearing (s : State) (e : OutEvent) : (s.emit e).clearing = s.clearing := rfl
@[simp] theorem State.emit_heldCfg (s : State) (e : OutEvent) : (s.emit e).heldCfg = s.heldCfg := rfl
@[simp] theorem State.emit_lkpSpare (s : State) (e : OutEvent) : (s.emit e).lkpSpare = s.lkpSpare := rfl

/-! State.setCp changes only cps. -/

@[simp] theorem State.setCp_pending (s : State) (k : CpId) (c : Cp) : (s.setCp k c).pending = s.pending := rfl
@[simp] theorem State.setCp_freeCtr (s : State) (k : CpId) (c : Cp) : (s.setCp k c).freeCtr = s.freeCtr := rfl
@[simp] theorem State.setCp_out (s : State) (k : CpId) (c : Cp) : (s.setCp k c).out = s.out := rfl
@[simp] theorem State.setCp_resp (s : State) (k : CpId) (c : Cp) : (s.setCp k c).resp = s.resp := rfl
@[simp] theorem State.setCp_regs (s : State) (k : CpId) (c : Cp) : (s.setCp k c).regs = s.regs := rfl
@[simp] theorem State.setCp_mem (s : State) (k : CpId) (c : Cp) : (s.setCp k c).mem = s.mem := rfl
@[simp] theorem State.setCp_sites (s : State) (k : CpId) (c : Cp) : (s.setCp k c).sites = s.sites := rfl
@[simp] theorem State.setCp_l3 (s : State) (k : CpId) (c : Cp) : (s.setCp k c).l3 = s.l3 := rfl
@[simp] theorem State.setCp_l3Frozen (s : State) (k : CpId) (c : Cp) : (s.setCp k c).l3Frozen = s.l3Frozen := rfl
@[simp] theorem State.setCp_l3Stale (s : State) (k : CpId) (c : Cp) : (s.setCp k c).l3Stale = s.l3Stale := rfl
@[simp] theorem State.setCp_l3Old (s : State) (k : CpId) (c : Cp) : (s.setCp k c).l3Old = s.l3Old := rfl
@[simp] theorem State.setCp_tagCache (s : State) (k : CpId) (c : Cp) : (s.setCp k c).tagCache = s.tagCache := rfl
@[simp] theorem State.setCp_pairs (s : State) (k : CpId) (c : Cp) : (s.setCp k c).pairs = s.pairs := rfl
@[simp] theorem State.setCp_err (s : State) (k : CpId) (c : Cp) : (s.setCp k c).err = s.err := rfl
@[simp] theorem State.setCp_pcie (s : State) (k : CpId) (c : Cp) : (s.setCp k c).pcie = s.pcie := rfl
@[simp] theorem State.setCp_overruns (s : State) (k : CpId) (c : Cp) : (s.setCp k c).overruns = s.overruns := rfl
@[simp] theorem State.setCp_ovrLimit (s : State) (k : CpId) (c : Cp) : (s.setCp k c).ovrLimit = s.ovrLimit := rfl
@[simp] theorem State.setCp_rstL (s : State) (k : CpId) (c : Cp) : (s.setCp k c).rstL = s.rstL := rfl
@[simp] theorem State.setCp_towPresent (s : State) (k : CpId) (c : Cp) : (s.setCp k c).towPresent = s.towPresent := rfl
@[simp] theorem State.setCp_smbAddr (s : State) (k : CpId) (c : Cp) : (s.setCp k c).smbAddr = s.smbAddr := rfl
@[simp] theorem State.setCp_auxOn (s : State) (k : CpId) (c : Cp) : (s.setCp k c).auxOn = s.auxOn := rfl
@[simp] theorem State.setCp_pwrok (s : State) (k : CpId) (c : Cp) : (s.setCp k c).pwrok = s.pwrok := rfl
@[simp] theorem State.setCp_engines (s : State) (k : CpId) (c : Cp) : (s.setCp k c).engines = s.engines := rfl
@[simp] theorem State.setCp_jnl (s : State) (k : CpId) (c : Cp) : (s.setCp k c).jnl = s.jnl := rfl
@[simp] theorem State.setCp_ports (s : State) (k : CpId) (c : Cp) : (s.setCp k c).ports = s.ports := rfl
@[simp] theorem State.setCp_xf (s : State) (k : CpId) (c : Cp) : (s.setCp k c).xf = s.xf := rfl
@[simp] theorem State.setCp_tick (s : State) (k : CpId) (c : Cp) : (s.setCp k c).tick = s.tick := rfl
@[simp] theorem State.setCp_ringWait (s : State) (k : CpId) (c : Cp) : (s.setCp k c).ringWait = s.ringWait := rfl
@[simp] theorem State.setCp_startDue (s : State) (k : CpId) (c : Cp) : (s.setCp k c).startDue = s.startDue := rfl
@[simp] theorem State.setCp_pendWait (s : State) (k : CpId) (c : Cp) : (s.setCp k c).pendWait = s.pendWait := rfl
@[simp] theorem State.setCp_twin (s : State) (k : CpId) (c : Cp) : (s.setCp k c).twin = s.twin := rfl
@[simp] theorem State.setCp_nv (s : State) (k : CpId) (c : Cp) : (s.setCp k c).nv = s.nv := rfl
@[simp] theorem State.setCp_esf (s : State) (k : CpId) (c : Cp) : (s.setCp k c).esf = s.esf := rfl
@[simp] theorem State.setCp_cfg (s : State) (k : CpId) (c : Cp) : (s.setCp k c).cfg = s.cfg := rfl
@[simp] theorem State.setCp_noc (s : State) (k : CpId) (c : Cp) : (s.setCp k c).noc = s.noc := rfl
@[simp] theorem State.setCp_pwr (s : State) (k : CpId) (c : Cp) : (s.setCp k c).pwr = s.pwr := rfl
@[simp] theorem State.setCp_clearing (s : State) (k : CpId) (c : Cp) : (s.setCp k c).clearing = s.clearing := rfl
@[simp] theorem State.setCp_heldCfg (s : State) (k : CpId) (c : Cp) : (s.setCp k c).heldCfg = s.heldCfg := rfl
@[simp] theorem State.setCp_lkpSpare (s : State) (k : CpId) (c : Cp) : (s.setCp k c).lkpSpare = s.lkpSpare := rfl

/-! State.modCp changes only cps. -/

@[simp] theorem State.modCp_pending (s : State) (k : CpId) (f : Cp → Cp) : (s.modCp k f).pending = s.pending := rfl
@[simp] theorem State.modCp_freeCtr (s : State) (k : CpId) (f : Cp → Cp) : (s.modCp k f).freeCtr = s.freeCtr := rfl
@[simp] theorem State.modCp_out (s : State) (k : CpId) (f : Cp → Cp) : (s.modCp k f).out = s.out := rfl
@[simp] theorem State.modCp_resp (s : State) (k : CpId) (f : Cp → Cp) : (s.modCp k f).resp = s.resp := rfl
@[simp] theorem State.modCp_regs (s : State) (k : CpId) (f : Cp → Cp) : (s.modCp k f).regs = s.regs := rfl
@[simp] theorem State.modCp_mem (s : State) (k : CpId) (f : Cp → Cp) : (s.modCp k f).mem = s.mem := rfl
@[simp] theorem State.modCp_sites (s : State) (k : CpId) (f : Cp → Cp) : (s.modCp k f).sites = s.sites := rfl
@[simp] theorem State.modCp_l3 (s : State) (k : CpId) (f : Cp → Cp) : (s.modCp k f).l3 = s.l3 := rfl
@[simp] theorem State.modCp_l3Frozen (s : State) (k : CpId) (f : Cp → Cp) : (s.modCp k f).l3Frozen = s.l3Frozen := rfl
@[simp] theorem State.modCp_l3Stale (s : State) (k : CpId) (f : Cp → Cp) : (s.modCp k f).l3Stale = s.l3Stale := rfl
@[simp] theorem State.modCp_l3Old (s : State) (k : CpId) (f : Cp → Cp) : (s.modCp k f).l3Old = s.l3Old := rfl
@[simp] theorem State.modCp_tagCache (s : State) (k : CpId) (f : Cp → Cp) : (s.modCp k f).tagCache = s.tagCache := rfl
@[simp] theorem State.modCp_pairs (s : State) (k : CpId) (f : Cp → Cp) : (s.modCp k f).pairs = s.pairs := rfl
@[simp] theorem State.modCp_err (s : State) (k : CpId) (f : Cp → Cp) : (s.modCp k f).err = s.err := rfl
@[simp] theorem State.modCp_pcie (s : State) (k : CpId) (f : Cp → Cp) : (s.modCp k f).pcie = s.pcie := rfl
@[simp] theorem State.modCp_overruns (s : State) (k : CpId) (f : Cp → Cp) : (s.modCp k f).overruns = s.overruns := rfl
@[simp] theorem State.modCp_ovrLimit (s : State) (k : CpId) (f : Cp → Cp) : (s.modCp k f).ovrLimit = s.ovrLimit := rfl
@[simp] theorem State.modCp_rstL (s : State) (k : CpId) (f : Cp → Cp) : (s.modCp k f).rstL = s.rstL := rfl
@[simp] theorem State.modCp_towPresent (s : State) (k : CpId) (f : Cp → Cp) : (s.modCp k f).towPresent = s.towPresent := rfl
@[simp] theorem State.modCp_smbAddr (s : State) (k : CpId) (f : Cp → Cp) : (s.modCp k f).smbAddr = s.smbAddr := rfl
@[simp] theorem State.modCp_auxOn (s : State) (k : CpId) (f : Cp → Cp) : (s.modCp k f).auxOn = s.auxOn := rfl
@[simp] theorem State.modCp_pwrok (s : State) (k : CpId) (f : Cp → Cp) : (s.modCp k f).pwrok = s.pwrok := rfl
@[simp] theorem State.modCp_engines (s : State) (k : CpId) (f : Cp → Cp) : (s.modCp k f).engines = s.engines := rfl
@[simp] theorem State.modCp_jnl (s : State) (k : CpId) (f : Cp → Cp) : (s.modCp k f).jnl = s.jnl := rfl
@[simp] theorem State.modCp_ports (s : State) (k : CpId) (f : Cp → Cp) : (s.modCp k f).ports = s.ports := rfl
@[simp] theorem State.modCp_xf (s : State) (k : CpId) (f : Cp → Cp) : (s.modCp k f).xf = s.xf := rfl
@[simp] theorem State.modCp_tick (s : State) (k : CpId) (f : Cp → Cp) : (s.modCp k f).tick = s.tick := rfl
@[simp] theorem State.modCp_ringWait (s : State) (k : CpId) (f : Cp → Cp) : (s.modCp k f).ringWait = s.ringWait := rfl
@[simp] theorem State.modCp_startDue (s : State) (k : CpId) (f : Cp → Cp) : (s.modCp k f).startDue = s.startDue := rfl
@[simp] theorem State.modCp_pendWait (s : State) (k : CpId) (f : Cp → Cp) : (s.modCp k f).pendWait = s.pendWait := rfl
@[simp] theorem State.modCp_twin (s : State) (k : CpId) (f : Cp → Cp) : (s.modCp k f).twin = s.twin := rfl
@[simp] theorem State.modCp_nv (s : State) (k : CpId) (f : Cp → Cp) : (s.modCp k f).nv = s.nv := rfl
@[simp] theorem State.modCp_esf (s : State) (k : CpId) (f : Cp → Cp) : (s.modCp k f).esf = s.esf := rfl
@[simp] theorem State.modCp_cfg (s : State) (k : CpId) (f : Cp → Cp) : (s.modCp k f).cfg = s.cfg := rfl
@[simp] theorem State.modCp_noc (s : State) (k : CpId) (f : Cp → Cp) : (s.modCp k f).noc = s.noc := rfl
@[simp] theorem State.modCp_pwr (s : State) (k : CpId) (f : Cp → Cp) : (s.modCp k f).pwr = s.pwr := rfl
@[simp] theorem State.modCp_clearing (s : State) (k : CpId) (f : Cp → Cp) : (s.modCp k f).clearing = s.clearing := rfl
@[simp] theorem State.modCp_heldCfg (s : State) (k : CpId) (f : Cp → Cp) : (s.modCp k f).heldCfg = s.heldCfg := rfl
@[simp] theorem State.modCp_lkpSpare (s : State) (k : CpId) (f : Cp → Cp) : (s.modCp k f).lkpSpare = s.lkpSpare := rfl

/-! State.modRegs changes only cps. -/

@[simp] theorem State.modRegs_pending (s : State) (k : CpId) (f : CpRegs → CpRegs) : (s.modRegs k f).pending = s.pending := rfl
@[simp] theorem State.modRegs_freeCtr (s : State) (k : CpId) (f : CpRegs → CpRegs) : (s.modRegs k f).freeCtr = s.freeCtr := rfl
@[simp] theorem State.modRegs_out (s : State) (k : CpId) (f : CpRegs → CpRegs) : (s.modRegs k f).out = s.out := rfl
@[simp] theorem State.modRegs_resp (s : State) (k : CpId) (f : CpRegs → CpRegs) : (s.modRegs k f).resp = s.resp := rfl
@[simp] theorem State.modRegs_regs (s : State) (k : CpId) (f : CpRegs → CpRegs) : (s.modRegs k f).regs = s.regs := rfl
@[simp] theorem State.modRegs_mem (s : State) (k : CpId) (f : CpRegs → CpRegs) : (s.modRegs k f).mem = s.mem := rfl
@[simp] theorem State.modRegs_sites (s : State) (k : CpId) (f : CpRegs → CpRegs) : (s.modRegs k f).sites = s.sites := rfl
@[simp] theorem State.modRegs_l3 (s : State) (k : CpId) (f : CpRegs → CpRegs) : (s.modRegs k f).l3 = s.l3 := rfl
@[simp] theorem State.modRegs_l3Frozen (s : State) (k : CpId) (f : CpRegs → CpRegs) : (s.modRegs k f).l3Frozen = s.l3Frozen := rfl
@[simp] theorem State.modRegs_l3Stale (s : State) (k : CpId) (f : CpRegs → CpRegs) : (s.modRegs k f).l3Stale = s.l3Stale := rfl
@[simp] theorem State.modRegs_l3Old (s : State) (k : CpId) (f : CpRegs → CpRegs) : (s.modRegs k f).l3Old = s.l3Old := rfl
@[simp] theorem State.modRegs_tagCache (s : State) (k : CpId) (f : CpRegs → CpRegs) : (s.modRegs k f).tagCache = s.tagCache := rfl
@[simp] theorem State.modRegs_pairs (s : State) (k : CpId) (f : CpRegs → CpRegs) : (s.modRegs k f).pairs = s.pairs := rfl
@[simp] theorem State.modRegs_err (s : State) (k : CpId) (f : CpRegs → CpRegs) : (s.modRegs k f).err = s.err := rfl
@[simp] theorem State.modRegs_pcie (s : State) (k : CpId) (f : CpRegs → CpRegs) : (s.modRegs k f).pcie = s.pcie := rfl
@[simp] theorem State.modRegs_overruns (s : State) (k : CpId) (f : CpRegs → CpRegs) : (s.modRegs k f).overruns = s.overruns := rfl
@[simp] theorem State.modRegs_ovrLimit (s : State) (k : CpId) (f : CpRegs → CpRegs) : (s.modRegs k f).ovrLimit = s.ovrLimit := rfl
@[simp] theorem State.modRegs_rstL (s : State) (k : CpId) (f : CpRegs → CpRegs) : (s.modRegs k f).rstL = s.rstL := rfl
@[simp] theorem State.modRegs_towPresent (s : State) (k : CpId) (f : CpRegs → CpRegs) : (s.modRegs k f).towPresent = s.towPresent := rfl
@[simp] theorem State.modRegs_smbAddr (s : State) (k : CpId) (f : CpRegs → CpRegs) : (s.modRegs k f).smbAddr = s.smbAddr := rfl
@[simp] theorem State.modRegs_auxOn (s : State) (k : CpId) (f : CpRegs → CpRegs) : (s.modRegs k f).auxOn = s.auxOn := rfl
@[simp] theorem State.modRegs_pwrok (s : State) (k : CpId) (f : CpRegs → CpRegs) : (s.modRegs k f).pwrok = s.pwrok := rfl
@[simp] theorem State.modRegs_engines (s : State) (k : CpId) (f : CpRegs → CpRegs) : (s.modRegs k f).engines = s.engines := rfl
@[simp] theorem State.modRegs_jnl (s : State) (k : CpId) (f : CpRegs → CpRegs) : (s.modRegs k f).jnl = s.jnl := rfl
@[simp] theorem State.modRegs_ports (s : State) (k : CpId) (f : CpRegs → CpRegs) : (s.modRegs k f).ports = s.ports := rfl
@[simp] theorem State.modRegs_xf (s : State) (k : CpId) (f : CpRegs → CpRegs) : (s.modRegs k f).xf = s.xf := rfl
@[simp] theorem State.modRegs_tick (s : State) (k : CpId) (f : CpRegs → CpRegs) : (s.modRegs k f).tick = s.tick := rfl
@[simp] theorem State.modRegs_ringWait (s : State) (k : CpId) (f : CpRegs → CpRegs) : (s.modRegs k f).ringWait = s.ringWait := rfl
@[simp] theorem State.modRegs_startDue (s : State) (k : CpId) (f : CpRegs → CpRegs) : (s.modRegs k f).startDue = s.startDue := rfl
@[simp] theorem State.modRegs_pendWait (s : State) (k : CpId) (f : CpRegs → CpRegs) : (s.modRegs k f).pendWait = s.pendWait := rfl
@[simp] theorem State.modRegs_twin (s : State) (k : CpId) (f : CpRegs → CpRegs) : (s.modRegs k f).twin = s.twin := rfl
@[simp] theorem State.modRegs_nv (s : State) (k : CpId) (f : CpRegs → CpRegs) : (s.modRegs k f).nv = s.nv := rfl
@[simp] theorem State.modRegs_esf (s : State) (k : CpId) (f : CpRegs → CpRegs) : (s.modRegs k f).esf = s.esf := rfl
@[simp] theorem State.modRegs_cfg (s : State) (k : CpId) (f : CpRegs → CpRegs) : (s.modRegs k f).cfg = s.cfg := rfl
@[simp] theorem State.modRegs_noc (s : State) (k : CpId) (f : CpRegs → CpRegs) : (s.modRegs k f).noc = s.noc := rfl
@[simp] theorem State.modRegs_pwr (s : State) (k : CpId) (f : CpRegs → CpRegs) : (s.modRegs k f).pwr = s.pwr := rfl
@[simp] theorem State.modRegs_clearing (s : State) (k : CpId) (f : CpRegs → CpRegs) : (s.modRegs k f).clearing = s.clearing := rfl
@[simp] theorem State.modRegs_heldCfg (s : State) (k : CpId) (f : CpRegs → CpRegs) : (s.modRegs k f).heldCfg = s.heldCfg := rfl
@[simp] theorem State.modRegs_lkpSpare (s : State) (k : CpId) (f : CpRegs → CpRegs) : (s.modRegs k f).lkpSpare = s.lkpSpare := rfl

/-! State.modSite changes only sites. -/

@[simp] theorem State.modSite_pending (s : State) (t : SiteId) (f : Site → Site) : (s.modSite t f).pending = s.pending := rfl
@[simp] theorem State.modSite_freeCtr (s : State) (t : SiteId) (f : Site → Site) : (s.modSite t f).freeCtr = s.freeCtr := rfl
@[simp] theorem State.modSite_out (s : State) (t : SiteId) (f : Site → Site) : (s.modSite t f).out = s.out := rfl
@[simp] theorem State.modSite_resp (s : State) (t : SiteId) (f : Site → Site) : (s.modSite t f).resp = s.resp := rfl
@[simp] theorem State.modSite_regs (s : State) (t : SiteId) (f : Site → Site) : (s.modSite t f).regs = s.regs := rfl
@[simp] theorem State.modSite_mem (s : State) (t : SiteId) (f : Site → Site) : (s.modSite t f).mem = s.mem := rfl
@[simp] theorem State.modSite_cps (s : State) (t : SiteId) (f : Site → Site) : (s.modSite t f).cps = s.cps := rfl
@[simp] theorem State.modSite_l3 (s : State) (t : SiteId) (f : Site → Site) : (s.modSite t f).l3 = s.l3 := rfl
@[simp] theorem State.modSite_l3Frozen (s : State) (t : SiteId) (f : Site → Site) : (s.modSite t f).l3Frozen = s.l3Frozen := rfl
@[simp] theorem State.modSite_l3Stale (s : State) (t : SiteId) (f : Site → Site) : (s.modSite t f).l3Stale = s.l3Stale := rfl
@[simp] theorem State.modSite_l3Old (s : State) (t : SiteId) (f : Site → Site) : (s.modSite t f).l3Old = s.l3Old := rfl
@[simp] theorem State.modSite_tagCache (s : State) (t : SiteId) (f : Site → Site) : (s.modSite t f).tagCache = s.tagCache := rfl
@[simp] theorem State.modSite_pairs (s : State) (t : SiteId) (f : Site → Site) : (s.modSite t f).pairs = s.pairs := rfl
@[simp] theorem State.modSite_err (s : State) (t : SiteId) (f : Site → Site) : (s.modSite t f).err = s.err := rfl
@[simp] theorem State.modSite_pcie (s : State) (t : SiteId) (f : Site → Site) : (s.modSite t f).pcie = s.pcie := rfl
@[simp] theorem State.modSite_overruns (s : State) (t : SiteId) (f : Site → Site) : (s.modSite t f).overruns = s.overruns := rfl
@[simp] theorem State.modSite_ovrLimit (s : State) (t : SiteId) (f : Site → Site) : (s.modSite t f).ovrLimit = s.ovrLimit := rfl
@[simp] theorem State.modSite_rstL (s : State) (t : SiteId) (f : Site → Site) : (s.modSite t f).rstL = s.rstL := rfl
@[simp] theorem State.modSite_towPresent (s : State) (t : SiteId) (f : Site → Site) : (s.modSite t f).towPresent = s.towPresent := rfl
@[simp] theorem State.modSite_smbAddr (s : State) (t : SiteId) (f : Site → Site) : (s.modSite t f).smbAddr = s.smbAddr := rfl
@[simp] theorem State.modSite_auxOn (s : State) (t : SiteId) (f : Site → Site) : (s.modSite t f).auxOn = s.auxOn := rfl
@[simp] theorem State.modSite_pwrok (s : State) (t : SiteId) (f : Site → Site) : (s.modSite t f).pwrok = s.pwrok := rfl
@[simp] theorem State.modSite_engines (s : State) (t : SiteId) (f : Site → Site) : (s.modSite t f).engines = s.engines := rfl
@[simp] theorem State.modSite_jnl (s : State) (t : SiteId) (f : Site → Site) : (s.modSite t f).jnl = s.jnl := rfl
@[simp] theorem State.modSite_ports (s : State) (t : SiteId) (f : Site → Site) : (s.modSite t f).ports = s.ports := rfl
@[simp] theorem State.modSite_xf (s : State) (t : SiteId) (f : Site → Site) : (s.modSite t f).xf = s.xf := rfl
@[simp] theorem State.modSite_tick (s : State) (t : SiteId) (f : Site → Site) : (s.modSite t f).tick = s.tick := rfl
@[simp] theorem State.modSite_ringWait (s : State) (t : SiteId) (f : Site → Site) : (s.modSite t f).ringWait = s.ringWait := rfl
@[simp] theorem State.modSite_startDue (s : State) (t : SiteId) (f : Site → Site) : (s.modSite t f).startDue = s.startDue := rfl
@[simp] theorem State.modSite_pendWait (s : State) (t : SiteId) (f : Site → Site) : (s.modSite t f).pendWait = s.pendWait := rfl
@[simp] theorem State.modSite_twin (s : State) (t : SiteId) (f : Site → Site) : (s.modSite t f).twin = s.twin := rfl
@[simp] theorem State.modSite_nv (s : State) (t : SiteId) (f : Site → Site) : (s.modSite t f).nv = s.nv := rfl
@[simp] theorem State.modSite_esf (s : State) (t : SiteId) (f : Site → Site) : (s.modSite t f).esf = s.esf := rfl
@[simp] theorem State.modSite_cfg (s : State) (t : SiteId) (f : Site → Site) : (s.modSite t f).cfg = s.cfg := rfl
@[simp] theorem State.modSite_noc (s : State) (t : SiteId) (f : Site → Site) : (s.modSite t f).noc = s.noc := rfl
@[simp] theorem State.modSite_pwr (s : State) (t : SiteId) (f : Site → Site) : (s.modSite t f).pwr = s.pwr := rfl
@[simp] theorem State.modSite_clearing (s : State) (t : SiteId) (f : Site → Site) : (s.modSite t f).clearing = s.clearing := rfl
@[simp] theorem State.modSite_heldCfg (s : State) (t : SiteId) (f : Site → Site) : (s.modSite t f).heldCfg = s.heldCfg := rfl
@[simp] theorem State.modSite_lkpSpare (s : State) (t : SiteId) (f : Site → Site) : (s.modSite t f).lkpSpare = s.lkpSpare := rfl

/-! Association lists. -/

@[simp] theorem alGet_alIns_self {β : Type} (d : β) (l : List (Nat × β)) (k : Nat) (v : β) :
    alGet d (alIns l k v) k = v := by
  induction l with
  | nil => simp [alIns, alGet]
  | cons x t ih =>
    obtain ⟨a, w⟩ := x
    simp only [alIns]
    split
    · rw [alGet, if_neg (by omega)]
      exact ih
    · split <;> simp [alGet]

theorem alGet_alIns_of_ne {β : Type} (d : β) (l : List (Nat × β)) {k j : Nat} (v : β) (h : j ≠ k) :
    alGet d (alIns l k v) j = alGet d l j := by
  induction l with
  | nil => simp [alIns, alGet, Ne.symm h]
  | cons x t ih =>
    obtain ⟨a, w⟩ := x
    simp only [alIns]
    split
    · simp [alGet, ih]
    · split
      · next h2 => subst h2; simp [alGet, Ne.symm h]
      · simp [alGet, Ne.symm h]

/-! Reads of registers. -/

@[simp] theorem State.reg_setReg_self (s : State) (off : Nat) (v : Word) : (s.setReg off v).reg off = v :=
  alGet_alIns_self _ _ _ _

theorem State.reg_setReg_of_ne (s : State) {off x : Nat} (v : Word) (h : x ≠ off) :
    (s.setReg off v).reg x = s.reg x := by
  simp [State.reg, State.setReg, alGet_alIns_of_ne _ _ _ h]

theorem State.reg_setFld_of_ne (s : State) {off x : Nat} (hi lo v : Nat) (h : x ≠ off) :
    (s.setFld off hi lo v).reg x = s.reg x :=
  s.reg_setReg_of_ne _ h

theorem State.reg_count_of_ne (s : State) {off x : Nat} (n : Nat) (h : x ≠ off) :
    (s.count off n).reg x = s.reg x :=
  s.reg_setReg_of_ne _ h

@[simp] theorem State.reg_setCp (s : State) (k : CpId) (c : Cp) (x : Nat) : (s.setCp k c).reg x = s.reg x := rfl
@[simp] theorem State.reg_modCp (s : State) (k : CpId) (f : Cp → Cp) (x : Nat) : (s.modCp k f).reg x = s.reg x := rfl
@[simp] theorem State.reg_modRegs (s : State) (k : CpId) (f : CpRegs → CpRegs) (x : Nat) :
    (s.modRegs k f).reg x = s.reg x := rfl
@[simp] theorem State.reg_modSite (s : State) (t : SiteId) (f : Site → Site) (x : Nat) :
    (s.modSite t f).reg x = s.reg x := rfl
@[simp] theorem State.reg_emit (s : State) (e : OutEvent) (x : Nat) : (s.emit e).reg x = s.reg x := rfl
@[simp] theorem State.reg_freeStep (s : State) (x : Nat) : s.freeStep.reg x = s.reg x := rfl

/-! Reads of CPs and core sites. -/

@[simp] theorem State.cp_setReg (s : State) (off : Nat) (v : Word) (k : CpId) : (s.setReg off v).cp k = s.cp k := rfl
@[simp] theorem State.cp_setFld (s : State) (off hi lo v : Nat) (k : CpId) : (s.setFld off hi lo v).cp k = s.cp k := rfl
@[simp] theorem State.cp_count (s : State) (off n : Nat) (k : CpId) : (s.count off n).cp k = s.cp k := rfl
@[simp] theorem State.cp_modSite (s : State) (t : SiteId) (f : Site → Site) (k : CpId) :
    (s.modSite t f).cp k = s.cp k := rfl
@[simp] theorem State.cp_emit (s : State) (e : OutEvent) (k : CpId) : (s.emit e).cp k = s.cp k := rfl

@[simp] theorem State.cp_setCp_self (s : State) (k : CpId) (c : Cp) : (s.setCp k c).cp k = c := by
  simp [State.cp, State.setCp]

theorem State.cp_setCp_of_ne (s : State) {k j : CpId} (c : Cp) (h : j ≠ k) : (s.setCp k c).cp j = s.cp j := by
  have : (k : Nat) ≠ j := fun e => h (Fin.ext e.symm)
  simp [State.cp, State.setCp, this]

@[simp] theorem State.cp_modCp_self (s : State) (k : CpId) (f : Cp → Cp) : (s.modCp k f).cp k = f (s.cp k) :=
  s.cp_setCp_self k _

theorem State.cp_modCp_of_ne (s : State) {k j : CpId} (f : Cp → Cp) (h : j ≠ k) : (s.modCp k f).cp j = s.cp j :=
  s.cp_setCp_of_ne _ h

@[simp] theorem State.cr_modRegs_self (s : State) (k : CpId) (f : CpRegs → CpRegs) :
    (s.modRegs k f).cr k = f (s.cr k) := by
  simp [State.cr, State.modRegs]

theorem State.cp_modRegs_of_ne (s : State) {k j : CpId} (f : CpRegs → CpRegs) (h : j ≠ k) :
    (s.modRegs k f).cp j = s.cp j :=
  s.cp_modCp_of_ne _ h

@[simp] theorem State.site_modSite_self (s : State) (t : SiteId) (f : Site → Site) :
    (s.modSite t f).site t = f (s.site t) := by
  simp [State.site, State.modSite]

end Sys2Proof.Machine
end

