-- ==== Sys2Proof/Laws/Cache.lean ====
section
/-!
SUPPORT. What an access through the caches can do, said once per access: caches, RLB copies and what the HBM holds under dirty
lines follow, and main storage holds what it held while the L3 holds nothing aged.
-/

namespace Sys2Proof.Machine

theorem SiteCaches.rfl' (x : Site) : SiteCaches x x := rfl

theorem SiteCaches.trans {x y z : Site} (h : SiteCaches x y) (g : SiteCaches y z) : SiteCaches x z := by
  unfold SiteCaches at *
  rw [g, h]

theorem CacheOnly.refl (s : State) : CacheOnly s s := ⟨rfl, fun _ => rfl, fun h => ⟨h, rfl, rfl⟩, id⟩

theorem CacheOnly.trans {s t u : State} (h : CacheOnly s t) (g : CacheOnly t u) : CacheOnly s u := by
  refine ⟨?_, fun x => (h.sites x).trans (g.sites x), fun hs => ?_, fun hs => g.fresh (h.fresh hs)⟩
  · have e := g.rest
    rw [h.rest] at e
    exact e
  · obtain ⟨h1, h2, h3⟩ := h.still hs
    obtain ⟨g1, g2, g3⟩ := g.still h1
    exact ⟨g1, g2.trans h2, g3.trans h3⟩

/-- Several such steps, one after the other. -/
theorem CacheOnly.forEach {α : Type} (f : α → State → State) (h : ∀ a s, CacheOnly s (f a s)) :
    ∀ (l : List α) (s : State), CacheOnly s (s.forEach l f)
  | [], s => CacheOnly.refl s
  | a :: t, s => (h a s).trans (CacheOnly.forEach f h t (f a s))

theorem State.site_modSite (s : State) (t x : SiteId) (f : Site → Site) :
    (s.modSite t f).site x = if x = t then f (s.site t) else s.site x := by
  by_cases h : x = t
  · subst h; simp
  · have : (t : Nat) ≠ x := fun e => h (Fin.ext e.symm)
    simp [State.site, State.modSite, this, h]

/-- A change of the caches of one core site that adds no contents of its own. -/
theorem CacheOnly.modSite (s : State) (t : SiteId) (f : Site → Site) (h : SiteCaches (s.site t) (f (s.site t)))
    (hf : (s.site t).l2Stale = [] → (s.site t).l1dStale = [] → (f (s.site t)).l2Stale = [] ∧ (f (s.site t)).l1dStale = []) :
    CacheOnly s (s.modSite t f) := by
  refine ⟨rfl, fun x => ?_, fun hs => ⟨hs, rfl, rfl⟩, fun hs => ⟨hs.1, fun x => ?_⟩⟩
  · rw [State.site_modSite]
    split
    · next e => exact e ▸ h
    · exact SiteCaches.rfl' _
  · rw [State.site_modSite]
    split
    · exact hf (hs.2 t).1 (hs.2 t).2
    · exact hs.2 x

theorem CacheOnly.tags (s : State) (c : Vector Cache 4) : CacheOnly s { s with tagCache := c } :=
  ⟨rfl, fun _ => rfl, fun h => ⟨h, rfl, rfl⟩, id⟩

theorem CacheOnly.modL3 (s : State) (la : Nat) (f : CSet → CSet) : CacheOnly s (s.modL3 la f) :=
  ⟨rfl, fun _ => rfl, fun h => ⟨h, rfl, rfl⟩, id⟩

theorem State.tagTouch_only (s : State) (la : Nat) (d : Bool) : CacheOnly s (s.tagTouch la d) := by
  unfold State.tagTouch
  split
  · exact CacheOnly.refl s
  · exact CacheOnly.tags s _

theorem LineData.without_nil (la : Nat) : LineData.without [] la = [] := rfl

/-- t is s but for the caches of core sites. -/
structure SitesOnly (s t : State) : Prop where
  rest : t = { s with sites := t.sites }
  sites : ∀ x, SiteCaches (s.site x) (t.site x)

theorem SitesOnly.refl (s : State) : SitesOnly s s := ⟨rfl, fun _ => rfl⟩

theorem SitesOnly.trans {s t u : State} (h : SitesOnly s t) (g : SitesOnly t u) : SitesOnly s u := by
  refine ⟨?_, fun x => (h.sites x).trans (g.sites x)⟩
  have e := g.rest
  rw [h.rest] at e
  exact e

theorem SitesOnly.forEach {α : Type} (f : α → State → State) (h : ∀ a s, SitesOnly s (f a s)) :
    ∀ (l : List α) (s : State), SitesOnly s (s.forEach l f)
  | [], s => SitesOnly.refl s
  | a :: t, s => (h a s).trans (SitesOnly.forEach f h t (f a s))

theorem SitesOnly.modSite (s : State) (t : SiteId) (f : Site → Site) (h : SiteCaches (s.site t) (f (s.site t))) :
    SitesOnly s (s.modSite t f) := by
  refine ⟨rfl, fun x => ?_⟩
  rw [State.site_modSite]
  split
  · next e => exact e ▸ h
  · exact SiteCaches.rfl' _

theorem State.keepCopies_only (s : State) (la : Nat) (ws : List TWord) : SitesOnly s (s.keepCopies la ws) := by
  refine SitesOnly.forEach _ (fun t s => ?_) _ s
  split
  · exact SitesOnly.modSite s t _ (by split <;> rfl)
  · unfold State.keepL1
    split
    · exact SitesOnly.modSite s t _ (by split <;> rfl)
    · exact SitesOnly.refl s

theorem State.settle_only (s : State) (la : Nat) : CacheOnly s (s.settle la) := by
  unfold State.settle
  split
  · exact CacheOnly.refl s
  · split
    · next hc =>
      split
      · exact CacheOnly.refl s
      · have bad : s.l3Stale ≠ [] := by intro e; rw [e] at hc; cases hc
        unfold State.revertLine
        split
        · have h := State.keepCopies_only
            { { s with l3Stale := s.l3Stale.filter (· ≠ la) } with mem := s.mem.revert la } la (s.mem.line la)
          refine ⟨?_, fun x => h.sites x, fun e => absurd e bad, fun e => absurd e.1 bad⟩
          conv_lhs => rw [h.rest]
          rw [h.rest]
        · exact ⟨rfl, fun _ => rfl, fun e => absurd e bad, fun e => absurd e.1 bad⟩
    · split
      · have a : CacheOnly s { s with mem := s.mem.forgetOlder la } := ⟨rfl, fun _ => rfl, fun h => ⟨h, rfl, rfl⟩, id⟩
        exact a.trans (State.tagTouch_only _ la true)
      · exact CacheOnly.refl s

theorem State.l3Access_only (s : State) (part : Option PartId) (la : Nat) (d : Bool) : CacheOnly s (s.l3Access part la d) := by
  have h : CacheOnly s (if s.inL3 la then s else s.tagTouch la false) := by
    split
    · exact CacheOnly.refl s
    · exact s.tagTouch_only la false
  unfold State.l3Access
  refine h.trans ?_
  generalize (if s.inL3 la then s else s.tagTouch la false) = u
  dsimp only
  split
  · generalize hv : u.modL3 la _ = v
    have g : CacheOnly u v := hv ▸ CacheOnly.modL3 u la _
    split
    · exact g.trans (State.settle_only v _)
    · exact g
  · exact CacheOnly.refl u

theorem State.l1Out_only (s : State) (t : SiteId) (la : Nat) : CacheOnly s (s.l1Out t la) :=
  CacheOnly.modSite s t _ rfl fun h1 h2 => ⟨h1, by simp only [h2]; rfl⟩

/-- Contents of an L2 that differ from storage go with their line. -/
theorem CacheOnly.l2Without (s : State) (t : SiteId) (la : Nat) :
    CacheOnly s (s.modSite t fun y => { y with l2Stale := y.l2Stale.without la }) :=
  CacheOnly.modSite s t _ rfl fun h1 h2 => ⟨by simp only [h1]; rfl, h2⟩

theorem State.l2Access_only (s : State) (t : SiteId) (part : Option PartId) (la : Nat) (d : Bool) :
    CacheOnly s (s.l2Access t part la d) := by
  unfold State.l2Access
  dsimp only
  split
  · refine CacheOnly.trans (t := if ((s.l2At t la).hit la).isNone then s.l3Access part la false else s) ?_ ?_
    · split
      · exact s.l3Access_only part la false
      · exact CacheOnly.refl s
    · generalize (if ((s.l2At t la).hit la).isNone then s.l3Access part la false else s) = u
      generalize hv : State.modSite u t _ = v
      have g : CacheOnly u v := by
        rw [← hv]
        refine CacheOnly.modSite u t _ rfl fun h1 h2 => ⟨?_, h2⟩
        simp only; split
        · rw [h1]; rfl
        · exact h1
      refine g.trans ?_
      · split
        · next l _ =>
          refine ((State.l1Out_only v t l.la).trans (CacheOnly.l2Without _ t l.la)).trans ?_
          split
          · exact (State.l3Access_only _ part _ true).trans (State.settle_only _ _)
          · exact CacheOnly.refl _
        · exact CacheOnly.refl _
  · exact s.l3Access_only part la d

theorem State.l1dAccess_only (s : State) (t : SiteId) (part : Option PartId) (la : Nat) (d : Bool) :
    CacheOnly s (s.l1dAccess t part la d) := by
  unfold State.l1dAccess
  dsimp only
  generalize hv : State.modSite s t _ = v
  have g : CacheOnly s v := by
    rw [← hv]
    refine CacheOnly.modSite s t _ rfl fun h1 h2 => ⟨h1, ?_⟩
    simp only; split
    · rw [h2]; rfl
    · exact h2
  refine g.trans ?_
  split
  · next l _ =>
    generalize hw : State.modSite v t _ = w
    have g' : CacheOnly v w := hw ▸ CacheOnly.modSite v t _ rfl fun h1 h2 => ⟨h1, by simp only [h2]; rfl⟩
    refine g'.trans ?_
    split
    · exact (State.l2Access_only _ t part _ true).trans (State.settle_only _ _)
    · exact CacheOnly.refl _
  · exact CacheOnly.refl _

theorem State.l1iAccess_only (s : State) (t : SiteId) (la : Nat) : CacheOnly s (s.l1iAccess t la) :=
  CacheOnly.modSite s t _ rfl fun h1 h2 => ⟨h1, h2⟩

theorem State.siteOut_only (s : State) (t : SiteId) (la : Nat) : CacheOnly s (s.siteOut t la) := by
  unfold State.siteOut
  refine (s.l1Out_only t la).trans ?_
  dsimp only
  split
  · generalize s.l1Out t la = u
    have g : CacheOnly u (u.modL2 t la fun y => (y.drop (u.l2Locked t) la).1) :=
      CacheOnly.modSite u t _ rfl fun h1 h2 => ⟨h1, h2⟩
    exact g.trans (CacheOnly.l2Without _ t la)
  · exact CacheOnly.refl _

theorem State.giveUp_only (s : State) (keep : Option SiteId) (part : Option PartId) (pol la : Nat) :
    CacheOnly s (s.giveUp keep part pol la) := by
  refine CacheOnly.forEach _ (fun t s => ?_) _ s
  split
  · exact CacheOnly.refl s
  · refine (s.siteOut_only t la).trans ?_
    dsimp only
    refine CacheOnly.trans ?_ (State.settle_only _ la)
    split
    · exact State.l3Access_only _ part la true
    · exact CacheOnly.refl _

theorem State.sharedRead_only (s : State) (part : Option PartId) (pol la : Nat) : CacheOnly s (s.sharedRead part pol la) := by
  unfold State.sharedRead
  refine (s.giveUp_only none part pol la).trans ?_
  dsimp only
  split
  · exact State.l3Access_only _ part la false
  · exact State.tagTouch_only _ la false

/-- A load through the caches. -/
theorem State.cacheLoad_only (s : State) (t : Option SiteId) (part : Option PartId) (pol la : Nat) :
    CacheOnly s (s.cacheLoad t part pol la) := by
  unfold State.cacheLoad
  split
  · split
    · exact s.l1dAccess_only _ part la false
    · exact ((s.giveUp_only _ part 0 la).trans (State.l2Access_only _ _ part la false)).trans (State.l1dAccess_only _ _ part la false)
  · exact s.sharedRead_only part pol la

/-- An instruction fetch through the caches. -/
theorem State.cacheFetch_only (s : State) (t : Option SiteId) (part : Option PartId) (pol la : Nat) :
    CacheOnly s (s.cacheFetch t part pol la) := by
  unfold State.cacheFetch
  split
  · split
    · exact s.l1iAccess_only _ la
    · exact ((s.giveUp_only _ part 0 la).trans (State.l2Access_only _ _ part la false)).trans (State.l1iAccess_only _ _ la)
  · exact s.sharedRead_only part pol la

/-- t is s after CP_k's RLB and caches were used: as CacheOnly, with the counter of RLB parity errors. -/
structure Touched (s t : State) (k : CpId) : Prop where
  rest : t = { s with regs := t.regs, mem := t.mem, sites := t.sites, l3 := t.l3, l3Stale := t.l3Stale, tagCache := t.tagCache }
  sites : ∀ x, SiteCaches (s.site x) (t.site x)
  still : s.l3Stale = [] → t.l3Stale = [] ∧ t.mem.cells = s.mem.cells ∧ t.mem.poison = s.mem.poison
  fresh : Fresh s → Fresh t
  regs : ∀ o, (∀ x, s.siteOf k = some x → o ≠ cSITE x 3) → t.reg o = s.reg o

theorem CacheOnly.touched {s t : State} (h : CacheOnly s t) (k : CpId) : Touched s t k := by
  refine ⟨?_, h.sites, h.still, h.fresh, fun o _ => ?_⟩
  · have e := h.rest
    conv_lhs => rw [e]
    conv_rhs => rw [e]
  · rw [h.rest]; rfl

theorem Touched.then {s t u : State} {k : CpId} (h : Touched s t k) (g : CacheOnly t u) : Touched s u k := by
  refine ⟨?_, fun x => (h.sites x).trans (g.sites x), fun hs => ?_, fun hs => g.fresh (h.fresh hs), fun o ho => ?_⟩
  · have e := g.rest
    rw [h.rest] at e
    conv_lhs => rw [e]
    conv_rhs => rw [e]
  · obtain ⟨h1, h2, h3⟩ := h.still hs
    obtain ⟨g1, g2, g3⟩ := g.still h1
    exact ⟨g1, g2.trans h2, g3.trans h3⟩
  · rw [g.rest]
    exact h.regs o ho

/-- A parity error of an RLB entry is counted. -/
theorem Touched.count (s : State) (k : CpId) (t : SiteId) (h : s.siteOf k = some t) : Touched s (s.count (cSITE t 3) 1) k :=
  ⟨rfl, fun _ => rfl, fun h => ⟨h, rfl, rfl⟩, id, fun _ ho => s.reg_count_of_ne 1 (ho t h)⟩

theorem CacheOnly.thenTouched {s t u : State} {k : CpId} (h : CacheOnly s t) (g : Touched t u k)
    (e : t.siteOf k = s.siteOf k) : Touched s u k := by
  refine ⟨?_, fun x => (h.sites x).trans (g.sites x), fun hs => ?_, fun hs => g.fresh (h.fresh hs), fun o ho => ?_⟩
  · have e := g.rest
    rw [h.rest] at e
    exact e
  · obtain ⟨h1, h2, h3⟩ := h.still hs
    obtain ⟨g1, g2, g3⟩ := g.still h1
    exact ⟨g1, g2.trans h2, g3.trans h3⟩
  · rw [g.regs o (fun x hx => ho x (e ▸ hx)), h.rest]
    rfl

/-- A change of one site's RLB. -/
theorem CacheOnly.rlb (s : State) (t : SiteId) (f : Site → Site) (h : ∀ x, SiteCaches x (f x))
    (h2 : ∀ x, (f x).l2Stale = x.l2Stale ∧ (f x).l1dStale = x.l1dStale) : CacheOnly s (s.modSite t f) :=
  CacheOnly.modSite s t f (h _) fun a b => ⟨(h2 _).1.trans a, (h2 _).2.trans b⟩

/-- A translation is noted in the RLB; a parity error of its entry is counted (R72, R74). -/
theorem State.touchRlb_touched (s : State) (k : CpId) (ea : Word) : Touched s (s.touchRlb k ea) k := by
  have use : ∀ (u : State) (t : SiteId) (d : Word), CacheOnly u (u.modSite t fun x => x.rlbUse (ea.toNat / 2 ^ 21) d) :=
    fun u t d => CacheOnly.rlb u t _ (fun _ => rfl) fun _ => ⟨rfl, rfl⟩
  unfold State.touchRlb
  split
  · next t n ht hn =>
    dsimp only
    split
    · next d _ =>
      split
      · have a : CacheOnly s (s.modSite t fun x => x.rlbDrop (ea.toNat / 2 ^ 21)) :=
          CacheOnly.rlb s t _ (fun _ => rfl) fun _ => ⟨rfl, rfl⟩
        have hu : (s.modSite t fun x => x.rlbDrop (ea.toNat / 2 ^ 21)).siteOf k = some t := ht
        have e : s.rlbParity k (ea.toNat / 2 ^ 21) =
            (s.modSite t fun x => x.rlbDrop (ea.toNat / 2 ^ 21)).count (cSITE t 3) 1 := by
          simp only [State.rlbParity, ht, State.countSite, hu]
        rw [e]
        exact (a.thenTouched (Touched.count _ k t hu) rfl).then (use _ t d)
      · exact (use s t d).touched k
    · exact (CacheOnly.refl s).touched k
  · exact (CacheOnly.refl s).touched k

/-- What a fetch leaves behind (R72, R246). -/
theorem State.fetched_touched (s : State) (k : CpId) : Touched s (s.fetched k) k := by
  unfold State.fetched
  dsimp only
  split
  · exact (s.touchRlb_touched k _).then (State.cacheFetch_only _ _ _ _ _)
  · exact (CacheOnly.refl s).touched k

end Sys2Proof.Machine
end

