-- ==== Sys2Proof/Laws/Cipher.lean ====
section
/-! SUPPORT. Lengths in the cipher and the hash: a hash fills its output, a block stays 16 bytes, and a sealed blob opens
again. -/

namespace Sys2Proof.Laws

open Sys2Proof Sys2Proof.Machine

theorem keccakRound_length (a : List Word) (rc : Word) : (keccakRound a rc).length = 25 := by
  simp [keccakRound, List.range_succ]

theorem foldl_length {α β : Type} (f : List α → β → List α) (n : Nat) (h : ∀ a b, a.length = n → (f a b).length = n) :
    ∀ (l : List β) (a : List α), a.length = n → (l.foldl f a).length = n
  | [], _, ha => ha
  | b :: t, a, ha => foldl_length f n h t (f a b) (h a b ha)

theorem keccakF_length (a : List Word) (h : a.length = 25) : (keccakF a).length = 25 :=
  foldl_length _ 25 (fun _ _ _ => keccakRound_length _ _) _ _ h

theorem wordBytes_length (ws : List Word) : (wordBytes ws).length = 8 * ws.length := by
  induction ws with
  | nil => rfl
  | cons w t ih => simp [wordBytes, leBytes] at *; omega

theorem keccakF_always (a : List Word) : (keccakF a).length = 25 := by
  unfold keccakF
  rw [show (List.range 24) = List.range 23 ++ [23] from rfl, List.foldl_append]
  exact keccakRound_length _ _

theorem sha3_384_length (m : List Byte) : (sha3_384 m).length = 48 := by
  have h : ∀ f : List Word, f.length = 25 → ((wordBytes f).take 48).length = 48 := fun f hf => by
    simp [wordBytes_length, hf]
  exact h _ (foldl_length _ 25 (fun _ _ _ => keccakF_always _) _ _ rfl)

theorem kwkOf_length (n : Nat) (seed : List Byte) : (kwkOf n seed).length = 32 := by
  simp [kwkOf, sha3_384_length]

theorem xorBytes_length (a b : List Byte) : (xorBytes a b).length = min a.length b.length := by simp [xorBytes]

/-- One step of the key schedule. -/
theorem keyWords_step (nk n : Nat) (rc : Byte) (ws : List (List Byte)) (h : ∀ w ∈ ws, w.length = 4) (hk : 0 < nk) (hl : nk ≤ ws.length) :
    ∃ rc' w, w.length = 4 ∧ keyWords nk (n + 1) rc ws = keyWords nk n rc' (w :: ws) := by
  have head : (ws.headD []).length = 4 := by
    cases ws with
    | nil => simp at hl; omega
    | cons w t => exact h w (by simp)
  have back : (ws.getD (nk - 1) []).length = 4 := by
    have : nk - 1 < ws.length := by omega
    rw [List.getD_eq_getElem _ _ this]
    exact h _ (List.getElem_mem this)
  refine ⟨_, _, ?_, rfl⟩
  rw [xorBytes_length, back]
  generalize ws.headD [] = t at head
  match t, head with
  | [a, b, c, d], _ =>
    simp only [List.drop, List.take, List.map]
    split
    · rfl
    · split <;> rfl

/-- Every word of the key schedule has 4 bytes. -/
theorem keyWords_shape (nk : Nat) (hk : 0 < nk) : ∀ (n : Nat) (rc : Byte) (ws : List (List Byte)),
    nk ≤ ws.length → (∀ w ∈ ws, w.length = 4) →
      (keyWords nk n rc ws).length = ws.length + n ∧ ∀ w ∈ keyWords nk n rc ws, w.length = 4
  | 0, _, _, _, h => ⟨rfl, h⟩
  | n + 1, rc, ws, hl, h => by
    obtain ⟨rc', w, hw, e⟩ := keyWords_step nk n rc ws h hk hl
    rw [e]
    have := keyWords_shape nk hk n rc' (w :: ws) (by simp; omega) (by
      intro x hx
      rcases List.mem_cons.mp hx with rfl | hx
      · exact hw
      · exact h x hx)
    exact ⟨by rw [this.1, List.length_cons]; omega, this.2⟩

/-- Round keys have 16 bytes, and there is one at least. -/
theorem roundKeys_shape (k : List Byte) (h : k.length = 16 ∨ k.length = 32) :
    roundKeys k ≠ [] ∧ ∀ r ∈ roundKeys k, r.length = 16 := by
  have nk : k.length / 4 = 4 ∨ k.length / 4 = 8 := by omega
  have w0 : ∀ w ∈ ((List.range (k.length / 4)).map fun i => (k.drop (4 * i)).take 4).reverse, w.length = 4 := by
    intro w hw
    simp only [List.mem_reverse, List.mem_map, List.mem_range] at hw
    obtain ⟨i, hi, rfl⟩ := hw
    simp; omega
  have sh := keyWords_shape (k.length / 4) (by omega) (4 * (k.length / 4 + 7) - k.length / 4) 1 _ (by simp) w0
  refine ⟨by simp [roundKeys], fun r hr => ?_⟩
  simp only [roundKeys, List.mem_map, List.mem_range] at hr
  obtain ⟨i, hi, rfl⟩ := hr
  have flat : ∀ l : List (List Byte), (∀ w ∈ l, w.length = 4) → l.flatten.length = 4 * l.length := by
    intro l hl
    induction l with
    | nil => rfl
    | cons w t ih =>
      have := ih fun x hx => hl x (by simp [hx])
      have := hl w (by simp)
      simp at *; omega
  have len := flat _ (fun w hw => sh.2 w (List.mem_reverse.mp hw))
  rw [List.length_reverse, sh.1] at len
  simp only [List.length_reverse, List.length_map, List.length_range] at len
  rw [List.length_take, List.length_drop, len]
  omega

theorem encRounds_length : ∀ (ks : List (List Byte)) (b : List Byte), (∀ r ∈ ks, r.length = 16) → b.length = 16 →
    (encRounds ks b).length = 16
  | [], _, _, hb => hb
  | [k], b, h, _ => by simp [encRounds, xorBytes, shiftRows, h k (by simp)]
  | k :: k' :: t, b, h, _ => by
    rw [encRounds.eq_3 _ _ _ (by simp)]
    exact encRounds_length (k' :: t) _ (fun r hr => h r (by simp_all)) (by
      simp [xorBytes, mixColumns, mixWith, h k (by simp)])

/-- A block stays 16 bytes. -/
theorem aesEnc_length (ks : List (List Byte)) (b : List Byte) (h : ∀ r ∈ ks, r.length = 16) (hb : b.length = 16) :
    (aesEnc ks b).length = 16 := by
  cases ks with
  | nil => exact hb
  | cons k t => exact encRounds_length t _ (fun r hr => h r (by simp [hr])) (by simp [xorBytes, h k (by simp), hb])

theorem xorBytes_back : ∀ (p e : List Byte), p.length ≤ e.length → xorBytes (xorBytes p e) e = p
  | [], _, _ => rfl
  | a :: p, [], h => by simp at h
  | a :: p, b :: e, h => by
    have ih := xorBytes_back p e (by simpa using h)
    simp only [xorBytes, List.zipWith_cons_cons] at *
    rw [ih, BitVec.xor_assoc, BitVec.xor_self, BitVec.xor_zero]

theorem leBytes_length : ∀ n v : Nat, (leBytes n v).length = n
  | 0, _ => rfl
  | n + 1, v => by simp [leBytes, leBytes_length n]

/-- A text of one block. -/
theorem gcmText_block (ks : List (List Byte)) (iv p : List Byte) (hp : p.length = 16) :
    gcmText ks iv p = xorBytes p (aesEnc ks (ctrBlock (iv ++ [0, 0, 0, 2]) 32 0)) := by
  simp [gcmText, ctr, chunk, hp, List.range_succ, List.take_of_length_le, List.zipIdx]

/-- GCM over one block, with a 12-byte IV: the lengths, and that it opens again. -/
theorem gcm_block (ks : List (List Byte)) (h : ∀ r ∈ ks, r.length = 16) (iv aad p : List Byte) (hi : iv.length = 12) (hp : p.length = 16) :
    (gcmEnc ks iv aad p).length = 32 ∧ gcmDec ks iv aad (gcmEnc ks iv aad p) = (p, true) := by
  have block := aesEnc_length ks (ctrBlock (iv ++ [0, 0, 0, 2]) 32 0) h (by simp [ctrBlock, beBytes, leBytes_length])
  have ct : (gcmText ks iv p).length = 16 := by rw [gcmText_block ks iv p hp, xorBytes_length, hp, block, Nat.min_self]
  have tag : (gcmTag ks iv aad (gcmText ks iv p)).length = 16 := by
    rw [gcmTag, xorBytes_length, aesEnc_length ks _ h (by simp [hi])]
    simp [beBytes, leBytes_length]
  have len : (gcmEnc ks iv aad p).length = 32 := by simp [gcmEnc, ct, tag]
  refine ⟨len, ?_⟩
  have t : (gcmEnc ks iv aad p).take 16 = gcmText ks iv p := by rw [gcmEnc, List.take_left' ct]
  have d : (gcmEnc ks iv aad p).drop 16 = gcmTag ks iv aad (gcmText ks iv p) := by rw [gcmEnc, List.drop_left' ct]
  simp only [gcmDec, len, t, d, beq_self_eq_true, Prod.mk.injEq, and_true]
  rw [gcmText_block ks iv _ ct, gcmText_block ks iv p hp, xorBytes_back _ _ (by rw [hp, block])]

end Sys2Proof.Laws
end

