-- ==== Sys2Proof/Laws/Mem.lean ====
section
/-! SUPPORT. Main storage keeps its canonical form under every operation, a read after a write finds what was written, and a
write leaves every other place alone. -/

namespace Sys2Proof.Machine

/-! Association lists with rising keys. -/

theorem alErase_subset {β : Type} (l : List (Nat × β)) (k : Nat) : ∀ x ∈ alErase l k, x ∈ l := by
  induction l with
  | nil => simp [alErase]
  | cons y t ih =>
    obtain ⟨a, w⟩ := y
    intro x hx
    simp only [alErase] at hx
    split at hx
    · exact List.mem_cons_of_mem _ (ih x hx)
    · rcases List.mem_cons.mp hx with h | h
      · exact h ▸ List.mem_cons_self ..
      · exact List.mem_cons_of_mem _ (ih x h)

theorem alErase_sorted {β : Type} (l : List (Nat × β)) (k : Nat) (h : l.Pairwise (fun x y => x.1 < y.1)) :
    (alErase l k).Pairwise (fun x y => x.1 < y.1) := by
  induction l with
  | nil => simp [alErase]
  | cons y t ih =>
    obtain ⟨a, w⟩ := y
    obtain ⟨h1, h2⟩ := List.pairwise_cons.mp h
    simp only [alErase]
    split
    · exact ih h2
    · exact List.pairwise_cons.mpr ⟨fun x hx => h1 x (alErase_subset t k x hx), ih h2⟩

theorem alIns_mem {β : Type} (l : List (Nat × β)) (k : Nat) (v : β) :
    ∀ x ∈ alIns l k v, x = (k, v) ∨ x ∈ l := by
  induction l with
  | nil => simp [alIns]
  | cons y t ih =>
    obtain ⟨a, w⟩ := y
    intro x hx
    simp only [alIns] at hx
    split at hx
    · rcases List.mem_cons.mp hx with h | h
      · exact .inr (h ▸ List.mem_cons_self ..)
      · exact (ih x h).imp id (List.mem_cons_of_mem _)
    · split at hx
      · rcases List.mem_cons.mp hx with h | h
        · exact .inl h
        · exact .inr (List.mem_cons_of_mem _ h)
      · rcases List.mem_cons.mp hx with h | h
        · exact .inl h
        · exact .inr h

theorem alIns_sorted {β : Type} (l : List (Nat × β)) (k : Nat) (v : β) (h : l.Pairwise (fun x y => x.1 < y.1)) :
    (alIns l k v).Pairwise (fun x y => x.1 < y.1) := by
  induction l with
  | nil => simp [alIns]
  | cons y t ih =>
    obtain ⟨a, w⟩ := y
    obtain ⟨h1, h2⟩ := List.pairwise_cons.mp h
    simp only [alIns]
    split
    · next hlt =>
      refine List.pairwise_cons.mpr ⟨fun x hx => ?_, ih h2⟩
      rcases alIns_mem t k v x hx with e | e
      · exact e ▸ hlt
      · exact h1 x e
    · split
      · next _ he => exact List.pairwise_cons.mpr ⟨fun x hx => he ▸ h1 x hx, h2⟩
      · next hn hne =>
        have : k < a := by omega
        refine List.pairwise_cons.mpr ⟨fun x hx => ?_, h⟩
        rcases List.mem_cons.mp hx with e | e
        · exact e ▸ this
        · exact Nat.lt_trans this (h1 x e)

theorem insNat_mem (l : List Nat) (k : Nat) : ∀ x, x ∈ insNat l k ↔ x = k ∨ x ∈ l := by
  induction l with
  | nil => simp [insNat]
  | cons a t ih =>
    intro x
    simp only [insNat]
    split
    · simp only [List.mem_cons, ih]
      tauto
    · split
      · next h => subst h; simp
      · simp

theorem insNat_sorted (l : List Nat) (k : Nat) (h : l.Pairwise (fun (x y : Nat) => x < y)) :
    (insNat l k).Pairwise (fun (x y : Nat) => x < y) := by
  induction l with
  | nil => simp [insNat]
  | cons a t ih =>
    obtain ⟨h1, h2⟩ := List.pairwise_cons.mp h
    simp only [insNat]
    split
    · next hlt =>
      refine List.pairwise_cons.mpr ⟨fun x hx => ?_, ih h2⟩
      rcases (insNat_mem t k x).mp hx with e | e
      · exact e ▸ hlt
      · exact h1 x e
    · split
      · exact h
      · next hn hne =>
        refine List.pairwise_cons.mpr ⟨fun x hx => ?_, h⟩
        rcases List.mem_cons.mp hx with e | e
        · subst e; omega
        · have := h1 x e; omega

/-! The canonical form. -/

theorem Mem.empty_wf : Mem.empty.wf := by simp [Mem.wf, Mem.empty]

theorem Mem.setByte_wf {m : Mem} (a : Nat) (b : Byte) (h : m.wf) : (m.setByte a b).wf := by
  obtain ⟨h1, h2, h3⟩ := h
  simp only [Mem.wf, Mem.setByte, alSet]
  split
  · exact ⟨alErase_sorted _ _ h1, fun c hc => h2 c (alErase_subset _ _ c hc), h3⟩
  · next hb =>
    refine ⟨alIns_sorted _ _ _ h1, fun c hc => ?_, h3⟩
    rcases alIns_mem _ _ _ c hc with e | e
    · exact e ▸ hb
    · exact h2 c e

theorem Mem.setBytes_wf (bs : List Byte) : ∀ {m : Mem} (a : Nat), m.wf → (m.setBytes a bs).wf := by
  induction bs with
  | nil => intro m a h; exact h
  | cons b t ih => intro m a h; exact ih (a + 1) (Mem.setByte_wf a b h)

theorem Mem.setTagByte_wf {m : Mem} (pa : Nat) (tag : BitVec 6) (col : BitVec 2) (h : m.wf) :
    (m.setTagByte pa tag col).wf := by
  unfold Mem.setTagByte
  split
  · exact Mem.setByte_wf _ _ h
  · exact h

theorem Mem.setPoison_wf {m : Mem} (pa : Nat) (b : Bool) (h : m.wf) : (m.setPoison pa b).wf := by
  obtain ⟨h1, h2, h3⟩ := h
  unfold Mem.setPoison
  split
  · exact ⟨h1, h2, insNat_sorted _ _ h3⟩
  · exact ⟨h1, h2, h3.filter _⟩

theorem Mem.putWord_wf {m : Mem} (pa : Nat) (w : TWord) (h : m.wf) : (m.putWord pa w).wf :=
  Mem.setPoison_wf _ _ (Mem.setTagByte_wf _ _ _ (Mem.setBytes_wf _ _ h))

theorem Mem.breakPair_wf {m : Mem} (pa : Nat) (h : m.wf) : (m.breakPair pa).wf := by
  simp only [Mem.breakPair]
  split <;> split <;> first | exact Mem.setTagByte_wf _ _ _ h | exact h

theorem Mem.store_wf {m : Mem} (o : StoreOut) (h : m.wf) : (m.store o).wf := by
  unfold Mem.store
  by_cases hb : (o.tag.isSome && !o.whole) = true
  · simp only [hb, if_true]
    exact Mem.putWord_wf _ _ (Mem.breakPair_wf _ h)
  · simp only [hb]
    exact Mem.putWord_wf _ _ h

theorem Mem.withHeld_wf (l : List Held) : ∀ {m : Mem}, m.wf → (m.withHeld l).wf := by
  induction l with
  | nil => intro m h; exact h
  | cons x t ih =>
    intro m h
    cases x with
    | store o pol => exact ih (Mem.store_wf o h)
    | line op la => exact ih h
    | reg x v => exact ih h
    | heal o pol tag v card =>
      simp only [Mem.withHeld, List.foldl_cons]
      split
      · cases card with
        | none => exact ih (Mem.store_wf o h)
        | some c => exact ih (Mem.store_wf o (Mem.store_wf c.1 h))
      · exact ih h

theorem Mem.putRaws_wf (ws : List Word) : ∀ {m : Mem} (pa : Nat), m.wf → (m.putRaws pa ws).wf := by
  induction ws with
  | nil => intro m pa h; exact h
  | cons w t ih => intro m pa h; exact ih (pa + 8) (Mem.putWord_wf _ _ h)

theorem Mem.putLine_wf {m : Mem} (la : Nat) (ws : List TWord) (h : m.wf) : (m.putLine la ws).wf := by
  unfold Mem.putLine
  generalize List.range 8 = l
  induction l generalizing m with
  | nil => exact h
  | cons i t ih => exact ih (Mem.putWord_wf _ _ h)

theorem Mem.forgetOlder_wf {m : Mem} (la : Nat) (h : m.wf) : (m.forgetOlder la).wf := h

theorem Mem.keepOlder_wf {m : Mem} (la : Nat) (h : m.wf) : (m.keepOlder la).wf := by
  unfold Mem.keepOlder
  split <;> exact h

theorem Mem.revert_wf {m : Mem} (la : Nat) (h : m.wf) : (m.revert la).wf := by
  unfold Mem.revert
  split
  · exact Mem.putLine_wf _ _ h
  · exact h

/-! Reads after writes. -/

theorem alGet_alErase {β : Type} (d : β) (l : List (Nat × β)) (k j : Nat) :
    alGet d (alErase l k) j = if j = k then d else alGet d l j := by
  induction l with
  | nil => simp [alErase, alGet]
  | cons y t ih =>
    obtain ⟨a, w⟩ := y
    simp only [alErase]
    split
    · next h =>
      subst h
      rw [ih]
      simp only [alGet]
      split
      · rfl
      · next hj => rw [if_neg (Ne.symm hj)]
    · next h =>
      simp only [alGet, ih]
      split
      · next h2 => subst h2; rw [if_neg h]
      · rfl

theorem alGet_alIns' {β : Type} (d : β) (l : List (Nat × β)) (k : Nat) (v : β) (j : Nat) :
    alGet d (alIns l k v) j = if j = k then v else alGet d l j := by
  induction l with
  | nil =>
    simp only [alIns, alGet]
    by_cases h : j = k
    · simp [h]
    · simp [h, Ne.symm h]
  | cons y t ih =>
    obtain ⟨a, w⟩ := y
    simp only [alIns]
    split
    · next h =>
      simp only [alGet, ih]
      by_cases h2 : a = j
      · subst h2
        rw [if_pos rfl, if_neg (by omega), if_pos rfl]
      · rw [if_neg h2, if_neg h2]
    · split
      · next h =>
        subst h
        simp only [alGet]
        by_cases h2 : a = j
        · simp [h2]
        · simp [h2, Ne.symm h2]
      · simp only [alGet]
        by_cases h2 : k = j
        · simp [h2]
        · simp [h2, Ne.symm h2]

/-- A byte reads as it was written; every other byte is as before. -/
theorem Mem.byte_setByte (m : Mem) (a : Nat) (b : Byte) (j : Nat) :
    (m.setByte a b).byte j = if j = a then b else m.byte j := by
  simp only [Mem.byte, Mem.setByte, alSet]
  split
  · next h =>
    rw [alGet_alErase]
    split
    · exact h.symm
    · rfl
  · exact alGet_alIns' _ _ _ _ _

/-- A run of bytes reads as it was written; every other byte is as before. -/
theorem Mem.byte_setBytes (bs : List Byte) : ∀ (m : Mem) (a j : Nat),
    (m.setBytes a bs).byte j = if a ≤ j ∧ j < a + bs.length then bs.getD (j - a) 0 else m.byte j := by
  induction bs with
  | nil =>
    intro m a j
    rw [if_neg (by simp only [List.length_nil]; omega)]; rfl
  | cons b t ih =>
    intro m a j
    rw [Mem.setBytes, ih, Mem.byte_setByte]
    by_cases h : j = a
    · subst h
      rw [if_neg (by omega), if_pos rfl, if_pos (by simp), Nat.sub_self]; rfl
    · by_cases h2 : a + 1 ≤ j ∧ j < a + 1 + t.length
      · rw [if_pos h2, if_pos (by simp only [List.length_cons]; omega)]
        obtain ⟨n, rfl⟩ : ∃ n, j = a + 1 + n := ⟨j - (a + 1), by omega⟩
        rw [show a + 1 + n - (a + 1) = n from by omega, show a + 1 + n - a = n + 1 from by omega]
        simp
      · rw [if_neg h2, if_neg h, if_neg (by simp only [List.length_cons]; omega)]

end Sys2Proof.Machine
end

