-- ==== Sys2Proof/Laws/Retire.lean ====
section
/-!
SUPPORT. What the frame around a Rilel instruction can do, said once: a retirement count, and an instruction that
completes.
-/

namespace Sys2Proof.Machine

theorem State.reg_congr {s t : State} (h : s.regs = t.regs) (o : Nat) : s.reg o = t.reg o := by
  simp only [State.reg, h]

theorem State.siteOf_congr {s t : State} (h : s.regs = t.regs) (k : CpId) : s.siteOf k = t.siteOf k := by
  unfold State.siteOf
  congr 1; funext x
  exact decide_eq_decide.mpr (by simp only [State.fld, State.reg_congr h])

theorem State.pairOf_congr {s t : State} (h : s.regs = t.regs) (k : CpId) : s.pairOf k = t.pairOf k := by
  unfold State.pairOf
  congr 1; funext x
  exact decide_eq_decide.mpr (by simp only [State.fld, State.reg_congr h])

/-- A counter is no register of a pair. -/
theorem cSITE_ne_CMP (t : SiteId) (n : PairId) : oCMP_PAIR n ≠ cSITE t 1 ∧ oCMP_PSTAT n ≠ cSITE t 1 := by
  revert t n; decide

theorem State.pairOf_count (s : State) (k : CpId) (t : SiteId) (n : Nat) :
    (s.count (cSITE t 1) n).pairOf k = s.pairOf k := by
  have h : ∀ m : PairId, (s.count (cSITE t 1) n).reg (oCMP_PAIR m) = s.reg (oCMP_PAIR m) :=
    fun m => s.reg_count_of_ne n (cSITE_ne_CMP t m).1
  have h' : ∀ m : PairId, (s.count (cSITE t 1) n).reg (oCMP_PSTAT m) = s.reg (oCMP_PSTAT m) :=
    fun m => s.reg_count_of_ne n (cSITE_ne_CMP t m).2
  unfold State.pairOf
  congr 1; funext x
  exact decide_eq_decide.mpr (by simp only [State.fld, h, h'])

/-- A counter of a core site is none of the registers that say which CP a site serves. -/
theorem cSITE_ne_bind (t x : SiteId) : oCS_BIND x ≠ cSITE t 3 := by revert t x; decide

theorem cSITE3_ne_CMP (t : SiteId) (n : PairId) : oCMP_PAIR n ≠ cSITE t 3 ∧ oCMP_PSTAT n ≠ cSITE t 3 := by
  revert t n; decide

theorem CMP_ne (m n : PairId) : oCMP_PAIR m ≠ oCMP_PSTAT n := by revert m n; decide

/-- An access through the caches leaves alone which site a CP has, and which pair. -/
theorem Touched.siteOf {s t : State} {k : CpId} (h : Touched s t k) : t.siteOf k = s.siteOf k := by
  have e : ∀ x : SiteId, t.reg (oCS_BIND x) = s.reg (oCS_BIND x) := fun x => h.regs _ fun y _ => cSITE_ne_bind y x
  unfold State.siteOf
  congr 1; funext x
  exact decide_eq_decide.mpr (by simp only [State.fld, e])

theorem Touched.pstat {s t : State} {k : CpId} (h : Touched s t k) (n : PairId) : t.reg (oCMP_PSTAT n) = s.reg (oCMP_PSTAT n) :=
  h.regs _ fun y _ => (cSITE3_ne_CMP y n).2

theorem Touched.pairOf {s t : State} {k : CpId} (h : Touched s t k) : t.pairOf k = s.pairOf k := by
  have e : ∀ n : PairId, t.reg (oCMP_PAIR n) = s.reg (oCMP_PAIR n) := fun n => h.regs _ fun y _ => (cSITE3_ne_CMP y n).1
  unfold State.pairOf
  congr 1; funext x
  exact decide_eq_decide.mpr (by simp only [State.fld, e, h.pstat])

theorem Touched.cps {s t : State} {k : CpId} (h : Touched s t k) : t.cps = s.cps := by rw [h.rest]
theorem Touched.pairs {s t : State} {k : CpId} (h : Touched s t k) : t.pairs = s.pairs := by rw [h.rest]

/-- Below 256 instructions since the checkpoint, a retirement only counts. -/
theorem State.retireCount_spec (s : State) (k : CpId) (h : (s.cp k).retired < 255) :
    ((s.retireCount k).cp k = { s.cp k with
        retired := (s.cp k).retired + 1
        arith := (s.cp k).arith.map fun a => { a with age := a.age + 1 } }) ∧
    (∀ j, j ≠ k → (s.retireCount k).cp j = s.cp j) ∧
    (∀ n : PairId, (s.retireCount k).pairs[n] =
      if s.pairOf k = some n then { s.pairs[n] with retired := s.pairs[n].retired + 1 } else s.pairs[n]) ∧
    (s.retireCount k = { s with cps := (s.retireCount k).cps, regs := (s.retireCount k).regs, pairs := (s.retireCount k).pairs }) ∧
    (∀ o, (∀ x, s.siteOf k = some x → o ≠ cSITE x 1) → (∀ n, s.pairOf k = some n → o ≠ oCMP_PSTAT n) →
      (s.retireCount k).reg o = s.reg o) ∧
    (s.retireCount k).pairOf k = s.pairOf k ∧
    (∀ n : PairId, (s.retireCount k).fld (oCMP_PSTAT n) 48 36 ≤ s.fld (oCMP_PSTAT n) 48 36 + 1) := by
  let up : Cp → Cp := fun c => { c with retired := c.retired + 1, arith := c.arith.map fun a => { a with age := a.age + 1 } }
  have e : ∃ u : State, u.cps = s.cps ∧ u = { s with cps := u.cps, regs := u.regs, pairs := u.pairs } ∧
      (∀ n : PairId, u.pairs[n] =
        if s.pairOf k = some n then { s.pairs[n] with retired := s.pairs[n].retired + 1 } else s.pairs[n]) ∧
      (∀ o, (∀ x, s.siteOf k = some x → o ≠ cSITE x 1) → (∀ n, s.pairOf k = some n → o ≠ oCMP_PSTAT n) →
        u.reg o = s.reg o) ∧ (u.pairOf k = s.pairOf k ∧
        ∀ n : PairId, u.fld (oCMP_PSTAT n) 48 36 ≤ s.fld (oCMP_PSTAT n) 48 36 + 1) ∧ s.retireCount k = u.modCp k up := by
    have fin : ∀ u : State, u.cps = s.cps → ¬ 256 ≤ ((u.modCp k up).cp k).retired := by
      intro u hu
      rw [State.cp_modCp_self]
      have : u.cp k = s.cp k := by simp only [State.cp, hu]
      simp only [up, this]; omega
    -- the count of the core site
    obtain ⟨v, hv, hvr, hvo, hvp, hvs⟩ : ∃ v : State, s.countSite k 1 = v ∧ v = { s with regs := v.regs } ∧
        (∀ o, (∀ x, s.siteOf k = some x → o ≠ cSITE x 1) → v.reg o = s.reg o) ∧ v.pairOf k = s.pairOf k ∧
        ∀ n : PairId, v.reg (oCMP_PSTAT n) = s.reg (oCMP_PSTAT n) := by
      cases hs : s.siteOf k with
      | none => exact ⟨s, by simp only [State.countSite, hs], rfl, fun _ _ => rfl, rfl, fun _ => rfl⟩
      | some x =>
        exact ⟨s.count (cSITE x 1) 1, by simp only [State.countSite, hs], rfl, fun o ho => s.reg_count_of_ne 1 (ho x rfl),
          s.pairOf_count k x 1, fun n => s.reg_count_of_ne 1 (cSITE_ne_CMP x n).2⟩
    have hvc : v.cps = s.cps := by rw [hvr]
    have hvpp : v.pairs = s.pairs := by rw [hvr]
    cases hp : s.pairOf k with
    | none =>
      refine ⟨v, hvc, ?_, fun n => by simp [hvpp], fun o ho _ => hvo o ho, ⟨hp ▸ hvp, fun n => ?_⟩, ?_⟩
      · conv_lhs => rw [hvr]
        rw [hvc, hvpp]
      · simp only [State.fld, hvs]; omega
      · simp only [State.retireCount, hv, hvp, hp]
        rw [if_neg (fin v hvc)]
    | some n =>
      refine ⟨State.setFld { v with pairs := v.pairs.set n { v.pairs[n] with retired := v.pairs[n].retired + 1 } }
        (oCMP_PSTAT n) 48 36 (v.fld (oCMP_PSTAT n) 48 36 + 1), hvc, ?_, fun m => ?_, fun o ho hn => ?_, ⟨?_, fun m => ?_⟩, ?_⟩
      · conv_lhs => rw [hvr]
        rw [hvr]; rfl
      · show (v.pairs.set n { v.pairs[n] with retired := v.pairs[n].retired + 1 })[m] = _
        by_cases hm : n = m
        · subst hm; simp [hvpp]
        · have : (n : Nat) ≠ m := fun e => hm (Fin.ext e)
          simp [hvpp, this, hm]
      · rw [State.reg_setFld_of_ne _ _ _ _ (hn n rfl)]
        exact hvo o ho
      · rw [← hp, ← hvp]
        have a : ∀ m : PairId, (State.setFld { v with pairs := v.pairs.set n { v.pairs[n] with retired := v.pairs[n].retired + 1 } }
            (oCMP_PSTAT n) 48 36 (v.fld (oCMP_PSTAT n) 48 36 + 1)).reg (oCMP_PAIR m) = v.reg (oCMP_PAIR m) :=
          fun m => State.reg_setFld_of_ne _ _ _ _ (CMP_ne m n)
        have b : ∀ m : PairId, bits ((State.setFld { v with pairs := v.pairs.set n { v.pairs[n] with retired := v.pairs[n].retired + 1 } }
            (oCMP_PSTAT n) 48 36 (v.fld (oCMP_PSTAT n) 48 36 + 1)).reg (oCMP_PSTAT m)) 3 0 = bits (v.reg (oCMP_PSTAT m)) 3 0 := by
          intro m
          by_cases hm : oCMP_PSTAT m = oCMP_PSTAT n
          · rw [hm, State.setFld, State.reg_setReg_self]
            exact bits_insBits_of_disjoint _ _ (by decide) (by decide)
          · rw [State.reg_setFld_of_ne _ _ _ _ hm]; rfl
        unfold State.pairOf
        congr 1; funext x
        exact decide_eq_decide.mpr (by simp only [State.fld] at a b ⊢; simp only [a, b])
      · by_cases hm : oCMP_PSTAT m = oCMP_PSTAT n
        · rw [hm, State.fld, State.setFld, State.reg_setReg_self, bits_insBits_self _ _ (by decide)]
          refine (Nat.mod_le _ _).trans ?_
          simp only [State.fld, hvs]
          omega
        · rw [State.fld, State.reg_setFld_of_ne _ _ _ _ hm]
          show bits (v.reg _) 48 36 ≤ _
          simp only [State.fld, hvs]
          omega
      · simp only [State.retireCount, hv, hvp, hp]
        exact if_neg (fin _ hvc)
  obtain ⟨u, hc, hu, hpp, hr, hq, e⟩ := e
  have hcp : ∀ j, u.cp j = s.cp j := fun j => by simp only [State.cp, hc]
  rw [e]
  refine ⟨by rw [State.cp_modCp_self, hcp], fun j hj => (State.cp_modCp_of_ne _ _ hj).trans (hcp j), hpp, ?_,
    fun o h1 h2 => hr o h1 h2, hq.1, hq.2⟩
  conv_lhs => rw [hu]
  rfl

theorem Touched.cp {s t : State} {k : CpId} (h : Touched s t k) (j : CpId) : t.cp j = s.cp j := by
  simp only [State.cp, h.cps]

@[simp] theorem State.atBody_cp (s : State) (k : CpId) :
    (s.atBody k).cp k = { s.cp k with regs := (s.cr k).next, syncGo := false } := by
  simp [State.atBody, State.modRegs, State.cr, (s.fetched_touched k).cp k]

@[simp] theorem State.atBody_cr (s : State) (k : CpId) : (s.atBody k).cr k = (s.cr k).next := by
  simp [State.cr]

theorem State.atBody_pairOf (s : State) (k : CpId) : (s.atBody k).pairOf k = s.pairOf k :=
  (State.pairOf_congr rfl k).trans (s.fetched_touched k).pairOf
theorem State.atBody_siteOf (s : State) (k : CpId) : (s.atBody k).siteOf k = s.siteOf k :=
  (State.siteOf_congr rfl k).trans (s.fetched_touched k).siteOf
theorem State.atBody_pairs (s : State) (k : CpId) : (s.atBody k).pairs = s.pairs := (s.fetched_touched k).pairs

/-- Room for an event's frame after one more instruction. -/
theorem State.roomy_after {s s' : State} {k : CpId} (h : s.roomy k) (hp : s'.pairOf k = s.pairOf k)
    (hs : ∀ n, s.pairOf k = some n → s'.pairStores k n ≤ s.pairStores k n ∧ s'.pairs[n].log.length ≤ s.pairs[n].log.length ∧
      s'.fld (oCMP_PSTAT n) 48 36 ≤ s.fld (oCMP_PSTAT n) 48 36 + 1) : s'.pairRoom k 8 1 = true := by
  unfold State.pairRoom
  rw [hp]
  cases hn : s.pairOf k with
  | none => rfl
  | some n =>
    obtain ⟨a, b, c⟩ := h n hn
    obtain ⟨x, y, z⟩ := hs n hn
    simp only [Bool.and_eq_true, decide_eq_true_eq]
    refine ⟨⟨?_, ?_⟩, ?_⟩ <;> omega

/-- An instruction whose body ends, with nothing due after it, completes with the count of one retirement. -/
theorem State.retire_next {s s' : State} {k : CpId} {kind : Kind} {i : Instr} {pr : Pred}
    {body : Word → State → State × Option Stop} (h : Ready s k i pr) (hk : kind.ckptBoth = false ∧ kind.ckptAfter = false)
    (hs : kind.syncPoint = false) (hb : body (s.cr k).pc (s.atBody k) = (s', none))
    (ho : State.pairOver ((s.fetched k).modCp k fun c => { c with syncGo := false }) s' k = false)
    (hr : (s'.cp k).retired = (s.cp k).retired) (hem : (s'.cr k).em = (s.cr k).em)
    (hq : (s.cr k).em = true ∨ (s'.cp k).arith = none ∧ (s'.retireCount k).pairRoom k 8 1 = true) :
    s.retire k kind (insnWord i) i.legal pr body = .next (s'.retireCount k) := by
  have hc := (s'.retireCount_spec k (by rw [hr]; exact h.room)).1
  have haf : ∀ b, b = (s.cr k).em → (s'.retireCount k).afterRetire k b = s'.retireCount k := by
    rintro b rfl
    have hcr : ((s'.retireCount k).cr k) = s'.cr k := by simp only [State.cr, hc]
    unfold State.afterRetire
    simp only [hcr, hem]
    by_cases he : (s.cr k).em = true
    · simp [he]
    · have hq' := hq.resolve_left he
      simp [he, hc, hq'.1, hq'.2]
  unfold State.retire
  simp only [h.issuing, h.fetch, h.legal, h.holds, hs, hk.1, Bool.not_true, Bool.false_and, Bool.false_eq_true, if_false]
  have hb' : body (s.cr k).pc (((s.fetched k).modCp k fun c => { c with syncGo := false }).modRegs k
      fun r => { r with pc := r.pc + 4 }) = (s', none) := hb
  rw [hb']
  unfold State.afterBody
  simp only [ho, hk.1, hk.2, Bool.or_self, Bool.false_eq_true, if_false, haf _ rfl]

/-- An instruction on registers alone completes with the registers its function gives, and nothing else changes. -/
theorem regInsn_done {s : State} {k : CpId} {i : Instr} {pr : Pred} {f : CpRegs → Except Stop CpRegs} {r : CpRegs}
    (h : Ready s k i pr) (hf : f (s.cr k).next = .ok r) (hem : r.em = (s.cr k).em) :
    ∃ t, regInsn s k i pr f = .next t ∧ Retired s t k r := by
  have ft := s.fetched_touched k
  set s' := (s.atBody k).modRegs k fun _ => r with hs'
  have hb : regBody k f (s.cr k).pc (s.atBody k) = (s', none) := by
    simp only [regBody, State.atBody_cr, poisonLast, hf, hs']
  have hcp : (s'.cp k) = { s.cp k with regs := r, syncGo := false } := by
    rw [hs', State.modRegs, State.cp_modCp_self, State.atBody_cp]
  have hcr : (s'.cr k) = r := by rw [State.cr, hcp]
  have hpo : s'.pairOf k = s.pairOf k := (State.pairOf_congr rfl k).trans (s.atBody_pairOf k)
  have hpp : s'.pairs = s.pairs := s.atBody_pairs k
  have hst : ∀ n, s'.pairStores k n = s.pairStores k n := fun n => by
    simp only [State.pairStores, hcp, hpp]
  have hroom := h.issuing
  obtain ⟨h1, h2, h3, h4, h5, h6, h7⟩ := s'.retireCount_spec k (by rw [hcp]; exact h.room)
  have hfd : ∀ n : PairId, s'.fld (oCMP_PSTAT n) 48 36 = s.fld (oCMP_PSTAT n) 48 36 := fun n =>
    congrArg (fun w => bits w 48 36) (ft.pstat n)
  refine ⟨_, State.retire_next h ⟨rfl, rfl⟩ rfl hb ?_ (by rw [hcp]) (by rw [hcr, hem]) ?_, ?_⟩
  · -- the buffer and the log are as they were
    unfold State.pairOver
    have e : State.pairOf ((s.fetched k).modCp k fun c => { c with syncGo := false }) k = s.pairOf k :=
      (State.pairOf_congr rfl k).trans ft.pairOf
    rw [e]
    cases hn : s.pairOf k with
    | none => rfl
    | some n =>
      have hp : s.pairRoom k 1 1 = true := by
        simp only [State.issuing, Bool.and_eq_true] at hroom; exact hroom.2
      simp only [State.pairRoom, hn, Bool.and_eq_true, decide_eq_true_eq] at hp
      have g1 : ¬ 256 < s'.pairStores k n := by rw [hst]; omega
      have g2 : ¬ 4096 < s'.pairs[n].log.length := by rw [hpp]; omega
      simp only [Bool.or_eq_false_iff, Bool.and_eq_false_iff, decide_eq_false_iff_not]
      exact ⟨.inl g1, .inl g2⟩
  · rcases h.quiet with hq | hq
    · exact .inl hq
    · refine .inr ⟨by rw [hcp]; exact hq, ?_⟩
      refine State.roomy_after h.roomy (h6.trans hpo) fun n hn => ⟨?_, ?_, (hfd n) ▸ h7 n⟩
      · have e : ((s'.retireCount k).cp k).held = (s.cp k).held := by rw [h1, hcp]
        have e' : (s'.retireCount k).pairs[n].dsb = s.pairs[n].dsb := by rw [h3, hpo, if_pos hn, hpp]
        simp only [State.pairStores, e, e', Nat.le_refl]
      · rw [h3, hpo, if_pos hn, hpp]
  · have hrest : s' = { s with
        cps := s'.cps, regs := s'.regs, mem := s'.mem, sites := s'.sites, l3 := s'.l3, l3Stale := s'.l3Stale
        tagCache := s'.tagCache } := by
      have e := ft.rest
      rw [hs', State.atBody, e]
      rfl
    have hm : (s'.retireCount k).mem = (s.fetched k).mem := by rw [h4]; rfl
    refine ⟨by rw [h1, hcp], ?_, fun n => ?_, ?_, fun x => ?_, fun hs => ?_, ?_⟩
    · intro j hj
      rw [h2 j hj, hs', State.cp_modRegs_of_ne _ _ hj, State.atBody, State.cp_modRegs_of_ne _ _ hj, State.cp_modCp_of_ne _ _ hj,
        ft.cp]
    · rw [h3, hpo, hpp]
    · generalize s'.retireCount k = w at h4
      rw [h4, hrest]
    · have e : (s'.retireCount k).sites = (s.fetched k).sites := by rw [h4]; rfl
      have := ft.sites x
      simp only [State.site, e]
      exact this
    · rw [hm]
      exact (ft.still hs).2
    · intro o ho1 ho2
      rw [h5 o (fun x hx => (ho1 x ((s.atBody_siteOf k) ▸ (State.siteOf_congr rfl k : s'.siteOf k = (s.atBody k).siteOf k) ▸ hx)).1)
        (fun n hn => ho2 n (hpo ▸ hn))]
      exact ft.regs o fun x hx => (ho1 x hx).2

end Sys2Proof.Machine
end

