-- ==== Sys2Proof/Tests/Slice0.lean ====
section
/-! SUPPORT. Tests of the author: the ill-formed terms that WellFormed refuses, words and examples of the spec, and for
every statement of Certificates/Slice0/Obligations.lean a state and operands that meet its hypotheses. -/

namespace Sys2Proof.Tests

set_option Elab.async false

open Sys2Proof Sys2Proof.Machine

/-! Small states. -/

/-- A device that is READY with registers l (keys rising). -/
def dev (l : List (Nat × Word)) : State :=
  { State.reset with rstL := true, regs := l.foldl (fun m x => alIns m x.1 x.2) [(oCFG_START, 5)] }

/-- A word of data d and type tag t. -/
def wd (d t : Nat) : TWord := ⟨BitVec.ofNat 64 d, BitVec.ofNat 6 t, 0, false⟩

/-- The capability of everything below 2^40. -/
def allCap : Cap := ⟨0, 0xFFFFFFFFFF, 0xFFF, 0, false⟩

/-- The predicate p0 and its negation. -/
def nf : Pred := ⟨false, 0⟩

/-- Where region 0 of partition 0 lies. -/
def base0 : Nat := 100 * 2 ^ 21

/-- A region table of two regions at the top of storage, and words of region 0. -/
def memOf (ws : List (Nat × TWord)) : Mem :=
  ws.foldl (fun m x => m.putWord (base0 + x.1) x.2)
    (Mem.empty.putRaws 0x1FC0000000 [BitVec.ofNat 64 (2 ^ 63 + 100 * 2 ^ 21), BitVec.ofNat 64 (2 ^ 63 + 2 ^ 62 + 101 * 2 ^ 21)])

/-- Partition 0 owns CP_0 and CP_1, bound to CS_0 and CS_1, and has a region table of 7 entries. -/
def partRegs : List (Nat × Word) :=
  [(oPRT_CTL 0, 0x8000000000000003), (oPRT_STAT 0, 2), (oPRT_TAGCLASS 0, 1),
   (oPRT_RDT 0, BitVec.ofNat 64 (7 * 2 ^ 48 + 0x1FC0000000 / 64)), (oCS_BIND 0, 2), (oCS_BIND 1, 0x102)]

/-- CP_0 runs with registers r over storage m. -/
def cpSt (r : CpRegs) (m : Mem) : State :=
  { dev partRegs with mem := m, cps := State.reset.cps.set 0 { Cp.reset with regs := r, ckpt := r, inService := true } }

/-- Set g registers. -/
def gSet (g : Vector TWord 32) : List (Fin 32 × TWord) → Vector TWord 32
  | [] => g
  | (i, w) :: t => gSet (g.set i w) t

/-- Registers with every capability the one of everything, the program counter 0x100, and SYS authority. -/
def regs0 (gs : List (Fin 32 × TWord)) : CpRegs :=
  { CpRegs.init allCap with g := gSet (CpRegs.init allCap).g gs, c := Vector.replicate 16 allCap, pc := 0x100 }

/-- CP_0 with the g registers given, over storage that holds only the region table. -/
def cpG (gs : List (Fin 32 × TWord)) : State := cpSt (regs0 gs) (memOf [])

/-! The vocabulary of the statements in a form that evaluates. -/

/-- Ready, evaluated. -/
def readyB (s : State) (k : CpId) (i : Instr) (pr : Pred) : Bool :=
  s.issuing k && (s.fetchCheck k).isNone && i.legal && (s.cr k).holds pr && decide ((s.cp k).retired < 255)
    && (match s.pairOf k with
      | some n => decide (s.pairStores k n + 32 ≤ 256 ∧ s.pairs[n].log.length + 64 ≤ 4096 ∧ s.fld (oCMP_PSTAT n) 48 36 < 4095)
      | none => true)
    && ((s.cr k).em || (s.cp k).arith.isNone)

theorem ready_iff {s : State} {k : CpId} {i : Instr} {pr : Pred} : Ready s k i pr ↔ readyB s k i pr = true := by
  have room : s.roomy k ↔ (match s.pairOf k with
      | some n => decide (s.pairStores k n + 32 ≤ 256 ∧ s.pairs[n].log.length + 64 ≤ 4096 ∧ s.fld (oCMP_PSTAT n) 48 36 < 4095)
      | none => true) = true := by
    unfold State.roomy
    cases s.pairOf k <;> simp
  simp only [readyB, Bool.and_eq_true, Bool.or_eq_true, Option.isNone_iff_eq_none, decide_eq_true_eq]
  exact ⟨fun h => ⟨⟨⟨⟨⟨⟨h.issuing, h.fetch⟩, h.legal⟩, h.holds⟩, h.room⟩, room.mp h.roomy⟩, h.quiet⟩,
    fun ⟨⟨⟨⟨⟨⟨a, b⟩, c⟩, d⟩, e⟩, f⟩, g⟩ => ⟨a, b, c, d, e, room.mpr f, g⟩⟩

theorem calm_iff {s : State} {k : CpId} :
    Calm s k ↔ (s.pairOf k = none ∧ s.pairUnverified k = none) ∧ (s.cp k).held = [] ∧
      (∀ x, (s.site x).spareDue = false) ∧ s.l3Stale = [] ∧ ∀ t, (s.site t).l2Stale = [] ∧ (s.site t).l1dStale = [] :=
  ⟨fun h => ⟨h.solo, h.held, h.spare, h.fresh⟩, fun ⟨a, b, c, d⟩ => ⟨a, b, c, d⟩⟩

/-- An operand is read: the value of a computation that succeeds. -/
def okIs {α : Type} [DecidableEq α] (e : Except Stop α) (a : α) : Bool :=
  match e with
  | .ok b => decide (b = a)
  | .error _ => false

theorem eq_of_okIs {α : Type} [DecidableEq α] {e : Except Stop α} {a : α} (h : okIs e a = true) : e = .ok a := by
  cases e with
  | ok b => simpa [okIs] using h
  | error x => simp [okIs] at h

/-- The outcome is a next state. -/
def isNext (o : Host.Outcome State Fault Refusal) : Bool :=
  match o with
  | .next _ => true
  | _ => false

/-- The next state; the state before where there is none. -/
def after (i : Instr) (s : State) : State :=
  match exec i s with
  | .next t => t
  | _ => s

/-- The descriptor of region 0 in memOf. -/
def d0 : Word := 0x800000000C800000

/-- CP_0 reaches effective address ea, at pa of region 0. -/
def reaches (s : State) (perm : BitVec 12) (ea : Word) (n align : Nat) (st : Bool) (pa : Nat) : Bool :=
  okIs (s.access 0 allCap perm ea n align st) (base0 + pa, d0) &&
    okIs ((s.atBody 0).access 0 allCap perm ea n align st) (base0 + pa, d0)

/-- Fresh, evaluated, with an empty RLB at the core site of CP_0. -/
def coherentB (s : State) : Bool :=
  decide (s.l3Stale = [] ∧ ∀ t, (s.site t).l2Stale = [] ∧ (s.site t).l1dStale = []) &&
    decide (s.siteOf 0 = some 0 ∧ (s.site 0).rlbD = [])

theorem coherent_of {s : State} (h : coherentB s = true) : Coherent s 0 := by
  simp only [coherentB, Bool.and_eq_true, decide_eq_true_eq] at h
  obtain ⟨f, t, e⟩ := h
  refine ⟨f, fun n _ ea st => ?_⟩
  have d : s.rlbDesc 0 ea = none := by simp [State.rlbDesc, t, e]
  simp only [State.rlbXlate, d, State.xlate]

/-- What CP_0 reads at the body of its instruction, and before it. -/
def sees (s : State) (pa : Nat) (p : TWord → Bool) : Bool := p ((s.cpMem 0).word pa) && p (((s.atBody 0).cpMem 0).word pa)

theorem still_iff {s : State} :
    Still s ↔ (∀ (e : UnitId) (x : CtxId), s.ctx e x = none) ∧ (∀ e : UnitId, (s.eng e).sealedCmds = []) ∧
      (∀ (e : UnitId) (ep : EpId), s.paced e ep = false) ∧ (∀ e : UnitId, (s.eng e).resv = []) ∧
      (∀ e : UnitId, s.flag (oCE_CTL e) 8 = false) ∧ s.heldCfg = [] ∧ (∀ u : UnitId, (s.jn u).slots = []) ∧
      (∀ u : PortId, s.portLive u = false) ∧ (s.fld oTWN_STAT 3 0 ≠ 2 ∧ s.twin.mirrorNext = false) ∧
      (∀ k : Fin 4, s.flag (oTOW_INT k) 0 = false) ∧ (∀ i : NiId, (s.ni i).absent = []) ∧ s.flag oNOC_SNAP 1 = false ∧
      (∀ n : PartId, s.serving n = false) ∧
      ∀ n : PartId, s.tick.tested.getLsbD n = true ∨ s.tick.pound = false ∨ s.fld (oTCK_PART n) 23 0 = 0 ∨ s.flag (oTCK_PART n) 63 = true :=
  ⟨fun h => ⟨h.ctx, h.sealedCmds, h.paced, h.resv, h.slices, h.cfg, h.slots, h.ports, h.twin, h.lines, h.absent, h.snap, h.parts, h.tests⟩,
   fun ⟨a, b, c, d, e, f, g, h, i, j, k, l, m, n⟩ => ⟨a, b, c, d, e, f, g, h, i, j, k, l, m, n⟩⟩

/-- A program of partition 0 with command words ws at 0x200 and phase ph. -/
def mkCtx (ws : List Word) (ph : Phase) : Ctx :=
  ⟨⟨0, 1, allCap, 0x200, false, 0, false⟩, ph, ws, 0, 0, 0, [], [], [], 0, 0, 0, [], [], 0, 0, ws, 0, false⟩
/-- CE_A is in state st; endpoint 0 is partition 0's; the ring of partition 0 at 0x1000 holds 2 of 4 records; 1 KiB is reserved. -/
def engRegs (st : Nat) : List (Nat × Word) := partRegs ++
  [(oTWN_STAT, 0), (oCE_CTL 0, 1), (oCE_STAT 0, BitVec.ofNat 64 st), (oCE_EPOWN 0 0, 0xFFFFFFFFFFFFFFF0), (oPRT_CRING 0, 0x1002),
   (oPRT_CRIDX 0, 2), (oTCK_NUM, 100), (oCE_RESV 0 0, 0x100), (oJNL_POOL 0, 0x100000000), (oCMZ_PART 0, 0x100000101)]
/-- CE_A holds context x. -/
def sCtx (st : Nat) (ws : List Word) (c : Ctx) (x : CtxId := 0) : State :=
  let s := { dev (engRegs st) with mem := memOf (ws.zipIdx.map fun (w : Word × Nat) => (0x200 + 8 * w.2, .ofRaw w.1)) }
  s.modEng 0 fun g => { g with ctx := g.ctx.set x (some c) }

/-- The first word of a command: opcode and flags. -/
def w0 (op fl : Nat) : Word := BitVec.ofNat 64 (op + fl * 2 ^ 16)

/-- A twin unit 0 in role r; b are further bits of TWN_STAT; ENABLE is set as on says. -/
def sTwin (r b on : Nat) (f : TwinUnit → TwinUnit) : State :=
  let s := dev [(oTWN_STAT, BitVec.ofNat 64 (r + b)), (oTWN_CTL, BitVec.ofNat 64 on)]
  { s with twin := f s.twin }

/-! Witnesses: the queue, reset, words. -/

/-- ADD waits in front of SUB; after reset nothing waits. -/
theorem wit_StepRunsFront :
    (cpG []).pending = [] ∧ State.reset.pending = [] ∧
    isNext (step { cpG [] with pending := [.add 0 ⟨nf, 3, 1, 2⟩, .sub 0 ⟨nf, 3, 1, 2⟩] }) = true := by decide +kernel

theorem wit_ResetState : (regFields oTCK_CTL).any (fun fs => fs.length ≠ 0) = true := by decide +kernel

theorem wit_DecodeRoundTrip :
    isRilel 0 (.ldw 0 false (.m ⟨⟨false, 2⟩, 5, 7, 3, 2⟩)) ∧ (Instr.ldw 0 false (.m ⟨⟨false, 2⟩, 5, 7, 3, 2⟩)).legal = true ∧
    isRilel 3 (.customerInsn 3 63 ⟨⟨true, 7⟩, 31, 31, 31⟩) ∧ (Instr.customerInsn 3 63 ⟨⟨true, 7⟩, 31, 31, 31⟩).legal = true ∧
    (decodeRilel 0 0x248A7302).isSome = true := ⟨rfl, by decide, rfl, by decide, by decide⟩

theorem wit_StorageStaysCanonical :
    State.reset.mem.wf ∧ (memOf [(0x200, wd 1 1)]).wf ∧
    isNext (step { cpG [(1, wd 0x200 0), (2, wd 7 0)] with pending := [.stw 0 (.m ⟨nf, 2, 1, 0, 0⟩)] }) = true := by decide +kernel

/-! Witnesses: registers alone. -/

/-- Numbers at the ends of their range. -/
def sNum : State := cpG [(1, wd (2 ^ 64 - 1) 0), (2, wd (2 ^ 63) 1), (3, wd 7 1), (4, wd 0 1)]
def f312 : RForm := ⟨nf, 3, 1, 2⟩

theorem wit_IntegerResults :
    numOk ((sNum.cr 0).gr 1) ∧ numOk ((sNum.cr 0).gr 2) ∧
    (∀ i ∈ [Instr.add 0 f312, .sub 0 f312, .and 0 f312, .or 0 f312, .xor 0 f312, .andn 0 f312, .sll 0 f312, .srl 0 f312,
      .sra 0 f312, .rol 0 f312, .min 0 f312, .max 0 f312, .minu 0 f312, .maxu 0 f312, .mul 0 f312, .mulh 0 f312,
      .mulhu 0 f312, .mulhsu 0 f312], Ready sNum 0 i nf) ∧
    ∀ i ∈ [Instr.addi 0 ⟨nf, 3, 1, 0xFFF⟩, .andi 0 ⟨nf, 3, 1, 0xFFF⟩, .ori 0 ⟨nf, 3, 1, 0xFFF⟩, .xori 0 ⟨nf, 3, 1, 0xFFF⟩,
      .shi 0 ⟨nf, 3, 1, 0x3F⟩, .shi 0 ⟨nf, 3, 1, 0xFF⟩], Ready sNum 0 i nf := by
  simp only [ready_iff, numOk]; decide +kernel

def f712 : RForm := ⟨nf, 7, 1, 2⟩

theorem wit_PredicateWrites :
    numOk ((sNum.cr 0).gr 1) ∧ numOk ((sNum.cr 0).gr 2) ∧
    (∀ i ∈ [Instr.cmpEq 0 f712, .cmpNe 0 f712, .cmpLt 0 f712, .cmpLe 0 f712, .cmpLtu 0 f712, .cmpLeu 0 f712,
      .cmpEqw 0 f712, .tagchk 0 f712, .cmpi 0 ⟨nf, 0, 1, 0xFFF⟩, .cmpi 0 ⟨nf, 31, 1, 0⟩, .pand 0 f712, .por 0 f712,
      .pxor 0 f712, .pandn 0 f712, .pnot 0 ⟨nf, 7, 0, 0⟩, .pset 0 ⟨nf, 7, 0, 0⟩, .pclr 0 ⟨nf, 0, 0, 0⟩,
      .prdg 0 ⟨nf, 3, 0, 0⟩, .pwrg 0 ⟨nf, 0, 1, 0⟩], Ready sNum 0 i nf) := by
  simp only [ready_iff, numOk]; decide +kernel

/-- TAGSET takes 0x14 and 0x3F, the tags beside the reserved ones. -/
def sTag : State := cpG [(1, wd 5 8), (2, wd 0x3F 1), (3, wd 0x14 0)]

theorem wit_MoveResults :
    (let ok := fun (n : Nat) => ¬(0x15 ≤ n ∧ n ≤ 0x2F) ∧ n ≠ 0x12 ∧ n ≠ 0x13
     ok (((sTag.cr 0).gr 2).data.toNat % 64) ∧ ok (((sTag.cr 0).gr 3).data.toNat % 64) ∧ ok 0x30) ∧
    (∀ i ∈ [Instr.mov 0 ⟨nf, 4, 1, 0⟩, .tagget 0 ⟨nf, 4, 1, 0⟩, .tagset 0 ⟨nf, 4, 1, 2⟩, .tagset 0 ⟨nf, 4, 1, 3⟩,
      .tagseti 0 ⟨nf, 4, 1, 0x30⟩, .class 0 ⟨nf, 4, 1, 0⟩, .rsdepth 0 ⟨nf, 4, 0, 0⟩, .rdps 0 ⟨nf, 4, 0, 0⟩,
      .wrps 0 ⟨nf, 0, 3, 0⟩], Ready sTag 0 i nf) := by
  simp only [ready_iff]; decide +kernel

theorem wit_BitAndTimeResults :
    numOk ((sNum.cr 0).gr 4) ∧ sNum.pairOf 0 = none ∧
    (∀ i ∈ [Instr.clz 0 ⟨nf, 5, 4, 0⟩, .ctz 0 ⟨nf, 5, 4, 0⟩, .popc 0 ⟨nf, 5, 1, 0⟩, .brev 0 ⟨nf, 5, 2, 0⟩,
      .bswap 0 ⟨nf, 5, 2, 0⟩, .rdtick 0 ⟨nf, 5, 0, 0⟩, .rdtime 0 ⟨nf, 5, 0, 0⟩, .rdcyc 0 ⟨nf, 5, 0, 0⟩], Ready sNum 0 i nf) := by
  simp only [ready_iff, numOk]; decide +kernel

theorem wit_DivideResults :
    numOk ((sNum.cr 0).gr 1) ∧ numOk ((sNum.cr 0).gr 2) ∧ numOk ((sNum.cr 0).gr 3) ∧ numOk ((sNum.cr 0).gr 4) ∧
    ((sNum.cr 0).gr 2).data ≠ 0 ∧ ((sNum.cr 0).gr 4).data = 0 ∧
    ∀ b ∈ [2, 4], ∀ i ∈ [Instr.dprep 0 ⟨nf, 3, 1, b⟩, .dprepu 0 ⟨nf, 3, 1, b⟩, .dstep 0 ⟨nf, 3, 1, b⟩,
      .dquot 0 ⟨nf, 3, 1, b⟩, .drem 0 ⟨nf, 3, 0, b⟩], Ready sNum 0 i nf := by
  simp only [ready_iff, numOk]; decide +kernel

theorem wit_DivisionSequence : ∃ b : Word, b ≠ 0 := ⟨1, by decide⟩

/-- 1.0, the largest finite number and a signalling NaN in binary64; 1.0 and the largest finite number in binary32. -/
def sFlo : State := cpG [(1, wd 0x3FF0000000000000 2), (2, wd 0x7FEFFFFFFFFFFFFF 2), (3, wd 0x7FF0000000000001 2),
  (4, wd 0x3F800000 0), (5, wd 0x7F7FFFFF 0), (6, wd 0x43DFFFFFFFFFFFFF 0)]

def floInsns (b : Bool) (f p g : RForm) : List Instr :=
  [.fabs 0 b g, .fneg 0 b g, .fclass 0 b g, .fadd 0 b f, .fsub 0 b f, .fmul 0 b f, .fmin 0 b f, .fmax 0 b f, .fcmpeq 0 b p,
   .fcmplt 0 b p, .fcmple 0 b p, .fcmpun 0 b p, .fmadd 0 b f, .fmsub 0 b f, .fnmadd 0 b f]

theorem wit_FloatResults :
    (∀ i ∈ [1, 2, 3], fpOk false ((sFlo.cr 0).gr i)) ∧ (∀ i ∈ [4, 5], fpOk true ((sFlo.cr 0).gr i)) ∧
    (∀ i ∈ floInsns false ⟨nf, 1, 2, 3⟩ ⟨nf, 1, 2, 3⟩ ⟨nf, 1, 2, 0⟩ ++ floInsns true ⟨nf, 4, 5, 5⟩ ⟨nf, 7, 5, 5⟩ ⟨nf, 4, 5, 0⟩,
      Ready sFlo 0 i nf) ∧
    bits (sFlo.cr 0).axen 10 0 = 0 ∧ ∀ x : Fin 2048, Quiet (sFlo.cr 0) (BitVec.ofNat 11 x) := by
  simp only [ready_iff, fpOk, Quiet]; decide +kernel

/-- The least subnormal, exact; and the sum that rounds up to the next power of two, in every rounding mode. -/
theorem wit_RoundingIsCorrect :
    (∀ rm < 4, ((fmtOf false).round rm false 1 (-1074)).1 % (fmtOf false).signBit < (fmtOf false).infBits ∧
      ((fmtOf false).round rm false 1 (-1074)).2 &&& xOF = 0) ∧
    ∀ rm < 4, ((fmtOf true).round rm true (2 ^ 25 - 1) 0).1 % (fmtOf true).signBit < (fmtOf true).infBits ∧
      ((fmtOf true).round rm true (2 ^ 25 - 1) 0).2 &&& xOF = 0 := by
  decide +kernel

theorem stepResult_lt (y m : Nat) (num : Int) (sh : Nat) : stepResult y m num sh < 2 ^ 64 := by
  simp only [stepResult]
  by_cases h : num < 0 ∨ (2 : Int) ^ 64 ≤ num / (2 : Int) ^ sh + 1
  · rw [if_pos h]; exact BitVec.isLt _
  · rw [if_neg h]
    simp only [not_or, not_lt, not_le] at h
    have : 0 ≤ num / (2 : Int) ^ sh := Int.ediv_nonneg h.1 (by positivity)
    split <;> omega

/-- g3 holds what the sequence of R172 leaves for the divisor 1.0, g7 what it leaves for a root of 1.0. -/
def sSeq : State := cpG [(1, wd 0x3FF0000000000000 2), (2, wd 0x7FF0000000000000 2), (4, wd 5 0),
  (3, .ofRaw (BitVec.ofNat 64 ((fmtOf false).recipSeq 0x3FF0000000000000))),
  (7, .ofRaw (BitVec.ofNat 64 ((fmtOf false).rsqrtSeq 0x3FF0000000000000)))]

theorem wit_FloatSteps :
    (∀ i ∈ [1, 2], stepOk false ((sSeq.cr 0).gr i) ∧ fpOk false ((sSeq.cr 0).gr i)) ∧
    (fmtOf false).special 0x7FF0000000000000 = true ∧ (∀ i ∈ [3, 4, 7], ((sSeq.cr 0).gr i).tag = tagRAW ∧ ((sSeq.cr 0).gr i).poison = false) ∧
    (∀ i ∈ [Instr.fdinit 0 false ⟨nf, 4, 0, 2⟩, .fsqinit 0 false ⟨nf, 4, 2, 0⟩, .fdstep 0 false ⟨nf, 4, 0, 1⟩,
      .fsqstep 0 false ⟨nf, 4, 1, 0⟩, .fdfin 0 false ⟨nf, 3, 2, 1⟩, .fsqfin 0 false ⟨nf, 7, 1, 0⟩], Ready sSeq 0 i nf) ∧
    bits (sSeq.cr 0).axen 10 0 = 0 ∧ ∀ x : Fin 2048, Quiet (sSeq.cr 0) (BitVec.ofNat 11 x) := by
  simp only [ready_iff, stepOk, fpOk, Quiet]; decide +kernel

theorem wit_FloatSteps_end :
    ((sSeq.cr 0).gr 3).data.toNat = (fmtOf false).recipSeq 0x3FF0000000000000 ∧
    ((sSeq.cr 0).gr 7).data.toNat = (fmtOf false).rsqrtSeq 0x3FF0000000000000 := by
  constructor
  · exact Nat.mod_eq_of_lt (stepResult_lt ..)
  · exact Nat.mod_eq_of_lt (stepResult_lt ..)

theorem wit_ConvertResults :
    (∀ i ∈ [1, 2, 3, 6], fpOk false ((sFlo.cr 0).gr i)) ∧ fpOk true ((sFlo.cr 0).gr 4) ∧ numOk ((sFlo.cr 0).gr 6) ∧
    (∀ i ∈ [Instr.fcvtFixD 0 ⟨nf, 7, 2, 0⟩, .fcvtFixD 0 ⟨nf, 7, 6, 0⟩, .fcvtFixS 0 ⟨nf, 7, 4, 0⟩, .fcvtDFix 0 ⟨nf, 7, 6, 0⟩,
      .fcvtSFix 0 ⟨nf, 7, 6, 0⟩, .fcvtSD 0 ⟨nf, 7, 3, 0⟩, .fcvtDS 0 ⟨nf, 7, 4, 0⟩], Ready sFlo 0 i nf) ∧
    bits (sFlo.cr 0).axen 10 0 = 0 ∧ (∀ x : Fin 2048, Quiet (sFlo.cr 0) (BitVec.ofNat 11 x)) ∧
    ((fmtOf false).unpack 0x7FF0000000000001).isNan = true ∧ (fmtOf false).unpack 0x7FF0000000000000 = .inf false ∧
    (fmtOf false).unpack 0xFFF0000000000000 = .inf true ∧
    (fmtOf false).unpack 0x43E0000000000000 = .fin false (2 ^ 52) 11 := by
  simp only [ready_iff, fpOk, numOk, Quiet]; decide +kernel

/-- Short operands: minus 999,999,999,999,999 of 15 digits at 0x200, plus 1 at 0x300, a bad digit at 0x400. Long ones: minus
9,999,999,999,999,999,999 of 19 digits at 0x240, plus 1 of 17 digits at 0x340. The control words of R175, for two operands and
for one. -/
def sDec : State :=
  cpSt (regs0 [(1, wd 0x200 0), (2, wd 0x300 0), (5, wd 0x400 0), (6, wd 0x240 0), (7, wd 0x340 0),
      (3, wd (15 + 2 ^ 8 + 2 ^ 24 + 2 * 2 ^ 28) 0), (4, wd (19 + 17 * 2 ^ 8 + 2 ^ 24 + 2 * 2 ^ 28) 0),
      (8, wd (15 + 2 ^ 24) 0), (9, wd (19 + 2 ^ 24) 0)])
    (memOf [(0x200, wd 0x999999999999999D 0x11), (0x300, wd 0x1C 0x11), (0x400, wd 0xAC 0x11),
      (0x240, wd 0x999999999999999D 0x11), (0x248, wd 0x9999 0x11), (0x340, wd 0x1C 0x11), (0x348, wd 0 0x11)])

/-- A DEC word stands at an address. -/
def decAt (pa d : Nat) : Bool :=
  let w := (sDec.cpMem 0).word (base0 + pa)
  decide (w.tag = tagDEC ∧ w.data = BitVec.ofNat 64 d ∧ w.poison = false)

theorem wit_DecimalResults :
    Coherent sDec 0 ∧ (bits (sDec.cr 0).axen 10 9 = 0 ∧ (sDec.cr 0).res = false ∧ (sDec.cr 0).sys = true ∧ sDec.eventOpen 0 = false) ∧
    (∀ i ∈ [1, 2, 3, 4, 5, 6, 7, 8, 9], numOk ((sDec.cr 0).gr i)) ∧
    (∀ i ∈ [Instr.dadd 0 ⟨nf, 3, 1, 2⟩, .dsub 0 ⟨nf, 3, 1, 2⟩, .dadd 0 ⟨nf, 3, 5, 2⟩, .dcmp 0 ⟨nf, 3, 1, 2⟩, .dval 0 ⟨nf, 8, 1, 0⟩,
      .dval 0 ⟨nf, 8, 5, 0⟩, .dadd 0 ⟨nf, 4, 6, 7⟩, .dsub 0 ⟨nf, 4, 6, 7⟩, .dcmp 0 ⟨nf, 4, 6, 7⟩, .dval 0 ⟨nf, 9, 6, 0⟩],
      Ready sDec 0 i nf) :=
  ⟨coherent_of (by decide +kernel), by simp only [ready_iff, numOk]; decide +kernel⟩

theorem wit_DecimalResults_operands :
    (decAt 0x200 0x999999999999999D && decAt 0x300 0x1C && decAt 0x400 0xAC && decAt 0x240 0x999999999999999D && decAt 0x248 0x9999 &&
      decAt 0x340 0x1C && decAt 0x348 0) = true ∧
    (∀ ea ∈ [(0x200 : Nat), 0x300, 0x400], reaches sDec pLOAD (BitVec.ofNat 64 ea) 8 8 false ea ∧
      reaches sDec (pLOAD ||| pSTORE) (BitVec.ofNat 64 ea) 8 8 true ea) ∧
    (∀ ea ∈ [(0x240 : Nat), 0x340], reaches sDec pLOAD (BitVec.ofNat 64 ea) 16 16 false ea ∧
      reaches sDec (pLOAD ||| pSTORE) (BitVec.ofNat 64 ea) 16 16 true ea) ∧
    decParse 0x999999999999999D 15 = some (true, 10 ^ 15 - 1) ∧ decParse 0x1C 1 = some (false, 1) ∧ decParse 0xAC 15 = none ∧
    decParse (0x999999999999999D + 2 ^ 64 * 0x9999) 19 = some (true, 10 ^ 19 - 1) ∧ decParse 0x1C 17 = some (false, 1) := by
  decide +kernel

/-! Witnesses: storage, control transfer, lists, allocation, capabilities. -/

/-- Storage with a number, a pointer, a capability pair and a cell; registers with addresses of them. -/
def sMem : State :=
  cpSt { regs0 [(1, wd 0x600 0), (2, wd 0x200 1), (3, wd 0x207 0), (4, wd 0x204 0), (5, wd 0x300 8), (6, wd 0 4), (7, wd 1 0),
      (8, wd 0xA40 0), (9, wd 5 1), (10, wd 0x310 8), (11, wd 0x23F 0), (31, wd 0x104 0x14)] with rs := [0x104] }
    (memOf [(0x200, wd 0x8877665544332211 0), (0x208, wd 0x500 8), (0x240, allCap.pair.1), (0x248, allCap.pair.2),
      (0x300, wd 5 1), (0x308, wd 0 4)])
/-- LDW with displacement −128 words and with an index; a byte at the end of its word, a half at the end. -/
def mLdw : MemForm := .m ⟨nf, 12, 1, 1, 0x80⟩
def xLdw : MemForm := .x ⟨nf, 12, 2, 7, 1⟩
def mByte : MemForm := .m ⟨nf, 9, 3, 1, 0⟩
def mHalf : MemForm := .m ⟨nf, 9, 4, 1, 0⟩

theorem wit_LoadResults :
    sMem.pairOf 0 = none ∧ (memOk sMem 0 mLdw ∧ memOk sMem 0 xLdw ∧ memOk sMem 0 mByte ∧ memOk sMem 0 mHalf) ∧
    (∀ i ∈ [Instr.ldw 0 false mLdw, .ldw 0 false xLdw, .ldb 0 mByte, .ldbs 0 mByte, .ldh 0 mHalf, .ldhs 0 mHalf,
      .ldpc 0 ⟨nf, 12, 0, 0x20⟩], Ready sMem 0 i nf) ∧
    reaches sMem pLOAD (memAddr (sMem.cr 0) 8 mLdw) 8 8 false 0x200 ∧ reaches sMem pLOAD (memAddr (sMem.cr 0) 8 xLdw) 8 8 false 0x208 ∧
    reaches sMem pLOAD (memAddr (sMem.cr 0) 1 mByte) 1 1 false 0x207 ∧ reaches sMem pLOAD (memAddr (sMem.cr 0) 4 mHalf) 4 4 false 0x204 ∧
    reaches sMem pLOAD (BitVec.ofInt 64 (0x100 + 0x20 * 8)) 8 8 false 0x200 ∧
    sees sMem (base0 + 0x200) (fun w => decide (w.tag = tagRAW ∧ w.poison = false)) = true ∧
    sees sMem (base0 + 0x208) (fun w => !tagReserved w.tag) = true ∧ bit (sMem.cr 0).colctl 0 = false := by
  simp only [ready_iff, memOk, numOk, mLdw, xLdw, mByte, mHalf]; decide +kernel

theorem wit_StoreResults :
    (memOk sMem 0 mLdw ∧ memOk sMem 0 xLdw ∧ memOk sMem 0 mByte ∧ memOk sMem 0 mHalf ∧ numOk ((sMem.cr 0).gr 9)) ∧
    bit (sMem.cr 0).cardb 0 = false ∧
    (∀ i ∈ [Instr.stw 0 mLdw, .stw 0 xLdw, .stb 0 mByte, .sth 0 mHalf], Ready sMem 0 i nf) ∧
    reaches sMem pSTORE (memAddr (sMem.cr 0) 8 mLdw) 8 8 true 0x200 ∧ reaches sMem pSTORE (memAddr (sMem.cr 0) 8 xLdw) 8 8 true 0x208 ∧
    reaches sMem pSTORE (memAddr (sMem.cr 0) 1 mByte) 1 1 true 0x207 ∧ reaches sMem pSTORE (memAddr (sMem.cr 0) 4 mHalf) 4 4 true 0x204 ∧
    sees sMem (base0 + 0x200) (fun w => decide (w.tag = tagRAW ∧ w.poison = false)) = true ∧
    (∀ x ∈ [mLdw, xLdw], ((sMem.cr 0).gr (memD x)).poison = false ∧ memPr x = nf) := by
  simp only [ready_iff, memOk, numOk, mLdw, xLdw, mByte, mHalf]; decide +kernel

/-- Displacement −128 pairs from 0xA40. -/
def mCap : MForm := ⟨nf, 3, 8, 1, 0x80⟩

theorem wit_CapabilityPairs :
    numOk ((sMem.cr 0).gr 8) ∧ (sMem.cr 0).sys = true ∧ sMem.pairOf 0 = none ∧
    (∀ i ∈ [Instr.ldc 0 mCap, .stc 0 mCap], Ready sMem 0 i nf) ∧
    reaches sMem pLDCAP (BitVec.ofInt 64 (0xA40 - 128 * 16)) 16 16 false 0x240 ∧
    reaches sMem pSTCAP (BitVec.ofInt 64 (0xA40 - 128 * 16)) 16 16 true 0x240 ∧
    sees sMem (base0 + 0x240) (fun w => decide (w = ⟨allCap.base, tagCAPL, 0, false⟩)) = true ∧
    sees sMem (base0 + 0x248) (fun w => decide (w = ⟨BitVec.ofNat 64 (0xFFFFFFFFFF + 0xFFF * 2 ^ 40), tagCAPH, 0, false⟩)) = true ∧
    allCap = (sMem.cr 0).cr 3 := by
  simp only [ready_iff, numOk]; decide +kernel

theorem wit_StoredWords :
    ((sMem.cpMem 0).word (base0 + 0x200)).tag ≠ tagCAPL ∧ ((sMem.cpMem 0).word (base0 + 0x200)).tag ≠ tagCAPH ∧
    base0 % 8 = 0 ∧ base0 + 0x208 < dataEnd ∧ (base0 + 0x240) % 16 = 0 ∧ (sMem.mem.word (base0 + 0x240)).tag = tagCAPL ∧
    (sMem.mem.word (base0 + 0x248)).tag = tagCAPH := by
  decide +kernel

def xAtom : XForm := ⟨nf, 12, 2, 9, 1⟩
def xLine : XForm := ⟨nf, 0, 11, 0, 1⟩

theorem wit_AtomAndLineResults :
    Calm sMem 0 ∧ numOk ((sMem.cr 0).gr 2) ∧ numOk ((sMem.cr 0).gr 11) ∧ numOk ((sMem.cr 0).gr 9) ∧
    numOk (sMem.mem.word (base0 + 0x200)) ∧ (sMem.cr 0).sys = true ∧ ((sMem.cr 0).gr 12).poison = false ∧ bit (sMem.cr 0).cardb 0 = false ∧
    reaches sMem (pLOAD ||| pSTORE) 0x200 8 8 true 0x200 ∧
    (∀ i ∈ [Instr.swpw 0 xAtom, .casw 0 xAtom, .faddw 0 xAtom, .lzero 0 xLine, .ccln 0 xLine, .cfls 0 xLine, .pref 0 xLine,
      .prefw 0 xLine], Ready sMem 0 i nf) ∧
    reaches sMem pSTORE (BitVec.ofNat 64 (0x23F / 64 * 64)) 64 1 true 0x200 ∧
    reaches sMem pLOAD (BitVec.ofNat 64 (0x23F / 64 * 64)) 64 1 false 0x200 ∧ Fresh sMem := by
  simp only [ready_iff, calm_iff, numOk, Fresh]; decide +kernel

/-- c15 ends where the last target that it allows ends. -/
def sBr : State := cpSt { regs0 [(1, wd 0x104 0x14), (5, wd 0 8), (31, wd 0x104 0x14)] with
  rs := 0x104 :: List.replicate 30 0, c := (Vector.replicate 16 allCap).set 15 ⟨0x100, 8, 0xFFF, 0, false⟩ } (memOf [])

theorem wit_BranchResults :
    (let r := sBr.cr 0
     let ok := fun (t : Word) => t.toNat % 4 = 0 ∧ r.c[15].isSealed = false ∧ r.c[15].perms &&& pEXEC = pEXEC ∧
       r.c[15].base.toNat ≤ t.toNat ∧ t.toNat + 4 ≤ r.c[15].base.toNat + r.c[15].len.toNat
     ok 0x104 ∧ ok 0x100 ∧ r.rs.length < 32 ∧ r.rs.head? = some 0x104 ∧ (r.gr 31).data = 0x104) ∧
    ((sBr.cr 0).gr 1).tag = tagCODE ∧ ((sBr.cr 0).gr 31).tag = tagCODE ∧ ((sBr.cr 0).gr 5).poison = false ∧
    ∀ i ∈ [Instr.br 0 ⟨nf, 1⟩, .call 0 ⟨nf, 0⟩, .jr 0 ⟨nf, 0, 1, 0⟩, .callr 0 ⟨nf, 0, 1, 0⟩, .ret 0 ⟨nf, 0, 0, 0⟩,
      .tdisp 0 ⟨nf, 0, 5, 0x048⟩], Ready sBr 0 i nf := by
  simp only [ready_iff]; decide +kernel

/-- A misaligned target and targets outside c15. -/
def sBrBad : State := cpSt { regs0 [(1, wd 0x102 0x14), (2, wd 0x10000000 0x14), (5, wd 0 8)] with
  c := (Vector.replicate 16 allCap).set 15 ⟨0x100, 8, 0xFFF, 0, false⟩ } (memOf [])

theorem wit_BranchResults_faults :
    (let r := sBrBad.cr 0
     let ok := fun (t : Word) => t.toNat % 4 = 0 ∧ r.c[15].base.toNat ≤ t.toNat ∧ t.toNat + 4 ≤ r.c[15].base.toNat + r.c[15].len.toNat
     ¬ok 0x102 ∧ ¬ok 0x10000000 ∧ ¬ok (r.pc + 8) ∧ r.rs.length < 32) ∧
    ((sBrBad.cr 0).gr 1).tag = tagCODE ∧ ((sBrBad.cr 0).gr 2).tag = tagCODE ∧
    ∀ i ∈ [Instr.br 0 ⟨nf, 2⟩, .call 0 ⟨nf, 2⟩, .jr 0 ⟨nf, 0, 1, 0⟩, .jr 0 ⟨nf, 0, 2, 0⟩, .callr 0 ⟨nf, 0, 1, 0⟩,
      .tdisp 0 ⟨nf, 0, 5, 0x048⟩], Ready sBrBad 0 i nf := by
  simp only [ready_iff]; decide +kernel

/-- 2^62 and −2^63, whose sums and products do not fit; an escape vector whose entries hold 0x400. -/
def sGen : State := cpSt { regs0 [(1, wd (2 ^ 62) 1), (2, wd (2 ^ 62) 1), (3, wd 1 1)] with
  escv := 1, escVec := Vector.replicate 32 (some 0x400) } (memOf [])

/-- GSUB does not fit for the least number. -/
def sGsub : State := cpSt { regs0 [(1, wd (2 ^ 63) 1), (2, wd 1 1)] with
  escv := 1, escVec := Vector.replicate 32 (some 0x400) } (memOf [])

def genInsns (b : BitVec 5) : List Instr :=
  [.gneg 0 ⟨nf, 4, 1, 0⟩, .gadd 0 ⟨nf, 4, 1, b⟩, .gsub 0 ⟨nf, 4, 1, b⟩, .gmul 0 ⟨nf, 4, 1, b⟩, .gcmplt 0 ⟨nf, 7, 1, b⟩,
   .gcmpeq 0 ⟨nf, 7, 1, b⟩]

theorem wit_GenericResults :
    (∀ i ∈ [1, 2, 3], ((sGen.cr 0).gr i).tag = tagFIX ∧ ((sGen.cr 0).gr i).poison = false) ∧
    (∀ i ∈ genInsns 2 ++ genInsns 3, Ready sGen 0 i nf) ∧ Ready sGsub 0 (.gsub 0 ⟨nf, 3, 1, 2⟩) nf := by
  simp only [ready_iff]; decide +kernel

theorem wit_GenericResults_escape : ∀ s ∈ [sGen, sGsub],
    bit (s.cr 0).escv 0 = true ∧ (∀ i ∈ [0, 1, 2], (s.cr 0).escVec.toList.getD i none = some 0x400) ∧
      (targetCheck (s.cr 0).c[15] 0x400).isNone = true := by
  decide +kernel

/-- A value of 64 signed bits. -/
def fits (v : Int) : Bool := decide (-2 ^ 63 ≤ v ∧ v < 2 ^ 63)

theorem wit_GenericResults_fits :
    (let v := fun i => ((sGen.cr 0).gr i).data.toInt
     fits (-v 1) && fits (v 1 + v 3) && fits (v 1 - v 2) && fits (v 1 * v 3) && !fits (v 1 + v 2) && !fits (v 1 * v 2)) = true ∧
    fits (((sGsub.cr 0).gr 1).data.toInt - ((sGsub.cr 0).gr 2).data.toInt) = false := by
  decide +kernel

theorem wit_ListResults :
    Coherent sMem 0 ∧ sMem.eventOpen 0 = false ∧
    (let r := sMem.cr 0
     (r.gr 5).tag = tagCONS ∧ (r.gr 6).tag = tagNIL ∧ (∀ i ∈ [5, 6, 9, 0], (r.gr i).poison = false) ∧
       bit r.colctl 0 = false ∧ bit r.cardb 0 = false) ∧
    (∀ i ∈ [Instr.car 0 ⟨nf, 12, 5, 0⟩, .cdr 0 ⟨nf, 12, 5, 0⟩, .car 0 ⟨nf, 12, 6, 0⟩, .cdr 0 ⟨nf, 12, 6, 0⟩, .rplaca 0 ⟨nf, 0, 5, 9⟩,
      .rplacd 0 ⟨nf, 0, 5, 9⟩, .assq 0 ⟨nf, 12, 9, 6⟩, .memq 0 ⟨nf, 12, 9, 6⟩, .memq 0 ⟨nf, 12, 9, 5⟩], Ready sMem 0 i nf) ∧
    reaches sMem pLOAD 0x300 8 8 false 0x300 ∧ reaches sMem pLOAD 0x308 8 8 false 0x308 ∧ reaches sMem pSTORE 0x300 8 8 true 0x300 ∧
    reaches sMem pSTORE 0x308 8 8 true 0x308 ∧
    (let w := (sMem.cpMem 0).word (base0 + 0x300)
     tagReserved w.tag = false ∧ w.poison = false ∧ w.tag ≠ tagFWD ∧ w.tag = ((sMem.cr 0).gr 9).tag ∧
       w.data = ((sMem.cr 0).gr 9).data) ∧ tagReserved ((sMem.cpMem 0).word (base0 + 0x308)).tag = false :=
  ⟨coherent_of (by decide +kernel), by simp only [ready_iff]; decide +kernel⟩

/-- A pointer at 0x200 into region 1, which is condemned; its object has moved to 0x500. -/
def sBar (ctl : Word) : State :=
  cpSt { regs0 [(2, wd 0x200 0)] with colctl := ctl } (memOf [(0x200, wd 0x200040 8), (2 ^ 21 + 0x40, wd 0x500 0x10)])
/-- The descriptor of region 1. -/
def d1 : Word := 0xC00000000CA00000

def mBar : MemForm := .m ⟨nf, 12, 2, 1, 0⟩

theorem wit_ReadBarrier : ∀ s ∈ [sBar 1, sBar 3],
    Coherent s 0 ∧ Ready s 0 (.ldw 0 false mBar) nf ∧ numOk ((s.cr 0).gr 2) ∧ (s.cr 0).sys = true ∧
    reaches s pLOAD (memAddr (s.cr 0) 8 mBar) 8 8 false 0x200 ∧ reaches s pSTORE (memAddr (s.cr 0) 8 mBar) 8 8 true 0x200 ∧
    bit (s.cr 0).colctl 0 = true ∧ bit d0 62 = false ∧ bit d1 62 = true ∧
    ((s.cr 0).cr (memCap mBar)).grants pSTORE = true ∧ bit d0 55 = false ∧ bit (s.cr 0).cardb 0 = false := by
  simp only [List.mem_cons, List.not_mem_nil, or_false, forall_eq_or_imp, forall_eq]
  exact ⟨⟨coherent_of (by decide +kernel), by simp only [ready_iff, numOk]; decide +kernel⟩,
    ⟨coherent_of (by decide +kernel), by simp only [ready_iff, numOk]; decide +kernel⟩⟩

theorem wit_ReadBarrier_words : ∀ s ∈ [sBar 1, sBar 3],
    let u := s.atBody 0
    let w := (u.cpMem 0).word (base0 + 0x200)
    let v := (u.cpMem 0).word (base0 + 2 ^ 21 + 0x40)
    tagReserved w.tag = false ∧ w.poison = false ∧ s.ptrClass 0 w.tag = true ∧ okIs (u.targetRegion 0 w.data) (some d1) = true ∧
    okIs (u.access 0 (s.cr 0).c[12] pLOAD w.data 8 8 false) (base0 + 2 ^ 21 + 0x40, d1) = true ∧ v.tag = tagFWD ∧
    v.poison = false ∧ okIs (u.targetRegion 0 v.data) (some d0) = true ∧ { w with data := v.data } ≠ w := by
  decide +kernel

/-- c14 holds exactly two words. -/
def sAlloc : State := cpSt { regs0 [(1, wd 1 0), (2, wd 8 0), (3, wd (8 * 2 ^ 58) 0)] with
  c := (Vector.replicate 16 allCap).set 14 ⟨0x400, 16, 0xFFF, 0, false⟩ } (memOf [])

theorem wit_AllocationResults :
    sAlloc.pairOf 0 = none ∧
    (let r := sAlloc.cr 0
     let c := r.c[14]
     numOk (r.gr 1) ∧ numOk (r.gr 2) ∧ numOk (r.gr 3) ∧ (r.gr 1).data.toNat ≤ 1023 ∧ 0 < (r.gr 1).data.toNat ∧
     sAlloc.ptrClass 0 ((r.gr 2).data.setWidth 6) = true ∧ sAlloc.ptrClass 0 ((r.gr 3).data.extractLsb' 58 6) = true ∧
     c.isSealed = false ∧ c.perms &&& pSTORE = pSTORE ∧ 8 * 2 ≤ c.len.toNat ∧ bit r.cardb 0 = false ∧
     ∀ j < 2, okIs ((sAlloc.atBody 0).access 0 c pSTORE (c.base + BitVec.ofNat 64 (8 * j)) 8 8 true) (base0 + 0x400 + 8 * j, d0) = true) ∧
    ∀ i ∈ [Instr.cons 0 ⟨nf, 4, 1, 2⟩, .alloc 0 ⟨nf, 4, 1, 2⟩, .allocv 0 ⟨nf, 4, 1, 3⟩], Ready sAlloc 0 i nf := by
  simp only [ready_iff, numOk]; decide +kernel

theorem wit_CollectorResults :
    Calm sMem 0 ∧ sMem.eventOpen 0 = false ∧ tagReserved (sMem.mem.word (base0 + 0x300)).tag = false ∧ (sMem.mem.word (base0 + 0x300)).poison = false ∧
    (let r := sMem.cr 0
     sMem.ptrClass 0 (r.gr 5).tag = true ∧ (r.gr 5).poison = false ∧ numOk (r.gr 9) ∧ numOk (r.gr 13) ∧ (r.gr 13).data = 0 ∧
       (r.gr 12).poison = false) ∧
    reaches sMem pLOAD 0x300 8 8 false 0x300 ∧ reaches sMem pSTORE 0x300 8 8 true 0x300 ∧
    reaches sMem (pLOAD ||| pSTORE) 0x300 8 8 true 0x300 ∧
    ∀ i ∈ [Instr.colget 0 ⟨nf, 12, 5, 0⟩, .colset 0 ⟨nf, 0, 5, 9⟩, .mark 0 ⟨nf, 7, 5, 0⟩, .fwdset 0 ⟨nf, 12, 5, 9⟩,
      .scanw 0 ⟨nf, 12, 5, 13⟩], Ready sMem 0 i nf := by
  simp only [ready_iff, calm_iff, numOk]; decide +kernel

/-- c1 is sealed with type 255; c2 covers exactly the object type 255; g2 and g3 bound the last byte of c3. -/
def sCap : State := cpSt { regs0 [(2, wd 15 0), (3, wd 1 0), (4, wd 0xFFFF 0)] with
  c := (((Vector.replicate 16 allCap).set 1 ⟨0, 16, 0xFFF, 255, true⟩).set 2 ⟨255, 1, 0xFFF, 0, false⟩).set 3 ⟨0, 16, 0xFFF, 0, false⟩ } (memOf [])

theorem wit_CapabilityResults :
    (let r := sCap.cr 0
     r.sys = true ∧ numOk (r.gr 2) ∧ numOk (r.gr 3) ∧ numOk (r.gr 4) ∧ (r.cr 3).isSealed = false ∧ (r.cr 3).base.toNat ≤ (r.gr 2).data.toNat ∧
     (r.gr 2).data.toNat + (r.gr 3).data.toNat ≤ (r.cr 3).base.toNat + (r.cr 3).len.toNat ∧
     (r.cr 2).isSealed = false ∧ (r.cr 2).perms &&& pSEAL = pSEAL ∧ (r.cr 2).base.toNat ≤ 255 ∧ (r.cr 2).len ≠ 0 ∧
     (r.cr 1).isSealed = true ∧ (r.cr 2).perms &&& pUNSEAL = pUNSEAL ∧ (r.cr 2).base.toNat ≤ (r.cr 1).otype.toNat ∧
     (r.cr 1).otype.toNat < (r.cr 2).base.toNat + (r.cr 2).len.toNat ∧ (r.gr 4).data.getLsbD 13 = true) ∧
    ∀ i ∈ [Instr.cmov 0 ⟨nf, 13, 13, 0⟩, .cbnd 0 ⟨nf, 4, 3, 2⟩, .cperm 0 ⟨nf, 4, 3, 2⟩, .cseal 0 ⟨nf, 4, 3, 2⟩, .cunseal 0 ⟨nf, 4, 1, 2⟩,
      .cgetb 0 ⟨nf, 4, 1, 0⟩, .cgetl 0 ⟨nf, 4, 1, 0⟩, .cgetp 0 ⟨nf, 4, 1, 0⟩, .ctest 0 ⟨nf, 7, 1, 2⟩, .cclr 0 ⟨nf, 0, 4, 0⟩],
      Ready sCap 0 i nf := by
  simp only [ready_iff, numOk]; decide +kernel

theorem wit_CapabilitiesOnlyShrink :
    ∀ i ∈ [Instr.cmov 0 ⟨nf, 4, 1, 0⟩, .cbnd 0 ⟨nf, 4, 3, 2⟩, .cperm 0 ⟨nf, 4, 3, 2⟩, .cseal 0 ⟨nf, 4, 3, 2⟩, .cunseal 0 ⟨nf, 4, 1, 2⟩],
      isNext (exec i sCap) = true ∧ i.legal = true := by
  decide +kernel

/-- BCOPY and BFILL of one word, from 0x200 to 0x300, and of none. -/
def sBlk (n : Nat) : State := cpSt (regs0 [(1, wd 0x300 0), (2, wd 0x200 0), (3, wd n 1), (4, wd 0 0)]) (memOf [(0x200, wd 7 1)])

theorem wit_BlockResults : ∀ n ∈ [0, 1], let s := sBlk n
    Coherent s 0 ∧ s.eventOpen 0 = false ∧ (s.cr 0).sys = true ∧ (∀ i ∈ [1, 2, 3, 4], numOk ((s.cr 0).gr i)) ∧
    ((s.cr 0).gr 3).data = BitVec.ofNat 64 n ∧ ((s.cr 0).gr 4).data = 0 ∧ bit (s.cr 0).cardb 0 = false ∧ bit (s.cr 0).colctl 0 = false ∧
    reaches s pSTORE 0x300 8 8 true 0x300 ∧ reaches s pLOAD 0x200 8 8 false 0x200 ∧
    tagReserved ((s.cpMem 0).word (base0 + 0x200)).tag = false ∧ ((s.cpMem 0).word (base0 + 0x200)).poison = false ∧
    ∀ i ∈ [Instr.saveRs 0 ⟨nf, 1, 1, 4⟩, .loadRs 0 ⟨nf, 1, 1, 4⟩, .bfill 0 ⟨nf, 1, 0, 0⟩, .bcopy 0 ⟨nf, 1, 2, 0⟩], Ready s 0 i nf := by
  simp only [List.mem_cons, List.not_mem_nil, or_false, forall_eq_or_imp, forall_eq]
  exact ⟨⟨coherent_of (by decide +kernel), by simp only [ready_iff, numOk]; decide +kernel⟩,
    ⟨coherent_of (by decide +kernel), by simp only [ready_iff, numOk]; decide +kernel⟩⟩

/-- CE_T (engine 8) runs with q programs waiting; its endpoint 0 belongs to partition p. -/
def sStart (st p q : Nat) : State :=
  let s := cpSt (regs0 [(1, wd 8 0), (2, wd 0x200 0)]) (memOf [])
  let s := ((s.setReg oTWN_STAT 0).setReg (oCE_STAT 8) (BitVec.ofNat 64 st)).setReg (oCE_EPOWN 8 0) (BitVec.ofNat 64 (0xFFFFFFFFFFFFFFF0 + p))
  s.modEng 8 fun g => { g with queue := List.replicate q ⟨0, 0, allCap, 0x200, false, 0, false⟩ }

theorem wit_StartResults :
    (∀ s ∈ [sStart 2 0 7, sStart 2 0 8, sStart 1 0 0, sStart 2 15 0], Calm s 0 ∧ Ready s 0 (.start 0 ⟨nf, 1, 1, 2⟩) nf ∧
      (s.cr 0).sys = true ∧ numOk ((s.cr 0).gr 1) ∧ numOk ((s.cr 0).gr 2) ∧ ((s.cr 0).gr 1).data.toNat = 8 ∧
      ((s.cr 0).gr 2).data.toNat % 32 = 0 ∧ ((s.cr 0).cr 1).check 0x200 32 (pPORT ||| pLOAD) = none ∧ s.partOf 0 = some 0) ∧
    (sStart 2 0 7).startRefusal 8 0 = none ∧ (sStart 2 0 8).startRefusal 8 0 = some 1 ∧
    (sStart 1 0 0).startRefusal 8 0 = some 2 ∧ (sStart 2 15 0).startRefusal 8 0 = some 3 := by
  simp only [ready_iff, calm_iff, numOk]; decide +kernel


/-! Witnesses: gates, traps, the system class. -/

def isOk {ε α : Type} (e : Except ε α) (p : α → Bool) : Bool :=
  match e with
  | .ok a => p a
  | .error _ => false

/-- c1 is a gate of type 5 to 0x400, c2 sealed data of its type, c3 null; the trap stack is full but for one gate frame. -/
def sGate : State := cpSt { regs0 [(4, wd 0 0)] with
    c := (((Vector.replicate 16 allCap).set 1 ⟨0x400, 4, 0xFFF, 5, true⟩).set 2 ⟨0, 16, 0xFFF, 5, true⟩).set 3 Cap.null
    tsp := 320, rs := [0x104, 0x108] } (memOf [])

theorem wit_GateCalls :
    Calm sGate 0 ∧ (sGate.cr 0).sys = true ∧
    (let g := (sGate.cr 0).cr 1
     g.isSealed = true ∧ g.perms &&& (pEXEC ||| pGATE) = pEXEC ||| pGATE ∧ g.otype ≠ 0 ∧ g.otype ≠ 0xFE ∧ g.otype ≠ 0xFF ∧
       g.base.toNat % 4 = 0 ∧ 4 ≤ g.len.toNat ∧ ((sGate.cr 0).cr 2).isSealed = true ∧ ((sGate.cr 0).cr 2).otype = g.otype) ∧
    (sGate.cr 0).cr 3 = Cap.null ∧ bit (sGate.cr 0).feStat 1 = false ∧
    (∀ i ∈ [Instr.gate 0 ⟨nf, 0, 1, 2⟩, .gate 0 ⟨nf, 0, 1, 3⟩, .gateF 0 ⟨nf, 0, 1, 2⟩, .gateF 0 ⟨nf, 0, 1, 3⟩], Ready sGate 0 i nf) ∧
    isOk ((sGate.atBody 0).pushCheck 0 40) (fun l => l.length == 40) = true := by
  simp only [ready_iff, calm_iff]; decide +kernel

/-- In the callee of a gate, and of a fast gate. -/
def sIn : State := after (.gate 0 ⟨nf, 0, 1, 2⟩) sGate
def sInF : State := after (.gateF 0 ⟨nf, 0, 1, 2⟩) sGate

theorem wit_GateReturnsRestore :
    Calm sIn 0 ∧ Calm sInF 0 ∧ numOk ((sIn.cr 0).gr 4) ∧ numOk ((sInF.cr 0).gr 4) ∧
    Ready sIn 0 (.gret 0 ⟨nf, 0, 4, 0⟩) nf ∧ Ready sInF 0 (.retfGate 0 ⟨nf, 0, 1, 4⟩) nf ∧
    isOk ((sIn.atBody 0).popFrame 0 40) (fun ws =>
      let info := (ws.getD 2 .raw0).data
      let es := (ws.drop 8).take (bits info 13 8)
      bit info 63 && !bit info 62 && decide (bits info 13 8 = 2) && es.all (fun e => e.tag == tagCODE) &&
        isOk (gateRestore (sIn.cr 0).next ws 0 (es.reverse.map TWord.data) (fun t => t == tagCODE))
          (fun q => q.em && decide (q.rs = [0x104, 0x108]))) = true ∧
    (let ws := (sInF.cr 0).fe.toList.drop 8
     let info := (ws.getD 2 .raw0).data
     bit (sInF.cr 0).feStat 1 = true ∧ bit info 63 = true ∧ bit info 62 = true ∧
       isOk (gateRestore (sInF.cr 0).next ws 0 (sInF.cr 0).shG (fun t => t == tagCODE || t == tagRAW))
         (fun q => q.em && decide (q.rs = [0x104, 0x108])) = true) ∧
    ((sGate.cr 0).ps &&& psMask = (sGate.cr 0).ps ∧ (targetCheck (sGate.cr 0).c[15] 0x104).isNone = true) := by
  simp only [ready_iff, calm_iff, numOk]; decide +kernel

/-- A CP whose two handlers stand at 0x800 and 0x900; events are masked or not; the fast bank is free or not. -/
def sTrap (ps fe : Word) : State := cpSt { regs0 [] with
  tsp := 64, ps := ps, tvec := 0x801, feVec := 0x901, feStat := fe, trapCap := allCap, feCap := allCap, rs := [0x104] } (memOf [])

theorem wit_TrapEntryIsTaken :
    (∀ s ∈ [sTrap 0 0, sTrap 0x4000 0, sTrap 0x4000 1], Calm s 0 ∧ Ready s 0 (.trap 0 ⟨nf, 0, 31, 31⟩) nf) ∧
    ((sTrap 0 0).cr 0).em = false ∧ bit ((sTrap 0 0).cr 0).tvec 0 = true ∧ bit ((sTrap 0 0).cr 0).feStat 0 = false ∧
    isOk (((sTrap 0 0).atBody 0).pushCheck 0 8) (fun l => l.length == 8) = true ∧
    ((sTrap 0x4000 0).cr 0).em = true ∧ bit ((sTrap 0x4000 0).cr 0).feVec 0 = true ∧
    bit ((sTrap 0x4000 1).cr 0).feStat 0 = true := by
  simp only [ready_iff, calm_iff]; decide +kernel

/-- In the trap handler, and in the fast handler. -/
def sHnd : State := after (.trap 0 ⟨nf, 0, 31, 31⟩) (sTrap 0 0)
def sFast : State := after (.trap 0 ⟨nf, 0, 31, 31⟩) (sTrap 0x4000 0)

theorem wit_TrapReturns :
    Calm sHnd 0 ∧ Calm sFast 0 ∧ Ready sHnd 0 (.tret 0 ⟨nf, 0, 0, 0⟩) nf ∧ Ready sFast 0 (.retfEvent 0 ⟨nf, 0, 0, 0⟩) nf ∧
    (sHnd.cr 0).sys = true ∧ (sFast.cr 0).sys = true ∧ bit (sFast.cr 0).feStat 0 = true ∧
    (∀ p ∈ [(isOk ((sHnd.atBody 0).popFrame 0 8), sHnd), ((fun f => f ((sFast.cr 0).fe.toList.take 8)), sFast)], p.1 (fun ws =>
      let w := fun (i : Nat) => ws.getD i .raw0
      (match Cap.ofPair (w 6) (w 7) with | some c => (targetCheck c (w 1).data).isNone | none => false) && (w 1).tag == tagCODE &&
        !bit (w 2).data 63) = true ∧ bits (p.2.cr 0).evpend 6 0 = 0 ∧ (p.2.cp 0).arith = none) := by
  simp only [ready_iff, calm_iff]; decide +kernel

/-- A store is held; g1 is the last region number of the table. -/
def sSys : State :=
  let s := cpSt (regs0 [(1, wd 6 0), (2, wd 0 0), (3, wd 0x7F80000000000000 0)]) (memOf [])
  s.modCp 0 fun c => { c with held := [.store ⟨base0 + 0x200, 7, 0xFF, some 1, none, false⟩ 0] }
def sRdt : State := cpG [(1, wd 6 0), (3, wd 0x7F80000000000000 0)]
/-- A CP without authority, for which an event waits. -/
def sUser : State := cpSt { regs0 [(1, wd 0 0)] with
  c := (Vector.replicate 16 allCap).set 15 ⟨0, 0x1000, 0xFFF &&& ~~~pSYS, 0, false⟩, evpend := 8 } (memOf [])

theorem wit_FencesAndDescriptors :
    Solo sSys 0 ∧ sSys.eventOpen 0 = false ∧ (sSys.cp 0).held.all (fun h => match h with | .store _ _ => true | _ => false) = true ∧
    (∀ x, (sSys.site x).spareDue = false) ∧ Fresh sSys ∧ (sSys.cr 0).sys = true ∧ numOk ((sSys.cr 0).gr 1) ∧
    numOk ((sSys.cr 0).gr 2) ∧ numOk ((sSys.cr 0).gr 3) ∧ ((sSys.cr 0).gr 2).data = 0 ∧
    (∀ i ∈ [Instr.fence 0 ⟨nf, 0, 0, 0⟩, .fenceA 0 ⟨nf, 0, 0, 0⟩, .fenceI 0 ⟨nf, 0, 0, 0⟩, .cinvR 0 ⟨nf, 13, 1, 2⟩, .cclnR 0 ⟨nf, 13, 1, 2⟩,
      .cflsR 0 ⟨nf, 13, 1, 2⟩], Ready sSys 0 i nf) ∧
    (Calm sRdt 0 ∧ sRdt.partOf 0 = some 0 ∧ ((sRdt.cr 0).gr 1).data.toNat < sRdt.rdtLen 0 ∧
      sRdt.rdtAddr 0 6 + 8 ≤ storageEnd ∧ sRdt.mem.poison.contains (sRdt.rdtAddr 0 6) = false ∧
      Ready sRdt 0 (.rdset 0 ⟨nf, 0, 1, 3⟩) nf) := by
  simp only [ready_iff, calm_iff, numOk, Solo, Fresh]; decide +kernel

/-- k0 to k5, k16 to k19, k48 and k63. -/
def kForms (d : BitVec 5) : List RForm :=
  [⟨nf, d, 0, 0⟩, ⟨nf, d, 0, 16⟩, ⟨nf, d, 1, 0⟩, ⟨nf, d, 1, 16⟩, ⟨nf, d, 2, 0⟩, ⟨nf, d, 2, 16⟩, ⟨nf, d, 8, 0⟩, ⟨nf, d, 8, 16⟩, ⟨nf, d, 9, 0⟩,
   ⟨nf, d, 9, 16⟩, ⟨nf, d, 24, 0⟩, ⟨nf, d, 31, 16⟩]

theorem wit_ControlAndEvents :
    (kForms 2).map kNum = [0, 1, 2, 3, 4, 5, 16, 17, 18, 19, 48, 63] ∧ Calm sGate 0 ∧ (sGate.cr 0).sys = true ∧
    numOk ((sGate.cr 0).gr 4) ∧ bit ((sGate.cr 0).gr 4).data 0 = false ∧
    (∀ f ∈ kForms 4, Ready sGate 0 (.mfk 0 f) nf ∧ Ready sGate 0 (.mtk 0 f) nf) ∧
    (∀ i ∈ [Instr.emset 0 ⟨nf, 0, 0, 0⟩, .emclr 0 ⟨nf, 0, 0, 0⟩, .wrpsk 0 ⟨nf, 0, 4, 0⟩, .wait 0 ⟨nf, 0, 0, 0⟩], Ready sGate 0 i nf) ∧
    bits (sGate.cr 0).evpend 6 0 = 0 ∧ (sGate.cp 0).arith = none ∧ (sUser.cr 0).sys = false ∧
    (∀ i ∈ [Instr.emset 0 ⟨nf, 0, 0, 0⟩, .emclr 0 ⟨nf, 0, 0, 0⟩, .wrpsk 0 ⟨nf, 0, 1, 0⟩, .wait 0 ⟨nf, 0, 0, 0⟩], Ready sUser 0 i nf) ∧
    bits (sUser.cr 0).evpend 6 3 ≠ 0 := by
  simp only [ready_iff, calm_iff, numOk]; decide +kernel

/-- An escape table of 32 CODE words at 0x800, which c15 may load. -/
def sEsc : State := cpSt (regs0 [(4, wd 0x801 0)]) (memOf ((List.range 32).map fun i => (0x800 + 8 * i, wd (0x100 + 4 * i) 0x14)))

theorem wit_ControlAndEvents_escapes :
    Calm sEsc 0 ∧ (sEsc.cr 0).sys = true ∧ numOk ((sEsc.cr 0).gr 4) ∧ bit ((sEsc.cr 0).gr 4).data 0 = true ∧
    kNum ⟨nf, 4, 8, 0⟩ = 16 ∧ Ready sEsc 0 (.mtk 0 ⟨nf, 4, 8, 0⟩) nf ∧
    ∀ i : Fin 32, okIs ((sEsc.atBody 0).access 0 (sEsc.cr 0).c[15] pLOAD ((((sEsc.cr 0).gr 4).data &&& ~~~0xFF#64) +
        BitVec.ofNat 64 (8 * i.val)) 8 8 false) (base0 + 0x800 + 8 * i.val, d0) = true ∧
      (let w := sEsc.mem.word (base0 + 0x800 + 8 * i.val)
       tagReserved w.tag = false ∧ w.poison = false) := by
  simp only [ready_iff, calm_iff, numOk]; decide +kernel

/-- An entry vector with V set is written where c15 allows its target. -/
def sVec : State := cpG [(4, wd 0x801 0)]

theorem wit_ControlAndEvents_vector :
    Calm sVec 0 ∧ numOk ((sVec.cr 0).gr 4) ∧ bit ((sVec.cr 0).gr 4).data 0 = true ∧
    (targetCheck (sVec.cr 0).c[15] (((sVec.cr 0).gr 4).data &&& ~~~3#64)).isNone = true ∧
    ∀ f ∈ [(⟨nf, 4, 0, 16⟩ : RForm), ⟨nf, 4, 1, 0⟩], Ready sVec 0 (.mtk 0 f) nf := by
  simp only [ready_iff, calm_iff, numOk]; decide +kernel


/-! Witnesses: the lock tick unit, microcode, the register space, error records. -/

/-- The tick unit in state st with ENABLE as on; TMIN 100 ns, TMAX 200 ns, COAST_MAX c; the last edge at 1000, PERIOD 1000. -/
def sTick (st on c : Nat) (f : TickUnit → TickUnit) : State :=
  let s := dev [(oTCK_CTL, BitVec.ofNat 64 (8 * on)), (oTCK_STAT, BitVec.ofNat 64 st),
    (oTCK_FILT, BitVec.ofNat 64 (1 + 2 * 2 ^ 20 + c * 2 ^ 40)), (oTCK_EDGE, 1000), (oTCK_PERIOD, 1000), (oTCK_NUM, 0xFFFFFFFFFFFF)]
  { s with tick := f s.tick }

theorem wit_TickUnitWrites :
    (∀ i ∈ [Initiator.pf0, .lkp], Manager (sTick 0 0 0 id) i ∧ Manager (sTick 2 1 0 id) i ∧ Manager (sTick 1 1 0 id) i) ∧
    (sTick 0 0 0 id).flag oTCK_CTL 3 = false ∧ (sTick 2 1 0 id).flag oTCK_CTL 3 = true ∧ (sTick 2 1 0 id).tkState = 2 ∧
    (sTick 1 1 0 id).flag oTCK_CTL 3 = true ∧ (sTick 1 1 0 id).tkState ≠ 2 ∧ (sTick 2 1 0 id).tick.src = 0 ∧
    (∀ src ∈ [(1 : BitVec 3), 5], src.toNat ≤ 5 ∧ src.toNat ≠ (sTick 2 1 0 id).tick.src) ∧
    (∀ v ∈ [9999, 10000, 100000000, 100000001, 2 ^ 27 - 1], (BitVec.ofNat 64 v).toNat < 2 ^ 27) ∧
    (sTick 2 1 0 id).tick.period = 0 ∧ (sTick 2 1 0 fun t => { t with period := 10000 }).tick.period ≠ 0 ∧
    Manager (sTick 2 1 0 fun t => { t with period := 10000 }) .pf0 ∧
    bits (0xFFFF0007 : Word) 15 3 = 0 ∧ (0xFFFF0007 : Word).toNat < 2 ^ 32 ∧ (0xFFFFFFFFFFFF : Word).toNat < 2 ^ 48 ∧
    (bits (0x0000FFFFF0000001 : Word) 19 0 ≠ 0 ∧ bits (0x0000FFFFF0000001 : Word) 19 0 < bits (0x0000FFFFF0000001 : Word) 39 20) ∧
    bits (0x100001 : Word) 39 20 ≤ bits (0x100001 : Word) 19 0 ∧ (dev partRegs).partOf 1 = some 0 ∧ Manager (dev partRegs) .lkp := by
  simp only [Manager]; decide +kernel

/-- ACQUIRING before any tick and after one; LOCKED; COASTING one tick before COAST_MAX and at it; LOST. -/
theorem wit_TickEvents :
    (∀ s ∈ [sTick 0 0 2 id, sTick 1 1 2 id, sTick 1 1 2 fun t => { t with anyTick := true, src := 4, divs := Vector.replicate 4 0 },
        sTick 2 1 2 fun t => { t with src := 1 }, sTick 2 1 0 id, sTick 3 1 2 fun t => { t with src := 1 },
        sTick 3 1 1 id, sTick 4 1 2 id, sTick 1 1 2 fun t => { t with period := 10000 }],
      Still s ∧ s.tick.srcDue = none ∧ s.now.toNat ≤ 1000) := by
  simp only [still_iff]; decide +kernel

theorem wit_TickEvents_cases :
    (let s := sTick 1 1 2 fun t => { t with anyTick := true, src := 4 }
     s.tick.src = (3 : Fin 4).val + 1 ∧ s.flag (oTCK_IN 3) 1 ≠ true ∧ s.fld (oTCK_IN 3) 31 16 ≤ s.tick.divs[(3 : Fin 4)] ∧
       1099 < s.edgeTime + s.tmin ∧ ¬1100 < s.edgeTime + s.tmin) ∧
    (let s := (sTick 2 1 2 fun t => { t with src := 1 }).setReg (oTCK_IN 0) 0x10000
     ¬s.fld (oTCK_IN 0) 31 16 ≤ s.tick.divs[(0 : Fin 4)]) ∧
    (sTick 1 1 2 id).tick.anyTick = false ∧ 2 ≤ (sTick 2 1 2 id).coastMax ∧ (sTick 2 1 0 id).coastMax = 0 ∧
    (sTick 3 1 2 id).tick.coasted + 1 < (sTick 3 1 2 id).coastMax ∧ (sTick 3 1 1 id).coastMax ≤ (sTick 3 1 1 id).tick.coasted + 1 ∧
    (sTick 2 1 2 id).period ≠ 0 ∧ (sTick 2 1 2 id).tick.commitDone = false := by
  decide +kernel

/-- Partition 0 has a CP reserve; DONE is clear or set; a pound is open. -/
def sResv (done : Word) : State :=
  { dev (partRegs ++ [(oTCK_STAT, 2), (oTCK_PART 0, 1 ||| done)]) with tick := { TickUnit.reset with pound := true } }

theorem wit_TickEvents_done : ∀ s ∈ [sResv 0, sResv 0x8000000000000000],
    s.tick.pound = true ∧ s.fld (oTCK_PART 0) 23 0 ≠ 0 ∧ s.tick.tested.getLsbD 0 = false := by
  decide +kernel

/-- The decode slot 63 of CS_0 names location 0x3000, whose microword is an ALU operation on XA and XB that ends. -/
def sCust (op : Nat) : State :=
  let s := (cpG [(1, wd 5 1), (2, wd 3 0)]).setReg (oCS_CDT 0 63) (BitVec.ofNat 64 (2 ^ 63 + 0b010101 * 2 ^ 46 + 2 ^ 44 + 0x3000))
  s.modSite 0 fun x => { x with seq := { x.seq with
    store := [(0x3000, BitVec.ofNat 160 (6 * 2 ^ 152 + op * 2 ^ 127 + 49 * 2 ^ 121 + 50 * 2 ^ 115 + 48 * 2 ^ 109))] } }

theorem wit_MicrocodeRuns_cp : ∀ op ∈ [1, 2, 3, 4, 5, 6, 12, 14], let s := sCust op
    s.siteOf 0 = some 0 ∧ s.issuing 0 = true ∧ s.fetchCheck 0 = none ∧ (s.cr 0).holds nf = true ∧ (s.cp 0).retired < 255 ∧ (s.cr 0).em = true ∧
    (let cdt := s.reg (oCS_CDT 0 63)
     bit cdt 63 = true ∧ bit cdt 62 = false ∧ bit cdt 60 = false ∧ bits cdt 51 46 = 0b010101 ∧ bit cdt 44 = true ∧ 0x3000 ≤ bits cdt 13 0) ∧
    numOk ((s.cr 0).gr 1) ∧ numOk ((s.cr 0).gr 2) ∧
    (s.site 0).seq.word 0x3000 =
      some (.of (BitVec.ofNat 160 (6 * 2 ^ 152 + op * 2 ^ 127 + 49 * 2 ^ 121 + 50 * 2 ^ 115 + 48 * 2 ^ 109))) := by
  simp only [numOk]; decide +kernel

/-- A customer command 0x42 in context 15 of CE_T, in a phase. -/
def ctxC (ph : Phase) : Ctx :=
  ⟨⟨0, 1, allCap, 0x200, false, 0, false⟩, ph, [0x42, 0, 0, 0], 0, 0, 0, [], [], [], 0, 0, 0, [], [], 0, 0, [0x42, 0, 0, 0], 0, true⟩
/-- CE_T, sliced for partition 0, runs that command with microwords at 0x3000: at rest, or waiting at it with line l of the Towpath. -/
def sEng (w : Nat) (wait : Bool) (ev : Bool) (tow : Word) : State :=
  let s := dev [(oCE_STAT 8, 2), (oCE_CTL 8, 0x100), (oCE_CDISP 8 2, 0x3000), (oTOW_INT 3, tow &&& 1), (oTOW_INTSTAT, tow &&& 0xF0000)]
  s.modEng 8 fun g => { g with
    slice := 0
    ctx := g.ctx.set 15 (some (ctxC (if wait then .routine else .fetched)))
    seq := { g.seq with store := [(0x3000, BitVec.ofNat 160 w)], upc := 0x3000, running := wait, waiting := wait,
                        ctxNo := if wait then some 15 else none, tickEv := ev } }
/-- A wait on condition c that ends the routine. -/
def wWait (c : Nat) : Nat := 6 * 2 ^ 152 + c * 2 ^ 147 + 3 * 2 ^ 56

theorem wit_MicrocodeRuns_engine :
    (let s := sEng (6 * 2 ^ 152) false true 0
     let c := ctxC .fetched
     s.ctx 8 15 = some c ∧ s.ceFree 8 = true ∧ isCustomer c.rawOp = true ∧ c.op = c.rawOp ∧ c.rawOp = 0x42 ∧
       s.mayWork 8 0 false = true ∧ s.otherTurn 8 15 = true ∧
       (s.eng 8).seq.word (s.fld (oCE_CDISP 8 2) 13 0) = some (.of (BitVec.ofNat 160 (6 * 2 ^ 152))) ∧
       s.flag (oCE_CTL 8) 8 = true ∧ (s.eng 8).slice = 0 ∧ s.bindSt 0 ≠ bBOUND) ∧
    (let s := (sEng 0 false false 0).modEng 8 fun g => { g with slice := 15 }
     s.flag (oCE_CTL 8) 8 = true ∧ (s.eng 8).slice = 8 + 7 ∧ ¬((s.eng 8).slice = 6 ∨ (s.eng 8).slice = 8 + 6)) ∧
    (dev []).flag (oCE_CTL 8) 8 = false := by
  decide +kernel

/-- A routine is called at a tick or an error: none is stored, or one that ends at once. -/
theorem wit_MicrocodeRuns_event :
    (∀ p ∈ [(true, false), (false, true), (false, false)], let s := (sEng 0 false p.1 0).modEng 8 fun g =>
        { g with seq := { g.seq with store := [], errEv := p.2 } }
      s.ceWorks 8 = true ∧ (s.eng 8).seq.running = false ∧ (s.eng 8).seq.inEvent = false ∧ (s.jn 8).slots = [] ∧
        (s.eng 8).seq.tickEv = p.1 ∧ (s.eng 8).seq.errEv = p.2 ∧ (s.eng 8).seq.store = []) ∧
    ∀ q : Seq, q.store = [(Config.eventEntry, BitVec.ofNat 160 (4 * 2 ^ 152))] →
      q.word Config.eventEntry = some (.of (BitVec.ofNat 160 (4 * 2 ^ 152))) := by
  refine ⟨by decide +kernel, fun q h => by simp [Seq.word, h]⟩

theorem wit_MicrocodeRuns_wait :
    (∀ p ∈ [(8, (0 : Word)), (11, 0), (15, 0), (23, 0x80001), (23, 1)], let s := sEng (wWait p.1) true false p.2
     let w := MW.of (BitVec.ofNat 160 (wWait p.1))
     s.ctx 8 15 = some (ctxC .routine) ∧ s.ceWorks 8 = true ∧ (s.eng 8).seq.running = true ∧ (s.eng 8).seq.waiting = true ∧
     (s.eng 8).seq.ctxNo = some 15 ∧ (s.eng 8).seq.inEvent = false ∧ (s.eng 8).seq.txSlots = [] ∧ (ctxC .routine).op ≠ 2 ∧
     (s.eng 8).seq.word (s.eng 8).seq.upc.toNat = some w ∧ w.waitev = 3 ∧ w.seq = 6 ∧ w.cond = p.1 ∧
     s.flag (oTOW_INT 3) 0 = bit p.2 0 ∧ s.flag oTOW_INTSTAT 19 = bit p.2 19) := by
  decide +kernel

/-- CP_0 holds its customer routine at a wait on condition c. -/
def sCustHeld (c : Nat) : State :=
  let s := (cpG [(1, wd 5 1)]).setReg (oCS_CDT 0 63) (BitVec.ofNat 64 (2 ^ 63 + 0x3000))
  let s := s.modCp 0 fun p => { p with custInsn := true, custSlot := 63, custRegs := p.regs }
  s.modSite 0 fun x => { x with seq := { x.seq with store := [(0x3000, BitVec.ofNat 160 (wWait c))], upc := 0x3000, waiting := true } }

theorem wit_MicrocodeRuns_site : (∀ c ∈ [8, 23], let s := sCustHeld c
    let p := s.cp 0
    let q := (s.site 0).seq
    let w := MW.of (BitVec.ofNat 160 (wWait c))
    cpField (s.fld (oCS_BIND 0) 11 8) = 0 ∧ p.custInsn = true ∧ s.siteOf 0 = some 0 ∧ s.standing 0 = true ∧ s.pairOf 0 = none ∧
      p.retired < 255 ∧ p.custRegs.em = p.regs.em ∧ p.arith = none ∧ bit (s.reg (oCS_CDT 0 p.custSlot)) 60 = false ∧ q.running = false ∧
      q.waiting = true ∧ q.word q.upc.toNat = some w ∧ w.waitev = 3 ∧ w.cond = c ∧ w.seq = 6) ∧
    ((cpG []).cp 0).custInsn = false := by
  decide +kernel

/-- Domain 56 (CE_A) is closed; partition 0 is defined. -/
def sClosed : State := dev (partRegs ++ [(oNI 56 0, 2), (oCFG_STAT, 5)])

theorem wit_RegisterAccess :
    Manager sClosed .pf0 ∧ (regFields oGLB_SCRATCH).isSome = true ∧ sClosed.closedLoc oGLB_SCRATCH = false ∧
    (regFields (oCE_RESV 0 7)).isSome = true ∧ sClosed.closedLoc (oCE_RESV 0 7) = true ∧
    sClosed.fld oCFG_STAT 2 0 = 5 ∧ (dev [(oCFG_STAT, 0)]).fld oCFG_STAT 2 0 ≠ 5 ∧ Manager (dev [(oCFG_STAT, 0)]) .pf0 ∧
    (∃ f ∈ (regFields (oPRT_TAGCLASS 7)).getD [], f.acc = .rwl ∧ bits (0x8000 : Word) f.hi f.lo ≠ bits ((dev []).reg (oPRT_TAGCLASS 7)) f.hi f.lo) ∧
    (bit (0x10000 : Word) 16 = true ∧ ∀ f ∈ (regFields (oPRT_TAGCLASS 7)).getD [], ¬(f.lo ≤ 16 ∧ 16 ≤ f.hi)) ∧
    regFields 0x3FFFF8 = none ∧ regFields 0xFFFFFF = none ∧ sClosed.running = true ∧ sClosed.partState 0 ≠ ptNONE ∧
    sClosed.partState 0 ≠ ptCLEARING ∧ sClosed.viewLoc 0 0x1050 = none ∧ sClosed.reservedFor (.vf 0) 0x20 = false ∧
    sClosed.reservedFor .pf0 oGLB_SCRATCH = false ∧ isCounter 0x460400 = false ∧ isCounter 0x400300 = false ∧
    isCounter 0x4603F8 = true ∧ isCounter 0x400000 = true ∧ bits (0x8000FFFFFFFFFFFF : Word) 62 48 = 0 := by
  simp only [Manager]; decide +kernel

/-- A record of source 0x64. -/
def recIn (sev : Fin 8) (n : Option PartId) (c : Option (List Word)) (full : Bool) : RecordIn :=
  ⟨sev, 0x64, 7, n, some 15, 1, 2, 3, c, full⟩
/-- ERR_IDX with u records in the PF0 ring, n spilled ones in an area of 1024, v records in the ring of partition 7. -/
def sErr (u n v cap : Nat) : State :=
  dev [(oERR_IDX, BitVec.ofNat 64 u), (oERR_SPILLSTAT, BitVec.ofNat 64 n), (oERR_PIDX 7, BitVec.ofNat 64 v),
    (oERR_CAP, BitVec.ofNat 64 cap), (oERR_SPILL, BitVec.ofNat 64 (0x1F80000000 + 10)), (oERR_CTL, 0x440), (oERR_WORST 0, BitVec.ofNat 64 (4 * 2 ^ 59))]

theorem wit_ErrorRecords :
    (∀ s ∈ [sErr 0 0 0 0, sErr 511 0 0 3, sErr 510 0 0 3, sErr 512 0 0 0, sErr 512 1023 0 0, sErr 512 1024 31 3, sErr 512 1024 32 3],
      s.running = true ∧ Manager s .lkp) ∧
    (∀ p ∈ [sErr 0 0 0 0, sErr 511 0 0 3], p.coalesceAt (recIn 4 none none false) (recWords p (recIn 4 none none false) p.err.rseq) = none ∧
      p.fld oERR_SPILLSTAT 20 0 = 0 ∧ p.ringUsed < 512) ∧
    ((sErr 0 0 0 0).flag oERR_CAP 0 = false ∧ (sErr 0 0 0 0).fld oERR_CTL 6 4 ≤ 4 ∧ (sErr 0 0 0 0).flag oERR_CAP 1 = false ∧
      (sErr 511 0 0 3).flag oERR_CAP 0 = true ∧ (sErr 511 0 0 3).flag oERR_CAP 1 = true ∧
      4 ≤ bits ((sErr 511 0 0 3).reg (oERR_WORST 0)) 61 59 ∧ bits ((sErr 511 0 0 3).reg (oERR_WORST 0)) 61 59 < 5 ∧
      (sErr 0 0 0 0).err.signalled = false ∧ (sErr 0 0 0 0).fld oERR_CTL 10 8 ≤ 4) ∧
    (sErr 510 0 0 3).ringUsed < 511 ∧ (sErr 510 0 0 3).fld oERR_SPILLSTAT 20 0 = 0 ∧
    ((sErr 512 0 0 0).ringUsed = 512 ∧ (sErr 512 1023 0 0).spillCap = 1024 ∧ 1023 + 1 ≤ (sErr 512 1023 0 0).spillCap ∧
      (sErr 512 1023 0 0).spillCap < 1023 + 2 ∧ (sErr 512 1024 31 3).spillCap ≤ (sErr 512 1024 31 3).fld oERR_SPILLSTAT 20 0) ∧
    ((sErr 512 1024 31 3).viewUsed 7 < 32 ∧ 32 ≤ (sErr 512 1024 32 3).viewUsed 7 ∧
      (sErr 512 1024 31 3).err.viewSignalled.getLsbD 7 = false ∧
      (sErr 512 1024 31 3).viewCoalesceAt 7 (recIn 4 (some 7) none false) [] = none) := by
  simp only [Manager]; decide +kernel

/-- The second of two equal records is counted in the first (R535). -/
theorem wit_ErrorRecords_rest :
    (let s := after (.errorRecordArrive (recIn 4 none none false)) (sErr 0 0 0 0)
     s.coalesceAt (recIn 4 none none false) (recWords s (recIn 4 none none false) s.err.rseq) = some 0) ∧
    State.reset.running = false ∧
    (let left := fun (s : State) (t : Nat) => (s.fld oERR_IDX 31 0 + 2 ^ 32 - t) % 2 ^ 32
     512 < left (sErr 512 1 0 0) (2 ^ 32 - 1) ∧ left (sErr 512 0 0 0) 0 ≤ 512 ∧ left (sErr 512 1 0 0) 1 < 512) ∧
    (sErr 512 1 0 0).fld oERR_SPILLSTAT 20 0 = 1 ∧
    (let left := fun (s : State) (t : Nat) => (s.fld (oERR_PIDX 7) 15 0 + 2 ^ 16 - t) % 2 ^ 16
     32 < left (sErr 0 0 32 0) 65535 ∧ left (sErr 0 0 32 0) 0 ≤ 32) := by
  decide +kernel


/-! Witnesses: events, checkpoints, retry, sparing and pairs. -/

/-- CP_0 with handlers, event bits ev pending, and a trap stack of one frame. -/
def sEv (ps tvec feVec fe ev : Word) : State := cpSt { regs0 [] with
  tsp := 64, ps := ps, tvec := tvec, feVec := feVec, feStat := fe, evpend := ev, trapCap := allCap, feCap := allCap } (memOf [])

theorem wit_CpEvents_delivery :
    State.reset.live 0 = false ∧ ((sEv 0x4000 0 0 0 4).cr 0).em = true ∧ bits ((sEv 0 0 0 0 0).cr 0).evpend 6 0 = 0 ∧
    ((∀ b ∈ [2, 3, 4, 5, 6], bit (BitVec.ofNat 64 (2 ^ b)) b = true ∧ bits (BitVec.ofNat 64 (2 ^ b)) (b - 1) 0 = 0) ∧
    ∀ s ∈ [sEv 0 0x801 0x901 0 4, sEv 0 0x801 0x901 0 64, sEv 0 0 0x901 0 4, sEv 0 0 0x901 1 64, sEv 0 0 0 0 4, sEv 0 0x801 0 1 0x78],
      s.live 0 = true ∧ (s.cr 0).em = false ∧ bits (s.cr 0).evpend 6 2 ≠ 0 ∧ bits (s.cr 0).evpend 1 0 = 0 ∧ Calm s 0 ∧
      okIs (match s.pushCheck 0 8 with | .ok l => Except.ok l.length | .error _ => .ok 0) 8 = true) := by
  simp only [calm_iff]; decide +kernel

/-- CP_0 with the watchdog and its event; not in service, halted, checkstopped. -/
def sDog (ev w : Word) (f : Cp → Cp) : State :=
  (cpSt { regs0 [] with evpend := ev, wdog := w } (memOf [])).modCp 0 f

theorem wit_CpEvents_wdog :
    (∀ s ∈ [sDog 0 1 fun c => { c with inService := false }, sDog 0 1 fun c => { c with halted := true },
        sDog 0 1 fun c => { c with checkstop := true }, sDog 0 0 id],
      (s.cp 0).inService = false ∨ (s.cp 0).halted = true ∨ (s.cp 0).checkstop = true ∨ bits (s.cr 0).wdog 31 0 = 0) ∧
    ∀ s ∈ [sDog 0 1 id, sDog 4 0xFFFFFFFF id],
      ¬((s.cp 0).inService = false ∨ (s.cp 0).halted = true ∨ (s.cp 0).checkstop = true ∨ bits (s.cr 0).wdog 31 0 = 0) := by
  decide +kernel

/-- CP_0 on CS_0 with a store held, three or two retries in the interval, site 0 to be spared or not. -/
def sRetry (n : Nat) (due : Bool) : State :=
  let s := (cpSt (regs0 []) (memOf [])).setReg oCMP_CTL 0x100
  (s.modCp 0 fun c => { c with attempts := n, held := [.store ⟨base0, 7, 0xFF, some 1, none, false⟩ 0] }).modSite 0
    fun x => { x with spareDue := due, retryTimes := [0] }

theorem wit_CpEvents_checkpoint :
    (State.reset.executing 0 = false ∧ (sDog 0 0 fun c => { c with custInsn := true }).executing 0 = true) ∧
    (∀ s ∈ [sRetry 0 true, sRetry 2 false, sRetry 3 false], s.executing 0 = true ∧ (s.cp 0).custInsn = false ∧ Solo s 0 ∧ Fresh s ∧
      s.siteOf 0 = some 0 ∧ (s.cp 0).held.all (fun h => match h with | .store _ _ => true | _ => false) = true) ∧
    ((sRetry 0 true).site 0).spareDue = true ∧ ((sRetry 2 false).cp 0).attempts < 3 ∧ 3 ≤ ((sRetry 3 false).cp 0).attempts := by
  simp only [Solo, Fresh]; decide +kernel

/-- CP_0 is being moved from CS_0 (SPARING); CS_8 and CS_19 are SPARE or not; a move to CS_9 is under way or not. -/
def sSpare (here there : Nat) (f : Cp → Cp) : State :=
  let s := (cpSt (regs0 []) (memOf [])).modCp 0 f
  ((s.setReg (oCS_BIND 0) 4).setReg (oCS_BIND 8) (BitVec.ofNat 64 here)).setReg (oCS_BIND 19) (BitVec.ofNat 64 there)

theorem wit_CpEvents_sparing :
    ((sSpare 1 1 id).freeSpare 0 = some 8 ∧ (sSpare 2 1 id).freeSpare 0 = some 19 ∧ (sSpare 0 0 id).freeSpare 0 = none) ∧
    ((sRetry 0 true).sparingSite 0 = none ∧ ((sRetry 0 true).cp 0).checkstop = false) ∧
    (∀ s ∈ [sSpare 1 1 id, sSpare 0 0 id, sSpare 1 1 fun c => { c with spareTo := some 8 },
        sSpare 1 1 fun c => { c with spareTo := some 8, ckptLost := true }],
      s.sparingSite 0 = some 0 ∧ ((s.cp 0).checkstop && (s.cp 0).checkstopCore) = false ∧ Solo s 0 ∧ s.lkpSpare = none ∧
      ∀ n : PairId, s.flag (oCMP_PAIR n) 61 = false) ∧
    ((sSpare 1 1 id).cp 0).spareTo = none ∧ ((sSpare 1 1 fun c => { c with spareTo := some 8 }).cp 0).spareTo = some 8 := by
  simp only [Solo]; decide +kernel

theorem wit_CpEvents_restart :
    (let c := (sDog 0 0 fun c => { c with checkstop := true }).cp 0
     c.checkstop = true ∧ c.checkstopCore = false ∧ c.inService = true ∧ c.frozen = false) ∧
    ((sDog 0 0 id).cp 0).checkstop = false ∧
    ((dev partRegs).debugOpen none = true ∧ (dev [(oESF_STAT, 2)]).debugOpen none = false ∧ (dev []).bindSt 0 ≠ bBOUND ∧
     (dev []).bindSt 0 ≠ bFOLLOWER ∧ (sDog 0 0 id).bindSt 0 = bBOUND ∧ (sDog 0 0 id).fld (oCS_BIND 0) 11 8 = 0 ∧ Solo (sDog 0 0 id) 0 ∧
     (sDog 0 0 id).debugOpen ((sDog 0 0 id).sitePart 0) = true) := by
  simp only [Solo]; decide +kernel

/-- Pair 0 runs CP_0 on CS_0 and CS_1 with comparator 0 (in state u); the pair's state is st; an interval with one store waits. -/
def sPair (st u : Nat) (f : Pair → Pair) : State :=
  let s := cpSt (regs0 []) (memOf [])
  let s := ((s.setReg (oCS_BIND 1) 3).setReg (oCMP_PSTAT 0) (BitVec.ofNat 64 (st + 2 ^ 16 + 2 ^ 36 + 2 ^ 49))).setReg (oCMP_PAIR 0) 0
  (s.setReg (oCMP_UNIT 0) (BitVec.ofNat 64 u)).modPair 0
    fun p => f { p with dsb := [.store ⟨base0, 7, 0xFF, some 1, none, false⟩ 0], verified := regs0 []
                        ivals := [⟨1, 0, 1, regs0 [(1, wd 1 1)], none⟩] }

theorem wit_CpEvents_pair :
    (let s := sPair 2 2 id
     s.pairOf 0 = some 0 ∧ s.pairs[(0 : Fin 10)].testing = false ∧ s.bindSt 0 = bBOUND ∧ s.bindSt 1 = bFOLLOWER ∧ (s.cp 0).spareTo = none ∧
     s.debugOpen (s.sitePart 0) = true ∧ s.debugOpen (s.sitePart 1) = true ∧ s.fld (oCS_BIND 1) 11 8 = 0 ∧ s.pairs[(0 : Fin 10)].dsb ≠ [] ∧
     s.follower 0 = some 1 ∧ s.pairs[(0 : Fin 10)].attempts < 3) ∧
    (let s := sPair 2 2 fun p => { p with attempts := 3 }
     s.pairOf 0 = some 0 ∧ s.follower 0 = some 1 ∧ 3 ≤ s.pairs[(0 : Fin 10)].attempts ∧ (s.siteOf 0).isSome = true) ∧
    (let s := (sPair 2 2 id).setReg (oCS_BIND 0) 4
     s.sparingSite 0 = some 0 ∧ ((s.cp 0).checkstop && (s.cp 0).checkstopCore) = false ∧ (s.cp 0).spareTo = none ∧
     s.pairOf 0 = some 0 ∧ s.follower 0 = some 1 ∧ s.bindSt 0 = bSPARING ∧ s.fld (oCS_BIND 0) 11 8 = 0 ∧ s.debugOpen (s.sitePart 0) = true) ∧
    (let s := (sPair 2 2 id).modCp 0 fun c => { c with spareTo := some 1 }
     s.bindSt 1 = bFOLLOWER ∧ (s.cp 0).spareTo = some 1) := by
  decide +kernel

/-- An interval of the pair closes: one instruction has retired since the checkpoint, with a store and a load. -/
theorem wit_Pairs_checkpoint :
    let s := (sPair 2 2 fun p => { p with log := [.value (wd 3 1)] }).modCp 0 fun c =>
      { c with retired := 1, held := [.store ⟨base0 + 8, 9, 0xFF, some 1, none, false⟩ 0] }
    s.executing 0 = true ∧ (s.cp 0).custInsn = false ∧ s.pairOf 0 = some 0 ∧ (s.cp 0).retired ≠ 0 := by
  decide +kernel

theorem wit_Pairs_compare :
    (∀ s ∈ [sPair 2 2 id, sPair 2 2 fun p => { p with disagreed := 2 }, sPair 2 2 fun p => { p with disagreed := 3 }],
      s.pairSt 0 = pPAIRED ∧ s.pairs[(0 : Fin 10)].testing = false ∧ s.siteOf (s.pairCp 0) = some 0 ∧ s.follower 0 = some 1 ∧ Fresh s ∧
      s.pairs[(0 : Fin 10)].dsb.all (fun h => match h with | .store _ _ => true | _ => false) = true ∧
      s.pairs[(0 : Fin 10)].ivals = [⟨1, 0, 1, regs0 [(1, wd 1 1)], none⟩] ∧ (s.site 1).spareDue = false) ∧
    (let s := (sPair 2 2 id).modSite 1 fun x => { x with spareDue := true }
     s.follower 0 = some 1 ∧ (s.site 1).spareDue = true ∧ (s.siteOf (s.pairCp 0)).isSome = true) ∧
    (sPair 4 2 id).pairSt 0 ≠ pPAIRED ∧ (sPair 4 2 id).pairSt 0 ≠ pSUSPECT ∧ (sPair 3 2 id).pairSt 0 = pSUSPECT ∧
    (sPair 2 2 fun p => { p with testing := true }).pairs[(0 : Fin 10)].testing = true ∧
    (sPair 2 2 fun p => { p with ivals := [] }).pairs[(0 : Fin 10)].ivals = [] ∧ (sPair 2 2 id).flag (oCMP_PAIR 0) 62 = false := by
  simp only [Fresh]; decide +kernel

/-- The signature is the implementation's (assumption 86): copies agree that differ nowhere, and they disagree in a store exactly where
it tells the two apart. -/
theorem wit_Pairs_signature :
    let s := sPair 2 2 id
    let v : Ival := ⟨1, 0, 1, regs0 [(1, wd 1 1)], none⟩
    let out := fun (x : Word) => intervalSig false (diffOuts (.output 0 x) (s.pairs[(0 : Fin 10)].dsb.take v.outs)) v.regs
    s.pairAgrees 0 v .same = true ∧
    (intervalSig false (s.pairs[(0 : Fin 10)].dsb.take v.outs) v.regs ≠ out 1 → s.pairAgrees 0 v (.output 0 1) = false) := by
  refine ⟨?_, fun h => ?_⟩
  · simp [State.pairAgrees, diffOuts, diffRegs]
  · simp only [State.pairAgrees, diffRegs, beq_eq_false_iff_ne]
    exact h

/-- Both members are under self-test. -/
def sSelf : State := ((sPair 2 2 fun p => { p with testing := true }).setReg (oCS_BIND 0) 5).setReg (oCS_BIND 1) 5

theorem wit_Pairs_selfTest :
    sSelf.pairs[(0 : Fin 10)].testing = true ∧ sSelf.follower 0 = some 1 ∧ sSelf.bindSt 0 = bTESTING ∧ sSelf.fld (oCS_BIND 0) 11 8 = 0 ∧
    (∀ x : SiteId, sSelf.bindSt x = bTESTING → sSelf.fld (oCS_BIND x) 11 8 = 0 → x = 0 ∨ x = 1) ∧ sSelf.siteOf 0 = none := by
  decide +kernel

/-- CP_0 waits at a FENCE.I as sync point. -/
def sSync (w : Option (BitVec 32)) : State :=
  (sPair 2 2 fun p => { p with dsb := [], ivals := [] }).modCp 0 fun c => { c with syncWait := w }

theorem wit_Pairs_sync :
    (let s := sSync (some 0x0F80000A)
     (s.cp 0).syncWait = some 0x0F80000A ∧ s.pairSt 0 = pPAIRED ∧ s.pairs[(0 : Fin 10)].dsb = [] ∧ s.pairs[(0 : Fin 10)].testing = false ∧
     s.pairs[(0 : Fin 10)].ivals = [] ∧ (s.cp 0).frozen = false ∧ Fresh s ∧ (s.cp 0).held = [] ∧ s.pairOf 0 = some 0 ∧ s.pairUnverified 0 = none ∧ s.siteOf 0 = some 0 ∧ (s.site 0).spareDue = false ∧
     (s.modCp 0 fun c => { c with syncWait := none }).issuing 0 = true ∧ s.fetchCheck 0 = none ∧
     decodeRilel 0 0x0F80000A = some (.fenceI 0 ⟨nf, 0, 0, 0⟩) ∧ (Instr.fenceI 0 ⟨nf, 0, 0, 0⟩).legal = true ∧
     (s.cr 0).holds nf = true ∧ (s.cr 0).em = true) ∧
    ((sSync none).cp 0).syncWait = none ∧ (sPair 2 2 id).pairs[(0 : Fin 10)].dsb ≠ [] := by
  simp only [Fresh]; decide +kernel

theorem wit_Pairs_comparators :
    ((sPair 2 2 id).fld (oCMP_UNIT 0) 2 0 = uSERVICE ∧ (sPair 2 2 id).fld (oCMP_UNIT 0) 7 4 = 0 ∧ (sPair 2 2 id).pairSt 0 = pPAIRED ∧
      (sPair 3 3 id).fld (oCMP_UNIT 0) 2 0 = uTESTING ∧ (sPair 3 3 id).pairSt 0 = pSUSPECT ∧ (sPair 2 3 id).pairSt 0 ≠ pSUSPECT ∧
      (sPair 2 0xF3 id).fld (oCMP_UNIT 0) 2 0 = uTESTING ∧ 10 ≤ (sPair 2 0xF3 id).fld (oCMP_UNIT 0) 7 4) ∧
    (((sPair 3 3 id).setReg (oCMP_UNIT 11) 1).setFld (oCMP_UNIT 0) 2 0 uFAILED).spareCmp = some 11 ∧
    (∀ v : CompId, v = 10 ∨ v = 11 → (sPair 3 3 id).fld (oCMP_UNIT v) 2 0 ≠ uSPARE) := by
  decide +kernel

theorem wit_Pairs_rest :
    (sPair 4 2 id).pairRuns 0 = false ∧ (sPair 2 2 id).pairRuns 0 = true ∧
    ((sPair 2 2 id).pairs[(0 : Fin 10)].dsb[0]? = some (.store ⟨base0, 7, 0xFF, some 1, none, false⟩ 0) ∧
      (sPair 2 2 id).pairs[(0 : Fin 10)].ivals.map (·.outs) = [1] ∧ (sPair 2 2 id).ringUsed < 512 ∧ (sPair 2 2 id).fld oERR_SPILLSTAT 20 0 = 0) ∧
    (∀ st ∈ [4, 6], Manager (sPair st 2 id) .pf0 ∧ pDEGRADED ≤ (sPair st 2 id).pairSt 0 ∧ (sPair st 2 id).pairSt 0 ≤ pBROKEN ∧
      (sPair st 2 id).siteOf 0 = some 0 ∧ ((sPair st 2 id).setReg (oCMP_PSTAT 0) (BitVec.ofNat 64 st)).cmpForming 0 = some 0 ∧
      ((sPair st 2 id).follower 0).isSome = true) ∧
    (pBROKEN < (sPair 7 2 id).pairSt 0 ∧ (sPair 3 2 id).pairSt 0 < pDEGRADED ∧ Manager (sPair 3 2 id) .lkp) ∧
    (let s := (sPair 4 2 id).setReg (oCMP_PSTAT 0) 0x1F0004
     s.follower 0 = none ∧ (∀ y, s.spareFree y = false) ∧ Manager s .pf0 ∧ s.pairSt 0 = pDEGRADED) ∧
    (let s := ((sPair 4 2 id).setReg (oCMP_PSTAT 0) 0x1F0004).setReg (oCS_BIND 9) 1
     s.follower 0 = none ∧ s.freeSpare 0 = some 9 ∧ (∀ z : SiteId, s.fld (oCMP_PAIR 0) 4 0 ≠ z.val ∨ s.spareFree z = false)) ∧
    (sPair 4 2 fun p => { p with copying := true }).pairs[(0 : Fin 10)].copying = true ∧
    ((sPair 4 0 id).cmpForming 0 = none ∧ Manager (sPair 4 0 id) .pf0) := by
  simp only [Manager]; decide +kernel


/-! Witnesses: caches and storage, channel programs, engines. -/

/-- The L2 of CS_0: lines in set 5: a dirty one, a reserved way, a clean one; control c, status a, lock l. -/
def sL2 (c a l : Word) : State :=
  let s := dev (partRegs ++ [(oL2_CTL 0, c), (oL2_STAT 0, a), (oL2_LOCK 0, l), (oL3_CTL, c), (oL3_STAT, a), (oPRT_L3MASK 0, 0x20002)])
  { s with
    mem := { memOf [] with older := [(5, List.replicate 8 (wd 1 0))] }
    sites := s.sites.set 0 { Site.reset with
      l2 := [(5, ⟨[some ⟨5, true, false⟩, some ⟨0x1005, false, true⟩, some ⟨0x2005, false, false⟩], 0⟩)]
      l2Frozen := [(5, List.replicate 8 (wd 2 0))] } }

theorem wit_CachesAndStorage_control :
    (∀ c ∈ [CacheSel.l2 0, .l3], Manager (sL2 0 0 0) .pf0 ∧ (sL2 0 0 0).closedLoc (ctlOff c) = false ∧
      (sL2 0 0 0).flag (statOff c) 0 = false ∧ (sL2 0 1 0).flag (statOff c) 0 = true ∧ (sL2 0 0 0).flag (ctlOff c) 0 = false ∧
      (sL2 1 0 0).flag (ctlOff c) 0 = true ∧ (sL2 0 4 0).flag (statOff c) 2 = true ∧ (sL2 0 0 0).flag (statOff c) 2 = false) ∧
    ((dev [(oNI 0 0, 1)]).closedLoc (ctlOff (.l2 0)) = true ∧ Manager (dev [(oNI 0 0, 1)]) .pf0) ∧
    (Fresh (sL2 1 0 0) ∧ (∀ l ∈ ((sL2 1 0 0).site 0).l2.lines, 64 * l.la + 64 ≤ dataEnd) ∧
      (⟨5, true, false⟩ : CLine) ∈ ((sL2 1 0 0).site 0).l2.lines ∧
      (sL2 1 0 0).mem.older.find? (fun x => x.1 = 5) = some (5, List.replicate 8 (wd 1 0))) ∧
    ((((sL2 0 4 0).site 0).l2Frozen.map (·.1)).Nodup ∧ ∀ q ∈ ((sL2 0 4 0).site 0).l2Frozen, 64 * q.1 + 64 ≤ dataEnd) ∧
    -- no other cache holds line 5 dirty
    (∀ s ∈ [sL2 1 0 0, sL2 0 4 0], (s.l1dAt 0 5).dirtyAt 5 = false ∧ (∀ y, y ≠ 0 → s.siteDirty y 5 = false) ∧
      (s.l3On && (s.l3At 5).dirtyAt 5) = false) := by
  simp only [Manager, Fresh]; decide +kernel

theorem wit_CachesAndStorage_rest :
    ((sL2 5 1 0).flag (oL2_STAT 0) 0 = true ∧ (sL2 5 1 0).l2On 0 = true ∧ (sL2 5 1 0).fld (oL2_CTL 0) 2 1 = 2 ∧
      (sL2 3 1 0).fld (oL2_CTL 0) 2 1 ≠ 2) ∧
    (onesIn 0xFFF 15 0 = 12 ∧ onesIn 0x1FFF 15 0 = 13 ∧ bits (0xFFFF1FFF : Word) 63 32 = 0 ∧ (sL2 0 0 0).closedLoc (oL2_LOCK 0) = false) ∧
    (let ok := fun (v : Word) => (∀ b < 16, bit v (16 + b) = true → bit v b = true) ∧
       (bits v 15 0 = 0 ∨ 4 ≤ (List.range 16).countP fun b => bit v b && !bit v (16 + b))
     ok 0x1001F ∧ ¬ok 0x1000F ∧ ¬ok 0x2000F ∧ ok 0) ∧
    ((sL2 1 0 1).entryAt (.l2 0) 5 0 = some ⟨5, true, false⟩ ∧ (sL2 1 0 1).entryAt (.l2 0) 5 1 = some ⟨0x1005, false, true⟩ ∧
      (sL2 1 0 1).entryAt (.l2 0) 5 2 = some ⟨0x2005, false, false⟩ ∧ (sL2 1 0 1).entryAt (.l2 0) 5 15 = none ∧
      (sL2 1 0 1).arrayOn (.l2 0) = true ∧ (sL2 1 0 1).ringUsed < 512 ∧ (sL2 1 0 1).fld oERR_SPILLSTAT 20 0 = 0) ∧
    (storageEnd ≤ (0xFFFFFFFFFF : BitVec 40).toNat ∧ (0x1FFFFFFFFF : BitVec 40).toNat < storageEnd ∧ storageEnd ≤ (0x2000000000 : BitVec 40).toNat ∧
      ∀ y ∈ (sL2 1 0 1).mem.older, y.1 ≠ 0x1FFFFFFFFF / 64) := by
  decide +kernel

/-- The L3 holds line 7 dirty and line 39 clean, L1D 0 line 9 dirty; RLB 0, tag cache 0 and the pool of CE_A hold an entry each. -/
def sArr : State :=
  let s := dev (partRegs ++ [(oL3_CTL, 1)])
  let s := s.modEng 0 fun g => g
  { s with
    mem := { memOf [] with older := [(7, List.replicate 8 (wd 1 0)), (9, List.replicate 8 (wd 2 0))] }
    l3 := s.l3.set 7 [(0, ⟨[some ⟨7, true, false⟩], 0⟩)]
    sites := s.sites.set 0 { Site.reset with l1d := [(9, ⟨[some ⟨9, true, false⟩], 0⟩)], rlb := [(3, ⟨[some ⟨3, false, false⟩], 0⟩)] }
    tagCache := s.tagCache.set 0 [(1, ⟨[some ⟨1, false, false⟩], 0⟩)]
    jnl := s.jnl.set 0 { s.jn 0 with pool := [(⟨4096, 64⟩, 1)] } }

theorem wit_CachesAndStorage_arrays :
    Fresh sArr ∧ sArr.flag oL3_CTL 0 = true ∧ (∀ l ∈ sArr.l3Lines, 64 * l.la + 64 ≤ dataEnd) ∧ (⟨7, true, false⟩ : CLine) ∈ sArr.l3Lines ∧
    sArr.dirtyAbove 7 = false ∧ sArr.mem.older.find? (fun x => x.1 = 7) = some (7, List.replicate 8 (wd 1 0)) ∧
    sArr.entryAt (.l3 7) 0 0 = some ⟨7, true, false⟩ ∧ sArr.entryAt (.l1d 0) 9 0 = some ⟨9, true, false⟩ ∧
    sArr.arrayOn (.l3 7) = true ∧ sArr.arrayOn (.l1d 0) = true ∧ sArr.ringUsed < 512 ∧
    ((sArr.site 0).rlb.set? 8 3).ways.getD 0 none = some ⟨3, false, false⟩ ∧
    ((sArr.tagCache[(0 : Fin 4)]).set? 16 1).ways.getD 0 none = some ⟨1, false, false⟩ ∧
    (∀ y ∈ sArr.mem.older, y.1 ≠ 8) ∧ sArr.inL3 8 = false ∧ sArr.inL3 7 = true ∧
    ((sArr.jn 0).pool[0]?).map (fun p => p.1.len) = some 64 ∧ 8 * (8 * 0 + 7) < 64 ∧
    (sL2 1 0 1).l2View 0 0x2005 = List.replicate 8 (wd 0 0) ∧ (sL2 1 0 1).arrayOn (.l2 0) = true := by
  simp only [Fresh]; decide +kernel

/-- A program in its fetch phase whose command reads ws. -/
def sFetch (ws : List Word) : State := sCtx 2 ws (mkCtx [] .fetch)
def fetchOk (s : State) : Bool :=
  s.ceFree 0 && s.xf.slots.isEmpty && (s.ctx 0 0).isSome && s.mayWork 0 0 false &&
    (s.dmaCheck 0 allCap pLOAD 0x200 32 false).toBool && (s.dmaReadable 0 0x200 32).toBool

theorem wit_CommandResults_dispatch :
    (let s := sCtx 2 [] (mkCtx [] .waiting)
     let s := s.modEng 0 fun g => { g with queue := [⟨0, 2, allCap, 0x200, false, 0, false⟩] }
     s.ceFree 0 = true ∧ s.xf.slots = [] ∧ s.ctx 0 1 = none ∧ (∀ y, y < (1 : CtxId) → s.ctx 0 y ≠ none) ∧ s.flag (oCE_CTL 0) 8 = false) ∧
    (let s := (sCtx 2 [] (mkCtx [] .waiting)).modEng 0 fun g => { g with
       queue := [⟨0, 2, allCap, 0x200, false, 0, false⟩], ctx := g.ctx.set 1 (some (mkCtx [] .waiting)) }
     (s.setReg (oCE_CTL 0) 0x101).flag (oCE_CTL 0) 8 = true ∧ s.ceFree 0 = true ∧
     2 ≤ (s.eng 0).ctx.toList.countP (fun d => match d with | some d => decide (d.prog.part = 0) | none => false)) := by
  decide +kernel

/-- What the words of the fetch clauses are: tags, opcode, flags, address, size, target. -/
theorem wit_CommandResults_fetch :
    (∀ ws ∈ [[w0 4 0, 0, 0, 0], [w0 0xA 0x19, 0, 0, 0], [w0 0xB 1, 0, 0, 0], [w0 0xB 0x100, 0, 0, 0], [w0 0xB 0x200, 0, 0, 0], [w0 8 0x18, 0x220, 0, 0],
        [w0 8 0, 0x210, 0, 0], [w0 1 0, 0x400, 0, 0], [w0 1 0, 0x400, BitVec.ofNat 64 (1 * 2 ^ 48), 0], [w0 1 0, 0x400, BitVec.ofNat 64 (8192 * 2 ^ 48), 0],
        [w0 1 0, 0x400, BitVec.ofNat 64 (8193 * 2 ^ 48), 0], [w0 1 0 ||| 0x3F00, 0x400, BitVec.ofNat 64 (1 * 2 ^ 48), 0], [w0 1 4, 0x400, BitVec.ofNat 64 (1 * 2 ^ 48), 0],
        [w0 1 2, 0x400, BitVec.ofNat 64 (2 ^ 48 + 101), 0], [w0 1 6, 0x400, BitVec.ofNat 64 (2 ^ 48 + 1), 0], [w0 1 2, 0x400, BitVec.ofNat 64 (2 ^ 48 + 100), 0],
        [w0 1 2 + (BitVec.ofNat 64 (1 * 2 ^ 42)), 0x400, BitVec.ofNat 64 (2 ^ 48 + 101), 0], [w0 1 2 + (BitVec.ofNat 64 (1025 * 2 ^ 32)), 0x400, BitVec.ofNat 64 (2 ^ 48 + 101), 0]],
      fetchOk (sFetch ws) = true ∧ ((sFetch ws).dmaWords 0 0x200 4).map (·.data) = ws ∧
        (∀ y ∈ (sFetch ws).dmaWords 0 0x200 4, y.tag = tagRAW)) ∧
    ((w0 0xA 0x19 &&& ~~~0x1900FF#64 = 0) ∧ (w0 0xB 0x200 &&& ~~~0x1FF00FF#64 ≠ 0) ∧ (w0 0xB 0x100 &&& ~~~0x1FF00FF#64 = 0) ∧
      (w0 0xB 0x100 &&& ~~~0x1900FF#64 ≠ 0) ∧ (w0 8 0x18 &&& ~~~0x1800FF#64 = 0)) ∧
    ((sFetch []).epOwnerNow 0 0 = 0 ∧ (sFetch []).epOwnerNow 0 0x3F ≠ 0 ∧ (sFetch []).cfgNow (oCE_RESV 0 0) = 0x100 ∧ allCap.grants pTICK = true ∧
      (sFetch []).commitPassed 100 = true ∧ (sFetch []).commitPassed 101 = false ∧ (sFetch []).resvBytes 0 0 101 + 1024 ≤
        (sFetch []).fld (oCE_RESV 0 0) 31 8 * 1024 ∧ (sFetch []).fld (oCE_RESV 0 0) 31 8 * 1024 < (sFetch []).resvBytes 0 0 101 + 1025) := by
  decide +kernel

/-- An unmapped region, a word that is no number, a capability without TICK. -/
theorem wit_CommandResults_fetchStops :
    (match (sFetch []).xlate 0 0xE00000 false with | .region k => k | _ => 0) = 1 ∧ allCap.check 0xE00000 32 pLOAD = none ∧
    (let s := { sFetch [] with mem := (sFetch []).mem.putWord (base0 + 0x218) (wd 5 8) }
     fetchOk s = true ∧ (∃ y ∈ s.dmaWords 0 0x200 4, y.tag ≠ tagRAW ∧ y.tag ≠ tagFIX)) ∧
    (⟨0, 0x1000, 0xFFF &&& ~~~pTICK, 0, false⟩ : Cap).grants pTICK = false ∧
    (⟨0, 0x1000, 0xFFF &&& ~~~pTICK, 0, false⟩ : Cap).check 0x200 32 pLOAD = none := by
  decide +kernel

/-- A compression of level 9 with FINAL, to 0x800. -/
def dComp : List Word := [BitVec.ofNat 64 (3 + 9 * 2 ^ 16 + 2 ^ 21), 0, 0, 0, 0x800, 0x100, 0, 0]
def cXf (op fl : Nat) (ph : Phase) : Ctx := { mkCtx [w0 op fl + (BitVec.ofNat 64 (16 * 2 ^ 32)), 0x400, BitVec.ofNat 64 (1 * 2 ^ 48), 0] ph with stages := [Stage.fresh dComp] }

theorem wit_CommandResults_begin :
    (∀ c ∈ [mkCtx [w0 8 0, 0x220, 0, 0] .fetched, mkCtx [w0 0xB 0, 0, 0, 0] .fetched, mkCtx [w0 9 2, 0, 101, 0] .fetched,
        mkCtx [w0 0xA 0, 0, 0, 0] .fetched, mkCtx [w0 1 0, 0x400, BitVec.ofNat 64 (1 * 2 ^ 48), 0] .fetched, mkCtx [w0 2 0, 0x400, 0, 0] .fetched,
        cXf 1 0x20 .fetched, cXf 3 0x20 .fetched], (sCtx 2 [] c).ctx 0 0 = some c ∧ (sCtx 2 [] c).xf.slots = [] ∧ (sCtx 2 [] c).ceFree 0 = true ∧
      c.phase = .fetched ∧ c.seqs = [] ∧ (sCtx 2 [] c).anyStaging 0 = false ∧ (sCtx 2 [] c).mayWork 0 0 (c.op == 9) = true ∧
      (sCtx 2 [] c).otherTurn 0 0 = true ∧ (sCtx 2 [] c).recvBefore 0 c = false) ∧
    -- the partition's slice is another's; an earlier RECV waits; a staging is due
    (let c := mkCtx [w0 0xB 0, 0, 0, 0] .fetched
     let s := ((sCtx 2 [] c).setReg (oCE_CTL 0) 0x101).setReg oTCK_STAT 2
     (s.modEng 0 fun g => { g with slice := 1 }).mayWork 0 0 false = false) ∧
    (let c := { mkCtx [w0 2 0, 0x400, 0, 0] .fetched with fetchNo := 1 }
     let s := (sCtx 2 [] c).modEng 0 fun g => { g with ctx := g.ctx.set 1 (some (mkCtx [w0 2 0, 0x400, 0, 0] .fetched)) }
     s.recvBefore 0 c = true ∧ s.mayWork 0 0 false = true ∧ s.otherTurn 0 0 = true ∧ s.ceFree 0 = true) ∧
    (let c := mkCtx [w0 0xB 0, 0, 0, 0] .fetched
     let d := { mkCtx [w0 1 2, 0x400, BitVec.ofNat 64 (16 * 2 ^ 48 + 101), 0] .staging with target := 101 }
     let s := (sCtx 2 [] c).modEng 0 fun g => { g with ctx := g.ctx.set 1 (some d) }
     s.anyStaging 0 = true ∧ s.ceFree 0 = true ∧ s.ctx 0 0 = some c) ∧
    ((cXf 1 0x20 .fetched).fXf = true ∧ (sCtx 2 [] (cXf 1 0x20 .fetched)).chainCheck { cXf 1 0x20 .fetched with stages := [] } ≠ 0 ∧
      (sCtx 2 [] (cXf 3 0x20 .fetched)).chainCheck (cXf 3 0x20 .fetched) = 0 ∧
      ((sCtx 2 [] (cXf 3 0x20 .fetched)).dmaCheck 0 allCap pLOAD 0x400 16 false).toBool = true ∧
      ((sCtx 2 [] (cXf 3 0x20 .fetched)).dmaReadable 0 0x400 16).toBool = true ∧ ((sCtx 2 [] (cXf 3 0x20 .fetched)).port 0).pool = []) := by
  decide +kernel

/-- A SEND of 16 bytes in frames of 16, bound to tick 101 or not. -/
def cSend (fl t : Nat) : Ctx := { mkCtx [w0 1 fl + (BitVec.ofNat 64 (16 * 2 ^ 32)), 0x400, (BitVec.ofNat 64 (16 * 2 ^ 48)) + BitVec.ofNat 64 t, 0] .staging with target := t }

/-- CE_A's port is mirrored, and so much went to the twin in this pound that no more may. -/
def sMir : State :=
  let s := ((((sCtx 2 [] (cSend 2 101)).setReg oTWN_STAT 0x40).setReg (oJNL_PORT 0) 1).setReg oTCK_STAT 2).setReg oTCK_PERIOD 10000
  { s with twin := { s.twin with mirrorOn := true, mirPound := 10 ^ 9 } }

theorem wit_CommandResults_staging :
    (∀ c ∈ [cSend 2 100, cSend 2 101, cSend 2 200, cSend 0 0, { cSend 0 0 with stages := [Stage.fresh dComp] }],
      (sCtx 2 [] c).ctx 0 0 = some c ∧ (sCtx 2 [] c).ceFree 0 = true ∧ c.phase = .staging ∧ (sCtx 2 [] c).xf.slots = [] ∧
      (sCtx 2 [] c).mayWork 0 0 c.fTb = true ∧ c.seqs = [] ∧ (sCtx 2 [] c).mirrorRoom 0 c.count = true ∧
      (if c.fTb = true then (sCtx 2 [] c).stagedBefore 0 c = false else (sCtx 2 [] c).anyStaging 0 = false)) ∧
    -- another staging goes first; the pound's mirrored bytes are at the limit
    (let c := cSend 2 101
     let s := (sCtx 2 [] c).modEng 0 fun g => { g with ctx := g.ctx.set 1 (some { cSend 2 101 with fetchNo := 0 }) }
     (s.modCtx 0 0 fun c => { c with fetchNo := 1 }).stagedBefore 0 { c with fetchNo := 1 } = true) ∧
    (let s := sMir
     s.mirrorRoom 0 16 = false ∧ s.ceFree 0 = true ∧ s.ctx 0 0 = some (cSend 2 101) ∧ s.stagedBefore 0 (cSend 2 101) = false ∧
       s.mayWork 0 0 true = true ∧ s.commitPassed (s.effTarget 0 101 0) = false) ∧
    (let s := sCtx 2 [] (cSend 2 101)
     (cSend 2 101).fTb = true ∧ s.commitPassed (s.effTarget 0 100 0) = true ∧ s.commitPassed (s.effTarget 0 101 0) = false ∧
     seqAfter ((101 + 2 ^ 48 - s.lookahead 0) % 2 ^ 48) s.tickNum = false ∧ seqAfter ((200 + 2 ^ 48 - s.lookahead 0) % 2 ^ 48) s.tickNum = true ∧
     s.commitPassed (s.effTarget 0 200 0) = false ∧ (s.dmaCheck 0 allCap pLOAD 0x400 16 false).toBool = true ∧
     (s.dmaReadable 0 0x400 16).toBool = true ∧ cutFrames (cSend 2 101).fsize (s.dmaBytes 0 0x400 16) = [List.replicate 16 0]) ∧
    (⟨0x401, 0x1000, 0xFFF, 0, false⟩ : Cap).check 0x400 16 pLOAD ≠ none := by
  decide +kernel

/-- The pool of CE_A has room for a frame of 16 bytes, wherever it goes. -/
theorem wit_CommandResults_seal :
    ((sCtx 2 [] (cSend 2 101)).poolArea 0).1 = 0x4900000 ∧ ((sCtx 2 [] (cSend 2 101)).poolArea 0).2 = 2 ^ 20 ∧
    (sCtx 2 [] (cSend 2 101)).poolFree 0 0x4900000 16 = true ∧
    cutFrames (cSend 2 101).fsize ((sCtx 2 [] (cSend 2 101)).dmaBytes 0 0x400 16) = [List.replicate 16 0] := by
  decide +kernel

/-- The region table of partition 0 lies in DATA. -/
def lowTable (s : State) : State :=
  { s.setReg (oPRT_RDT 0) (BitVec.ofNat 64 (7 * 2 ^ 48 + 99 * 2 ^ 15)) with
    mem := s.mem.putRaws (99 * 2 ^ 21) [BitVec.ofNat 64 (2 ^ 63 + 100 * 2 ^ 21), BitVec.ofNat 64 (2 ^ 63 + 2 ^ 62 + 101 * 2 ^ 21)] }

theorem wit_CommandResults_complete :
    (∀ c ∈ [mkCtx [w0 0xB 1, 0, 0, 0] (.done 0 0), { mkCtx [w0 8 0, 0x220, 0, 0] (.done 0 0) with jumps := 62 },
        { mkCtx [w0 9 3, 0, 0, 0] .waiting with target := 100 }, { mkCtx [w0 9 3, 0, 0, 0] .waiting with target := 101 },
        mkCtx [w0 0xB 0, 0, 0, 0] (.done 255 255), mkCtx [w0 1 1, 0, 0, 0] (.done 1 0)],
      (sCtx 2 [] c).ctx 0 0 = some c ∧ (sCtx 2 [] c).ceState 0 ≠ ceRECOVERING ∧ (sCtx 2 [] c).ceState 0 ≠ ceOFF ∧ c.fIrq = false ∧
        c.fRec = false) ∧
    (let s := sCtx 2 [] (mkCtx [] .fetch)
     s.ringWait[(0 : Fin 8)] = [] ∧ s.ringRoom 0 = true ∧ (s.setReg (oPRT_CRIDX 0) 4).ringRoom 0 = false ∧
     seqAfter (s.effTarget 0 100 0) s.tickNum = false ∧ seqAfter (s.effTarget 0 101 0) s.tickNum = true) ∧
    (let s := lowTable (sCtx 2 [] (mkCtx [] .fetch))
     s.ringRoom 0 = true ∧ s.ringWait[(0 : Fin 8)] = [] ∧ Fresh s ∧ s.rdtAddr 0 0 + 8 ≤ dataEnd ∧
     s.rdtAddr 0 0 + 8 ≤ s.dmaPa 0 (s.ringSlot 0)) ∧
    (let c := mkCtx [w0 0xB 1, 0, 0, 0] (.stalled ⟨[0, 0, 0, 0], true⟩ true)
     (sCtx 2 [] c).ctx 0 0 = some c ∧ c.op ≠ 8) := by
  simp only [Fresh]; decide +kernel

/-- CE_A in state st, with or without a program waiting in its queue. -/
def sE (st : Nat) (q : List Prog) (f : Engine → Engine) : State :=
  ({ dev (engRegs st) with mem := memOf [(0x400, allCap.pair.1), (0x408, allCap.pair.2), (0x410, wd 0x200 0), (0x418, wd 0 0)] }).modEng 0
    fun g => f { g with queue := q }
def prog0 : Prog := ⟨0, 1, allCap, 0x200, false, 0, false⟩

theorem wit_EngineResults_control :
    (∀ s ∈ [sE 0 [] id, sE 1 [] id, sE 2 [] id, sE 2 [prog0] id, sE 3 [] id, sE 4 [] id, sE 1 [] fun g => { g with retired := true }],
      Manager s .pf0 ∧ s.fld (oNI (56 + 0) 0) 1 0 = 0 ∧ s.roleRuns = true ∧ s.flag (oCE_CTL 0) 0 = true ∧ ∀ x, s.ctx 0 x = none) ∧
    ((sE 2 [prog0] id).ceWorks 0 = true ∧ (sE 3 [] id).ceWorks 0 = true ∧ ((sE 2 [prog0] id).eng 0).queue = [prog0] ∧
      (prog0.part.val = (0 : BitVec 4).toNat ∧ prog0.pgm = 1)) := by
  simp only [Manager]; decide +kernel

theorem wit_EngineResults_doorbell :
    (∀ s ∈ [sE 2 (List.replicate 7 prog0) id, sE 2 (List.replicate 8 prog0) id, sE 1 [] id], let s := s.setReg (oPRT_CSTART 0) 0x101
      let ea := s.fld (oPRT_CSTART 0) 63 13 * 8192 + 32 * 0
      s.fld (oPRT_CSTART 0) 8 0 = 257 ∧ ea = 0 ∧ (s.dmaMap 0 ea 32 false).toBool = true) ∧
    (let s := (sE 2 (List.replicate 7 prog0) id).setReg (oPRT_CSTART 0) 0x21
     let ws := s.dmaWords 0 (32 * 32) 4
     let w := fun i => ws.getD i TWord.raw0
     min 256 (s.fld (oPRT_CSTART 0) 8 0) = 33 ∧ (s.dmaMap 0 0x400 32 false).toBool = true ∧ (∀ y ∈ ws, y.poison = false ∧ tagReserved y.tag = false) ∧
     (w 3).data.toNat = 0 ∧ Cap.ofPair (w 0) (w 1) = some allCap ∧ (w 2).tag = tagRAW ∧ (w 3).tag = tagRAW ∧ (w 2).data.toNat % 32 = 0 ∧
     allCap.check (w 2).data 32 (pPORT ||| pLOAD) = none ∧ s.epOwnerNow 0 0 = 0 ∧ s.ceState 0 = ceRUNNING ∧ s.roleRuns = true ∧
     (s.eng 0).queue.countP (fun p => p.part = 0) = 7) ∧
    -- a start-table entry whose first word is poisoned
    (let s := (sE 2 [] id).setReg (oPRT_CSTART 0) 0x21
     let s := { s with mem := s.mem.setPoison (base0 + 0x400) true }
     let ws := s.dmaWords 0 (32 * 32) 4
     let w := fun i => ws.getD i TWord.raw0
     (s.dmaMap 0 0x400 32 false).toBool = true ∧ (w 0).poison = true ∧ tagReserved (w 0).tag = false ∧ (w 3).poison = false ∧
       tagReserved (w 3).tag = false ∧ bits (w 3).data 3 0 = 0) := by
  decide +kernel

theorem wit_EngineResults_cancel :
    (let c := mkCtx [w0 9 2, 0, 0, 0] .waiting
     let s := sCtx 2 [] c
     s.ceState 0 = ceRUNNING ∧ (s.eng 0).queue = [] ∧ s.ctx 0 0 = some c ∧ (∀ y, y ≠ 0 → s.ctx 0 y = none) ∧ s.xf.slots = [] ∧
     c.phase = .waiting ∧ c.staged = [] ∧ s.ringWait[(0 : Fin 8)] = [] ∧ s.ringRoom 0 = true ∧ c.prog.part.val = (0 : BitVec 4).toNat ∧ c.prog.pgm = 1) ∧
    (∀ p ∈ ((sE 2 [prog0] id).eng 0).queue, p.part.val ≠ (7 : BitVec 4).toNat) := by
  decide +kernel

/-- Fault times: within the last second none, one or two. -/
theorem wit_EngineResults_fault :
    (∀ n ∈ [0, 1, 2], let s := sE 2 [] fun g => { g with faultTimes := List.replicate n 0 }
      (s.eng 0).retired = false ∧ ((s.eng 0).faultTimes.filter fun t => (1000000000 : Word).toNat ≤ t.toNat + 1000000000).length = n ∧
        s.ceWorks 0 = true ∧ s.ceState 0 ≠ ceOFF ∧ (s.eng 0).queue = []) ∧
    (sE 1 [] id).ceWorks 0 = false ∧ (sE 2 [] id).ceState 0 ≠ ceRECOVERING ∧
    (∀ a ∈ [2, 3], let s := sE 4 [] fun g => { g with after := a, stopDue := true }
      s.ceState 0 = ceRECOVERING ∧ (s.eng 0).hadActive = [] ∧ (s.eng 0).after = a) ∧
    (∀ d ∈ [mkCtx [w0 0x40 0] .routine, mkCtx [w0 3 0x20] .job, mkCtx [w0 2 0] .posted, mkCtx [w0 9 2] .waiting, mkCtx [w0 1 0] .sending,
        mkCtx [w0 1 2] .sealedCmd, mkCtx [w0 1 2] .staging, mkCtx [w0 1 0] .staging],
      let s := (sCtx 4 [] d 15).modEng 0 fun g => { g with after := 2 }
      s.ctx 0 15 = some d ∧ (∀ z, z ≠ 15 → s.ctx 0 z = none) ∧ (s.eng 0).hadActive = [] ∧ (s.eng 0).after = ceRUNNING ∧
        (s.eng 0).stopDue = false ∧ d.gcmDecrypt = none ∧ d.staged = []) := by
  decide +kernel


/-! Witnesses: the journal and the ports. -/

/-- A journal entry of endpoint 3 of unit 0 in state st, with flag bits f, for tick t, sent at time w. -/
def jen (st f t w rtx : Nat) : JEntry :=
  ⟨0, 3, 41010, st, 0, BitVec.ofNat 8 f, t, 7, 16, 0x4900000, rtx, 0, 1, 0, BitVec.ofNat 64 w, 0⟩
/-- Registers of a unit whose port is in link state l with epoch 7, in the role v; tick 100 is current; CE_A is running. -/
def jRegs (l v : Nat) : List (Nat × Word) := partRegs ++
  [(oTWN_STAT, BitVec.ofNat 64 v), (oPORT_CTL 0, 0x85), (oPORT_STAT 0, BitVec.ofNat 64 (7 * 2 ^ 32 + l)), (oTCK_NUM, 100),
   (oJNL_PORT 0, BitVec.ofNat 64 (4 * 2 ^ 40)), (oCE_EPOWN 0 0, 0xFFFFFFFFFFFF0FFF), (oJNL_OSEQ 0 3, 41020), (oJNL_ISEQ 0 3, 50),
   (oPRT_CRING 0, 0x1002), (oJNL_POOL 0, 0x100000000)]
/-- A unit whose journal holds, at slot 5, entry e; its port is q. -/
def sJ (l v : Nat) (e : Option JEntry) (q : Port) : State :=
  let s := { dev (jRegs l v) with mem := memOf [] }
  let s := s.modPort 0 fun _ => q
  match e with
  | some e => (s.putEntry 0 5 e).modJn 0 fun j => { j with slots := [5], sentHi := [(3, 41015)] }
  | none => s.modJn 0 fun j => { j with sentHi := [(3, 41015)] }
/-- A port with credit c, of which nothing is used. -/
def pCredit (c : Nat) : Port := { Port.reset with txCount := c, partner := [(3, 9)], ackDue := [(3, 2)], epochOpen := [3], rxFreed := 4 }

theorem wit_JournalEvents :
    (CopiesOk (sJ 5 0 (some (jen jSENT 0 0 0 0)) (pCredit 2)) 0 5 ∧
      (let s := sJ 5 0 (some (jen jSENT 0 0 0 0)) (pCredit 2)
       let now := fun (w : Word) => (s.advanceTo w).now.toNat
       5 ∈ (s.jn 0).slots ∧ (s.entry 0 5).state = jSENT ∧ 10000 ≤ now 10000 ∧ now 9999 < 10000 ∧
         (s.fld (oJNL_PORT 0) 31 16) = 0 ∧ s.fld (oJNL_PORT 0) 47 40 = 4)) ∧
    (sJ 5 0 none (pCredit 2)).jn 0 = { (sJ 5 0 none (pCredit 2)).jn 0 with slots := [], rdWait := [], aborts := [] } ∧
    (∀ x ∈ [(jen jRESEND 0 0 0 3, 1), (jen jRESEND 0 0 0 4, 1), (jen jRESEND 0 0 0 0, 0)],
      let s := sJ 5 0 (some x.1) (pCredit x.2)
      let q := s.port 0
      (s.jn 0).slots = [5] ∧ (s.jn 0).rdWait = [] ∧ (s.jn 0).mirEntry = [] ∧ (s.jn 0).aborts = [] ∧ (s.entry 0 5).state = jRESEND ∧ CopiesOk s 0 5 ∧
        s.portLive 0 = true ∧ q.fenced = false ∧ s.payloadOk (s.entry 0 5).payload = true ∧ (s.entry 0 5).len ≤ 8192 ∧
        (decide (4 ≤ (s.entry 0 5).rtx) = decide (x.1.rtx = 4)) ∧
        decide (q.txUsed + blocks (s.wireBytes 0 (s.entry 0 5)).length ≤ q.txAdv + q.txCount) = decide (x.2 = 1)) ∧
    (let s := sJ 5 0 (some (jen jRESEND 0 0 0 0)) (pCredit 1)
     let s := { s with mem := { s.mem with poison := [journalBase + 0x4900000] } }
     CopiesOk s 0 5 ∧ (s.entry 0 5).keeps = true ∧ (s.entry 0 5).flag 2 = false ∧ s.payloadOk (s.entry 0 5).payload = false ∧
       s.covered 0 5 = false) ∧
    (let s := (sJ 5 0 (some (jen jHELD 0 0 0 0)) (pCredit 1)).setReg (oJNL_HOLD 0) 8
     Manager s .pf0 ∧ (4 : Word) &&& s.reg (oJNL_HOLD 0) = 0 ∧ s.flag (oJNL_HOLD 0) 3 = true ∧ (s.entry 0 5).state = jHELD ∧
       (s.entry 0 5).ep = 3 ∧ CopiesOk s 0 5) ∧
    (dev []).ready = true ∧ State.reset.ready = false ∧
    (let s := sJ 5 0 none (pCredit 1)
     s.portLive 0 = true ∧ (∃ a ∈ (s.port 0).ackDue, a.1 = (3 : EpId).val) ∧ ¬(∃ a ∈ (s.port 0).ackDue, a.1 = (4 : EpId).val) ∧
       (∀ a ∈ (s.port 0).heldAck, a.1 ≠ (3 : EpId).val) ∧ (∀ a ∈ (s.port 0).acked, a.1 ≠ (4 : EpId).val)) ∧
    (sJ 0 0 none (pCredit 1)).portLive 0 = false := by
  simp only [Manager, CopiesOk]; decide +kernel

/-- Numbers that are held back, acknowledged and accepted; an entry that awaits the twin. -/
theorem wit_JournalEvents_acks :
    (let s := sJ 5 0 none { pCredit 1 with heldAck := [(3, 48, 0)], acked := [(3, 47)], accepted := [(3, 9)] }
     (s.port 0).heldAck.find? (fun a => a.1 = (3 : EpId).val) = some (3, 48, 0) ∧
       (s.port 0).acked.find? (fun a => a.1 = (3 : EpId).val) = some (3, 47) ∧
       (s.port 0).accepted.find? (fun a => a.1 = (3 : EpId).val) = some (3, 9)) ∧
    (let s := (sJ 5 0 (some (jen jRESEND 0 0 0 0)) (pCredit 1)).modJn 0 fun j => { j with mirEntry := [5] }
     (s.jn 0).slots = [5] ∧ 5 ∈ (s.jn 0).mirEntry ∧ CopiesOk s 0 5) := by
  simp only [CopiesOk]; decide +kernel

/-- The journal entry of the Towpath, to be sent again; CE_T is in state st, its dispatch entry 0 valid or not. -/
def sTowJ (st cd : Nat) : State :=
  (((((dev (jRegs 5 0)).putEntry 8 5 { jen jRESEND 0 0 0 0 with unit := 8 }).modJn 8 fun j => { j with slots := [5] }).setReg
    (oJNL_PORT 8) (BitVec.ofNat 64 (4 * 2 ^ 40))).setReg (oCE_STAT 8) (BitVec.ofNat 64 st)).setReg (oCE_CDISP 8 0) (BitVec.ofNat 64 cd)
theorem wit_JournalEvents_towpath :
    (∀ s ∈ [sTowJ 2 (2 ^ 63 + 0x3000), sTowJ 2 0], (s.jn 8).slots = [5] ∧ (s.jn 8).rdWait = [] ∧ (s.jn 8).mirEntry = [] ∧
      (s.entry 8 5).state = jRESEND ∧ (s.entry 8 5).rtx < 4 ∧ CopiesOk s 8 5 ∧ s.ceFree 8 = true ∧ s.roleRuns = true ∧
      s.payloadOk (s.entry 8 5).payload = true) ∧
    (sTowJ 2 (2 ^ 63 + 0x3000)).flag (oCE_CDISP 8 0) 63 = true ∧ (sTowJ 2 0).flag (oCE_CDISP 8 0) 63 = false ∧
    (sTowJ 1 0).ceFree 8 = false := by
  simp only [CopiesOk]; decide +kernel

theorem wit_PortSends :
    (sJ 5 0 none Port.reset).portLive 0 = true ∧ (sJ 0 0 none Port.reset).portLive 0 = false ∧ (sJ 0 0 none Port.reset).lstate 0 ≠ lsUP ∧
    (sJ 5 0 none (pCredit 1)).lstate 0 = lsUP ∧ ((sJ 5 0 none (pCredit 1)).port 0).rxFreed ≠ ((sJ 5 0 none (pCredit 1)).port 0).rxTold ∧
    (∀ x ∈ [(jen jREADY 0x10 100 0 0, 1), (jen jREADY 0x10 99 0 0, 0), (jen jREADY 0 0 0 0, 1)],
      let s := sJ 5 0 (some x.1) (pCredit x.2)
      let q := s.port 0
      let e := s.entry 0 5
      q.fenced = false ∧ q.epochDue = [] ∧ (s.jn 0).aborts = [] ∧ (s.jn 0).slots = [] ++ 5 :: [] ∧ e.state = jREADY ∧
        e.flag 4 = x.1.flag 4 ∧ seqAfter e.tick s.tickNum = false ∧ s.entryReadable e = true ∧ CopiesOk s 0 5 ∧ e.len ≤ 8192 ∧
        decide (q.txUsed + blocks (s.wireBytes 0 e).length ≤ q.txAdv + q.txCount) = decide (x.2 = 1)) ∧
    (let s := sJ 5 0 none (pCredit 1)
     (3 : EpId).val ∈ (s.port 0).epochOpen ∧ s.epOwner 0 3 = 0 ∧ (4 : EpId).val ∉ (s.port 0).epochOpen ∧ 8 ≤ s.epOwner 0 5) := by
  simp only [CopiesOk]; decide +kernel

/-- A well-formed frame of endpoint 3. -/
def fr (ty seq epoch flags : Nat) (bs : List Byte) : Frame := mkFrame ty 3 seq epoch flags false 100 bs

theorem wit_PortReceives_link :
    (∀ ty < 8, (fr ty 1 7 0 []).good = true ∧ (fr ty 1 7 0 []).ty = ty ∧ (fr ty 1 7 0 []).ep = 3) ∧
    ({ fr 1 1 7 0 [] with crc := 0 } : Frame).good = false ∧ (fr 1 1 7 0 (List.replicate 16 0)).good = true ∧
    (sJ 5 3 none (pCredit 1)).roleRuns = false ∧ (sJ 5 3 none (pCredit 1)).lstate 0 = lsUP ∧
    (sJ 5 0 none (pCredit 1)).portLive 0 = true ∧ (sJ 4 0 none (pCredit 1)).lstate 0 ≠ lsUP ∧
    (∀ a ∈ ((sJ 5 0 none (pCredit 1)).port 0).heldAck, a.1 ≠ 3) ∧
    ((sJ 5 0 none (pCredit 1)).partnerEpoch 0 3 = some 9 ∧ (sJ 5 0 none (pCredit 1)).epOwner 0 3 < 8 ∧
      8 ≤ (sJ 5 0 none (pCredit 1)).epOwner 0 5 ∧ (sJ 5 0 none (pCredit 1)).partnerEpoch 0 4 = none ∧
      isAfter 16 8 9 = false ∧ isAfter 16 10 9 = true ∧ (fr 5 1 10 0 []).epoch = 10) ∧
    ((∀ d ∈ ((sJ 5 0 none (pCredit 1)).eng (pu 0)).delivered, d.ep ≠ 3) ∧
      (let s := (sJ 5 0 none (pCredit 1)).modEng 0 fun g => { g with delivered := [⟨3, [77], 1, 0x200, 0, false⟩] }
       let f := fr 6 77 7 0 (leBytes 8 77)
       (s.eng (pu 0)).delivered = [⟨3, [77], 1, 0x200, 0, false⟩] ∧ f.ty = 6 ∧ f.ep = 3 ∧ [77] = [f.seq] ∧ f.payload = leBytes 8 f.seq ∧
         f.good = true ∧ ownerPart (s.epOwner 0 3) = some 0)) := by
  decide +kernel

theorem wit_PortReceives_ack :
    (let s := sJ 5 0 (some (jen jSENT 0 0 0 0)) (pCredit 1)
     (fr 3 1 7 0 [0]).len % 8 ≠ 0 ∧ 32 < (fr 3 1 7 0 (List.replicate 40 0)).len ∧ (fr 3 1 7 0 (List.replicate 32 0)).len ≤ 32 ∧
     isAfter 16 (fr 3 1 8 0 []).epoch (s.portEpoch 0) = true ∧ s.fld oTWN_STAT 3 0 = 0 ∧ isAfter 16 6 (s.portEpoch 0) = false ∧
     (fr 3 1 7 0 []).epoch = s.portEpoch 0 ∧ (s.jn (pu 0)).slots = [5] ∧ CopiesOk s 0 5 ∧ s.mirrors 0 = false ∧ (s.entry 0 5).ep = 3 ∧
     s.sentHi 0 3 = some 41015 ∧ seqAfter 41010 41015 = false ∧ seqAfter (s.entry 0 5).seq (fr 3 41010 7 0 []).seq = false ∧
     (s.entry 0 5).state ≠ jWRITTEN ∧
     (let f := fr 3 41009 7 0 (leBytes 8 (41010 + 2 ^ 48))
      f.payload = leBytes 8 ((s.entry 0 5).seq + 2 ^ 48) ∧ f.len = 8 ∧ seqAfter (s.entry 0 5).seq f.seq = true ∧ seqAfter 41010 41015 = false ∧
        (s.entry 0 5).state = jSENT)) ∧
    (let s := sJ 5 2 none (pCredit 1)
     s.fld oTWN_STAT 3 0 = 2 ∧ (∀ e, s.ceWorks e = false) ∧ s.portLive 0 = true) ∧
    (let s := sJ 5 0 none (pCredit 1)
     (s.jn (pu 0)).slots = [] ∧ s.sentHi 0 3 = some 41015 ∧ seqAfter (fr 3 41016 7 0 []).seq 41015 = true ∧
       seqAfter (s.oseq 0 3) 41020 = false ∧ seqAfter 41020 41015 = true) := by
  simp only [CopiesOk]; decide +kernel

/-- A RECV for endpoint 3 with room for n bytes at 0x400. -/
def cRecv (n : Nat) : Ctx :=
  ⟨⟨0, 1, allCap, 0x200, false, 0, false⟩, .posted, [BitVec.ofNat 64 (0x302 + n * 2 ^ 32), 0x400, 0, 0], 0, 0, 0,
    [], [], [], 0, 0, 0, [], [], 0, 0, [BitVec.ofNat 64 (0x302 + n * 2 ^ 32), 0x400, 0, 0], 0, false⟩
/-- It waits in context 0 of CE_A. -/
def sRecv (n : Nat) : State :=
  (sJ 5 0 none (pCredit 1)).modEng 0 fun g => { g with ctx := g.ctx.set 0 (some (cRecv n)), posted := [0] }

theorem wit_PortReceives_data :
    (let s := sJ 5 0 none (pCredit 1)
     let q := s.port 0
     let f := fr 1 50 9 1 (List.replicate 16 7)
     s.portLive 0 = true ∧ f.good = true ∧ f.ty = 1 ∧ q.rxUsed + blocks f.len ≤ 3072 + q.rxTold ∧
     s.partnerEpoch 0 f.ep = some 9 ∧ (9 : BitVec 16).toNat = f.epoch ∧ f.seq = s.iseq 0 f.ep ∧ (∀ z ∈ q.pool, z.1 ≠ f.ep) ∧ f.poison = false ∧
     s.recvFor (pu 0) f.ep = none ∧ s.poolRoom 0 f = true ∧ (∀ a ∈ q.heldAck, a.1 ≠ f.ep) ∧
     (fr 1 50 8 1 []).epoch ≠ 9 ∧ (fr 1 49 9 1 []).seq ≠ s.iseq 0 3 ∧ seqAfter 49 (s.iseq 0 3) = false ∧ seqAfter (fr 1 51 9 1 []).seq (s.iseq 0 3) = true) ∧
    ¬(({ pCredit 1 with rxUsed := 3072 } : Port).rxUsed + blocks 0 ≤ 3072 + (pCredit 1).rxTold) ∧
    (({ pCredit 1 with rxUsed := 3071 } : Port).rxUsed + blocks 236 ≤ 3072 + (pCredit 1).rxTold) ∧ blocks 237 = 2 := by
  decide +kernel

theorem wit_PortReceives_recv : ∀ n ∈ [16, 20],
    (sRecv n).recvFor (pu 0) 3 = some (0, cRecv n) ∧ (cRecv n).stages = [] ∧ 16 ≤ (cRecv n).count - (cRecv n).got.length ∧
      (cRecv n).count = n ∧ (∀ a ∈ ((sRecv n).port 0).heldAck, a.1 ≠ 3) ∧ (∀ z ∈ ((sRecv n).port 0).pool, z.1 ≠ 3) ∧ ((sRecv n).dmaCheck 0 allCap pSTORE (((cRecv n).w 1).toNat + (cRecv n).got.length) 16 true).toBool = true ∧
      (fr 1 50 9 1 (List.replicate 16 7)).eom = true ∧ (fr 1 50 9 0 (List.replicate 16 7)).eom = false ∧ (sRecv n).xf.slots = [] := by
  decide +kernel

theorem wit_TrainingAndLines_port :
    (∀ l < 6, (sJ l 0 none Port.reset).lstate 0 = l ∧ (sJ l 0 none Port.reset).flag (oPORT_CTL 0) 0 = true ∧
      portCfgOk ((sJ l 0 none Port.reset).reg (oPORT_CTL 0)) = true ∧ (sJ l 0 none Port.reset).domainOn 20 = true ∧
      (sJ l 0 none Port.reset).fld oCFG_STAT 2 0 ≠ 3 ∧ (sJ l 0 none Port.reset).reg (oJNL_HOLD 0) = 0) ∧
    ¬(portCfgOk ((sJ 0 0 none Port.reset).setReg (oPORT_CTL 0) 0x45 |>.reg (oPORT_CTL 0)) = true) ∧
    (let f := mkFrame 7 0 0 7 0 false 100 (wordBytes [0x0C00008F, 8192])
     f.good = true ∧ f.ty = 7 ∧ f.len = 16) ∧
    ((sJ 5 0 none Port.reset).fld (oNI (56 + 0) 0) 1 0 = 0 ∧ Manager (sJ 5 0 none Port.reset) .lkp) ∧
    (let s := (sJ 5 0 none Port.reset).setReg (oPORT_STAT 0) (BitVec.ofNat 64 (7 * 2 ^ 32 + 15 * 2 ^ 20 + 5))
     s.lstate 0 = lsUP ∧ s.flag (oPORT_STAT 0) 20 = true ∧ s.flag (oPORT_STAT 0) 23 = true) ∧
    (sJ 5 0 none Port.reset).flag (oPORT_STAT 0) 20 = false ∧ (sJ 5 0 none Port.reset).fld (oPORT_CTL 0) 31 16 = 0 ∧
    ((sJ 5 0 none Port.reset).setReg (oPORT_CTL 0) 0x10085).fld (oPORT_CTL 0) 31 16 ≠ 0 ∧
    ((sJ 4 0 none Port.reset).port 0).partnerLanes = none ∧
    (∀ x ∈ [((15 : BitVec 4), (3 : BitVec 4)), (1, 2)],
      let q := { Port.reset with lanes := x.1, partnerLanes := some x.2 }
      ((sJ 4 0 none q).port 0).partnerLanes = some x.2 ∧ (sJ 4 0 none q).reg (oJNL_HOLD 0) = 0 ∧ q.epochDue = []) ∧
    ((15 : BitVec 4) &&& 3 ≠ 0 ∧ (1 : BitVec 4) &&& 2 = 0) ∧
    (widest 0xF 0x8 = 0x3 ∧ widest 0xF 0xF = 0 ∧ widest 0xF 0x1 ≠ 0) := by
  simp only [Manager]; decide +kernel

/-- Line 0 of the Towpath interrupts is enabled: at least 10 units of time between events, at most nmax in a window. -/
def sTow (nmax : Nat) (f : TickUnit → TickUnit) : State :=
  let s := dev [(oTOW_INT 0, BitVec.ofNat 64 (nmax * 2 ^ 32 + 2 ^ 16 + 1))]
  { s with tick := f s.tick }

theorem wit_TrainingAndLines_lines :
    ((dev []).flag (oTOW_INT 0) 0 = false) ∧
    (let s := sTow 2 id
     s.flag (oTOW_INT 0) 0 = true ∧ s.tick.tpActive.getLsbD 0 = false ∧ s.flag oTOW_INTSTAT 20 = false ∧ s.tick.tpLast[(0 : Fin 4)] = none ∧
     s.tick.tpCount[(0 : Fin 4)] < 2 ∧ Manager s .pf0 ∧ s.fld (oNI 64 0) 1 0 = 0) ∧
    (let s := sTow 2 fun t => { t with tpActive := 1 }
     s.tick.tpActive.getLsbD 0 = true ∧ (s.setReg oTOW_INTSTAT 0x100000).flag oTOW_INTSTAT 20 = true) ∧
    (let s := sTow 2 fun t => { t with tpLast := t.tpLast.set 0 (some 5) }
     s.tick.tpLast[(0 : Fin 4)] = some 5 ∧ (s.advanceTo 14).now.toNat < 5 + 10 ∧ ¬((s.advanceTo 15).now.toNat < 5 + 10)) ∧
    (let s := sTow 2 fun t => { t with tpCount := t.tpCount.set 0 2 }
     s.tick.tpLast[(0 : Fin 4)] = none ∧ 2 ≤ s.tick.tpCount[(0 : Fin 4)]) := by
  simp only [Manager]; decide +kernel

/-! Witnesses: the cipher and compression engines. -/

theorem wit_CipherRoundTrips : ∀ m ∈ [2, 3, 4, 5, 6],
    let w0 := BitVec.ofNat 64 (1 + m * 16)
    bits w0 3 0 = 1 ∧ bits w0 7 4 = m ∧ bits w0 25 24 ≠ 3 ∧ (List.replicate 16 (0 : Byte)).length = 16 ∧ ([1, 2, 3] : List Byte).length ≤ 2 ^ 32 := by
  decide +kernel

/-- A job stage: descriptor words 0 and 2, input, and whether it ran, with a status. -/
def stg (d0 d1 d2 : Nat) (inp : List Byte) (ran : Bool) (st : Nat) : Stage :=
  let d := [BitVec.ofNat 64 d0, BitVec.ofNat 64 d1, BitVec.ofNat 64 d2, 0, 0, 0, 0, 0]
  { Stage.fresh d with inp := inp, ran := ran, status := st }
/-- It is the one stage of the command of operation op in context 0 of CE_A. -/
def sStage (op : Nat) (g : Stage) : State := sCtx 2 [] { mkCtx [w0 op 0x20, 0x400, 0, 0] .job with stages := [g] }

/-- ENCRYPT in CTR mode, in CBC mode with one byte too few, DECRYPT in CTR mode, COMPRESS of level 6, DECOMPRESS of nothing and of a bad block. -/
def stages0 : List Stage :=
  [stg (1 + 0x20 + 2 ^ 21) 0 0 [1] false 0, stg (1 + 0x10 + 2 ^ 21) 0 0 [1] false 0, stg (2 + 0x20 + 2 ^ 21) 0 0 [1] false 0,
   stg (3 + 6 * 2 ^ 16 + 2 ^ 21) 0 0 [1] false 0, stg 4 0 0 [] false 0, stg (4 + 2 ^ 21) 0 0 [7] false 0, stg 9 0 0 [] false 0,
   stg 8 0x500 51 [] false 0, stg 8 0x500 52 [] false 0]

theorem wit_TransformResults_stages :
    (∀ g ∈ stages0, let s := sStage 3 g
      let c : Ctx := { mkCtx [w0 3 0x20, 0x400, 0, 0] .job with stages := [g] }
      s.ctx 0 0 = some c ∧ c.phase = .job ∧ s.ceWorks 0 = true ∧ g.ran = false ∧ g.orig = g.desc ∧ g.segs = [] ∧ g.emitted = 0 ∧
        dResume g.desc = false ∧ dDict g.desc = false) := by
  decide +kernel

theorem wit_TransformResults_outcomes :
    (stages0.map fun g => dKind g.desc) = [1, 1, 2, 3, 4, 4, 9, 8, 8] ∧
    (stages0.take 3).map (fun g => (cipherRun g.desc [] [] (dFinal g.desc) g.inp g.inp).2) = [0, 7, 0] ∧
    ((stages0.drop 4).take 2).map (fun g => (inflateStream (dMode g.desc) none (dFinal g.desc) g.inp).2) = [0, 0x11] := by
  decide +kernel

theorem wit_TransformResults_keys :
    ((sStage 3 (stg 9 0 0 [] false 0)).dmaRead 0 allCap 0 0).toBool = true ∧
    (sStage 3 (stg 9 0 0 [] false 0)).slotBusy 0 = false ∧ (sStage 3 (stg 8 0x500 52 [] false 0)).slotBusy 0 = false ∧
    ((sStage 3 (stg 8 0x500 52 [] false 0)).modEng 1 fun g =>
      { g with ctx := g.ctx.set 0 (some { mkCtx [] .job with stages := [stg 1 0 0 [] false 0] }) }).slotBusy 0 = true := by
  decide +kernel

theorem wit_TransformResults_load :
    dWord (stg 8 0x500 51 [] false 0).desc 2 ∉ [52, 68, 100] ∧ dWord (stg 8 0x500 52 [] false 0).desc 2 ∈ [52, 68, 100] ∧
    State.reset.nv.parts[(0 : Fin 8)].seed = none := by
  decide +kernel

theorem wit_TransformResults_read :
    ((sStage 3 (stg 8 0x500 52 [] false 0)).dmaCheck 0 allCap pLOAD 0x500 52 false).toBool = true ∧
    ((sStage 3 (stg 8 0x500 52 [] false 0)).dmaReadable 0 0x500 32).toBool = true := by
  decide +kernel

/-- A key slot that holds a key, for KEYCLR. -/
def sHeld : State := { sStage 3 (stg 9 0 0 [] false 0) with xf := { Xform.reset with slots := [(0, ⟨some [], 1, 0, 0, false⟩)] } }
theorem wit_TransformResults_held : (sHeld.keySlot 0).key.isSome = true ∧ sHeld.slotBusy 0 = false := by
  decide +kernel

/-- A blob that opens: KTYPE 1, USAGE of CTR and encryption, slot 0, partition 0. -/
def blobKey : List Byte := List.replicate 16 3
def blobHead : List Byte := [0, 1, 0x44, 0, 0, 0, 0, 0]
def blob0 (kwk : List Byte) : List Byte :=
  blobHead ++ List.replicate 12 5 ++ gcmEnc (roundKeys kwk) (List.replicate 12 5) blobHead blobKey
theorem wit_TransformResults_blob (seed : List Byte) :
    openBlob (kwkOf 0 seed) 0 0 (blob0 (kwkOf 0 seed)) = some (blobKey, 1, 0x44) ∧ (blob0 (kwkOf 0 seed)).length = 52 := by
  have keys := Laws.roundKeys_shape (kwkOf 0 seed) (.inr (Laws.kwkOf_length 0 seed))
  have gcm := Laws.gcm_block (roundKeys (kwkOf 0 seed)) keys.2 (List.replicate 12 5) blobHead blobKey (by decide) (by decide)
  have len : (blob0 (kwkOf 0 seed)).length = 52 := by
    rw [blob0, List.length_append, gcm.1]; rfl
  have iv : ((blob0 (kwkOf 0 seed)).drop 8).take 12 = List.replicate 12 5 := rfl
  have head : (blob0 (kwkOf 0 seed)).take 8 = blobHead := rfl
  have body : (blob0 (kwkOf 0 seed)).drop 20 = gcmEnc (roundKeys (kwkOf 0 seed)) (List.replicate 12 5) blobHead blobKey := rfl
  refine ⟨?_, len⟩
  simp only [openBlob, iv, head, body, gcm.2, len]
  decide

theorem wit_TransformResults_ends :
    (∀ x ∈ [(3, stg 9 0 0 [] true 0), (1, stg (3 + 6 * 2 ^ 16 + 2 ^ 21) 0 0 [] true 0), (2, stg (3 + 6 * 2 ^ 16 + 2 ^ 21) 0 0 [] true 0),
        (3, stg (2 + 0x50 + 2 ^ 21) 0 0 [] true 9), (1, stg (3 + 6 * 2 ^ 16) 0 0 [] true 0), (3, stg 9 0 0 [] false 0)],
      let s := sStage x.1 x.2
      let c : Ctx := { mkCtx [w0 x.1 0x20, 0x400, 0, 0] .job with stages := [x.2] }
      s.ctx 0 0 = some c ∧ c.phase = .job ∧ s.ceWorks 0 = true ∧ s.xf.slots = [] ∧ c.op = x.1 ∧ dWord x.2.desc 7 = 0 ∧
        x.2.out.length ≤ c.dlen ∧ (s.dmaCheck 0 allCap pSTORE c.dest 0 true).toBool = true ∧ dWord x.2.desc 4 = 0) ∧
    (isKeyJob (stg 9 0 0 [] true 0).desc = true ∧ isKeyJob (stg (3 + 6 * 2 ^ 16 + 2 ^ 21) 0 0 [] true 0).desc = false ∧
      dFinal (stg (3 + 6 * 2 ^ 16 + 2 ^ 21) 0 0 [] true 0).desc = true ∧ dFinal (stg (3 + 6 * 2 ^ 16) 0 0 [] true 0).desc = false) ∧
    (let g : Stage := { stg (3 + 6 * 2 ^ 16 + 2 ^ 21) 0 0 [] true 0 with desc := [BitVec.ofNat 64 (3 + 6 * 2 ^ 16 + 2 ^ 21), 0, 0, 0, 0, 0, 0, 0x800] }
     dWord g.desc 7 = 0x800 ∧ dFinal g.desc = true ∧ ((sStage 1 g).dmaCheck 0 allCap pSTORE 0x800 32 true).toBool = true) ∧
    (let g : Stage := { stg (3 + 6 * 2 ^ 16) 0 0 [] true 0 with desc := [BitVec.ofNat 64 (3 + 6 * 2 ^ 16), 0, 0, 0, 0, 0, 0x1000, 0] }
     dWord g.desc 6 = 0x1000 ∧ dFinal g.desc = false ∧ kindIs .clane g.desc = true ∧ (sStage 1 g).dedicated .clane 1 = 0 ∧
     ((sStage 1 g).dmaCheck 0 allCap (pLOAD ||| pSTORE) 0x1000 131072 true).toBool = true ∧
     (sStage 1 g).jobs = [(0, 0, { mkCtx [w0 1 0x20, 0x400, 0, 0] .job with stages := [g] })]) ∧
    (State.reset.jobs = [] ∧
     (∀ n ∈ [0, 1, 2], ((List.replicate n ((0 : Nat), (0 : Word))).filter fun f => (1000000000 : Word).toNat ≤ f.2.toNat + 1000000000).countP
       (fun f => f.1 = 8 * 0 + (0 : Fin 8).val) = n)) := by
  decide +kernel

/-! Witnesses: the Canal network and the twin's roles. -/

/-- READY with registers l, and the network's own state as f leaves it. -/
def sNoc (l : List (Nat × Word)) (f : NocUnit → NocUnit) : State := { dev l with noc := f NocUnit.reset }

theorem wit_CanalNetwork_links :
    ((0 : Nat) < 2 ^ 48 ∧ (2 : Nat) ^ 48 - 1 < 2 ^ 48) ∧
    (dev [(oNOC_LINK, 1)]).flag oNOC_LINK (0 : Fin 15) = true ∧ (dev []).flag oNOC_LINK (0 : Fin 15) = false ∧
    (∀ n ∈ [14, 15], (sNoc [] fun u => { u with replays := List.replicate n (0, 0) }).noc.replays.countP (fun r =>
      decide (r.1 = (0 : Fin 15).val) && decide ((1000000 : Word).toNat ≤ r.2.toNat + 1000000)) = n) ∧
    (dev []).flag oNOC_LINK 20 = false ∧ (dev []).flag oNOC_LINK 4 = false ∧
    (dev [(oNOC_LINK, 0x10000)]).linkActive 0 = true ∧ (dev [(oNOC_LINK, 0x1F)]).linkActive 0 = false := by
  decide +kernel

/-- Routes to be armed: none, one that leads nowhere; a change already armed at time 0. -/
theorem wit_CanalNetwork_routes :
    (let s := dev []
     Manager s .pf0 ∧ s.fld oNOC_ROUTE 9 8 = 0 ∧ (s.niEntries.all fun e => s.routeOk e.1 e.2 (s.reg (oNI e.1 (0x400 + 8 * e.2)))) = true) ∧
    (let s := dev [(oNI 0 (0x400 + 8 * 70), BitVec.ofNat 64 (2 ^ 63))]
     Manager s .pf0 ∧ s.fld oNOC_ROUTE 9 8 = 0 ∧ (s.niEntries.all fun e => s.routeOk e.1 e.2 (s.reg (oNI e.1 (0x400 + 8 * e.2)))) = false) ∧
    (let s := dev [(oNOC_ROUTE, 0x300)]
     Manager s .pf0 ∧ s.flag oNOC_ROUTE 9 = true ∧ s.noc.armedAt.toNat + 2000 = 2000 ∧ ¬(2000 ≤ s.now.toNat)) ∧
    (let s := dev [(oNOC_ROUTE, 0x300), (oTCK_TIME, 2000)]
     s.flag oNOC_ROUTE 9 = true ∧ 2000 ≤ s.now.toNat ∧ s.fld oTCK_STAT 2 0 = 0) ∧
    (dev [(oNOC_ROUTE, 7)]).fld oNOC_ROUTE 7 0 = (7 : BitVec 8).toNat := by
  simp only [Manager]; decide +kernel

theorem wit_CanalNetwork_domains :
    (domainOf (.site 3) = some (3, 3) ∧ domainOf (.unit 0) = some (20, 56) ∧ domainOf .dalnos = some (29, 70)) ∧
    (let s := dev [(oCS_BIND 3, 0)]
     s.mayClose (.site 3) = true ∧ s.fld (oNI 3 0) 1 0 = 0 ∧ s.pwr.emergency = false ∧ s.fld (oNI 3 0) 1 0 ≠ 1) ∧
    (dev [(oCS_BIND 3, 2)]).mayClose (.site 3) = false ∧ (dev [(oNI 3 0, 1)]).fld (oNI 3 0) 1 0 = 1 ∧
    (dev [(oCE_STAT 0, 0)]).ceState 0 = ceOFF ∧
    (∃ y, gateBit (.pipe 2) = some y ∧ y.1 = 2) ∧ (dev [(oCIP_STAT, 4)]).mayClose (.pipe 2) = true := by
  refine ⟨by decide, by decide +kernel, by decide +kernel, by decide +kernel, by decide +kernel, ⟨_, rfl, rfl⟩, by decide +kernel⟩

/-- A request of 2 data flits from one NI to another. -/
def pkt (src dst : NiId) (c : PktClass) (part : Option PartId) (tb : Bool) : Packet := ⟨⟨c, part, 2, tb, 9⟩, src, dst⟩

/-- A CP's request, a service message, and bulk requests of a channel engine whose bucket has, or lacks, tokens for them and 3 flits of
response; the epoch of the table is 7. -/
theorem wit_CanalNetwork_packets :
    (∀ x ∈ [(pkt 3 56 .read (some 0) false, 0, false), (pkt 56 69 .regAccess none true, 3, false),
        (pkt 56 52 .write (some 0) true, 2, false), (pkt 56 52 .write (some 1) true, 0, true), (pkt 56 52 .write none true, 0, true),
        (pkt 69 67 .regAccess none false, 3, false)],
      let req := x.1
      let s := sNoc [(oNOC_ROUTE, 7)] fun u => { u with nis := u.nis.set 56 { u.nis[(56 : NiId)] with tokens := (Vector.replicate 8 0).set 0 6 } }
      let bound := req.tb && (decide (56 ≤ req.src.val ∧ req.src.val ≤ 67) || decide (req.src.val = 70))
      let service := decide (req.cls = .regAccess ∨ req.cls = .errorRecord ∨ req.cls = .maintenance)
      let room := match req.part with | some p => decide (1 + req.len.val + 3 ≤ (s.ni req.src).tokens[p]) | none => false
      req.src ≠ req.dst ∧ req.isRequest = true ∧
        (if req.src.val < 20 then 0 else if service then 3 else if bound && room then 2 else 0) = x.2.1 ∧
        (!decide (req.src.val < 20) && !service && bound && !room) = x.2.2 ∧
        (7 : BitVec 8).toNat = s.fld oNOC_ROUTE 7 0 ∧ (8 : BitVec 8).toNat ≠ s.fld oNOC_ROUTE 7 0) ∧
    (pkt 69 67 .regAccess none false).src.val = 69 := by
  decide +kernel

/-- A probe that watches port 2 of router 5 for headers from NI 3, with n captures so far. -/
def sProbe (one n : Nat) : State :=
  sNoc [(oPROBE 0 0, BitVec.ofNat 64 (one * 4096 + 2 * 256 + 5 * 2 + 1)), (oPROBE 0 8, BitVec.ofNat 64 (3 * 2 ^ 31)),
    (oPROBE 0 0x10, BitVec.ofNat 64 (127 * 2 ^ 31))] fun u => { u with probeN := u.probeN.set 0 n }
/-- The upper header bits of a request from NI n. -/
def hdrOf (n : NiId) : Word := (headFlit ⟨pkt n 56 .read (some 0) false, 7, 100, 0, false, 0, 0, 0⟩).extractLsb' 64 64

theorem wit_CanalNetwork_probes :
    ((0x177F : Word) &&& ~~~0x177F#64 = 0) ∧ Manager (dev []) .lkp ∧
    (∀ x ∈ [(0, 8), (1, 7), (1, 8)], let s := sProbe x.1 x.2
      let c := s.reg (oPROBE 0 0)
      s.flag (oROUTER_CTL 5) (16 + 2) = false ∧ bit c 0 = true ∧ bits c 6 1 = 5 ∧ bits c 10 8 = 2 ∧ bit c 12 = decide (x.1 = 1) ∧
        hdrOf 3 &&& s.reg (oPROBE 0 0x10) = s.reg (oPROBE 0 8) &&& s.reg (oPROBE 0 0x10) ∧
        hdrOf 4 &&& s.reg (oPROBE 0 0x10) ≠ s.reg (oPROBE 0 8) &&& s.reg (oPROBE 0 0x10) ∧ s.noc.probeN[(0 : Fin 8)] = x.2) := by
  simp only [Manager]; decide +kernel


theorem wit_TwinRoles_commands :
    (∀ r < 7, (sTwin r 0 1 id).role = r ∧ Manager (sTwin r 0 1 id) .pf0 ∧ (sTwin r 0 1 id).linkUp = false) ∧
    ((sTwin 4 0x40 1 fun t => { t with partner := 2 }).linkUp = true ∧ (sTwin 4 0x40 1 fun t => { t with partner := 2 }).twin.partner = rACTIVE) ∧
    (let s := sTwin 2 0xC0 1 fun t => { t with partner := 3 }
     s.role = rACTIVE ∧ s.twin.partner = rSTANDBY ∧ s.pathsGood = true ∧ Manager s .lkp ∧ (s.setReg oTCK_PERIOD 1000).period ≠ 0) ∧
    ((sTwin 1 0 3 id).flag oTWN_CTL 1 = true ∧ (sTwin 1 0 1 id).flag oTWN_CTL 1 = false ∧ (sTwin 1 0 3 id).role = rELECTING) ∧
    (let s := (sTwin 2 0 1 fun t => { t with handover := some 100 })
     s.twin.handover = some 100 ∧ seqAfter 100 s.tickNum = true ∧ seqAfter 100 (s.setReg oTCK_NUM 100).tickNum = false) ∧
    (let s := (sTwin 3 0x40 1 fun t => { t with partner := 2 })
     s.twin.handover = none ∧ s.role = rSTANDBY ∧ s.twin.partner = rACTIVE ∧ s.linkUp = true) ∧
    ((dev []).auxOn = true ∧ ({ dev [] with auxOn := false } : State).auxOn = false) := by
  simp only [Manager]; decide +kernel

/-- A heartbeat word of unit u in role r with DEVICE_FAIL f. -/
def hb (u r f : Nat) : Word :=
  let w := BitVec.ofNat 64 (0xD5 * 2 ^ 56 + u * 2 ^ 55 + r * 2 ^ 52 + f * 2 ^ 51)
  w ||| BitVec.ofNat 64 (crc8 w)

theorem wit_TwinRoles_heartbeats :
    (∀ x ∈ [(1, 2, 0), (1, 1, 0), (1, 5, 0), (1, 3, 1), (0, 3, 0)], let h := hb x.1 x.2.1 x.2.2
      bits h 63 56 = 0xD5 ∧ bits h 7 0 = crc8 h ∧ bits h 55 55 = x.1 ∧ bits h 54 52 = x.2.1 ∧ bit h 51 = decide (x.2.2 = 1)) ∧
    ¬(bits (0 : Word) 63 56 = 0xD5) ∧ (sTwin 1 0 1 id).fld oTWN_STAT 5 5 = 0 ∧ (sTwin 1 0 1 id).twinOn = true ∧ (sTwin 1 0 0 id).twinOn = false ∧
    ((sTwin 3 0 1 fun t => { t with pinsIgnored := true }).twin.pinsIgnored = true) ∧
    (∀ n ∈ [15, 16, 17], (sTwin 3 0 1 fun t => { t with hbBad := n }).twin.hbBad = n ∧
      (sTwin 3 0 1 fun t => { t with hbBad := n }).twin.pinsIgnored = false) ∧
    ((sTwin 2 0x40 1 id).role = rACTIVE ∧ (sTwin 2 0x40 1 id).twin.bulkSent = 0 ∧ (sTwin 2 0x40 1 id).linkUp = true) ∧
    (∀ x ∈ [(3, 0), (2, 0), (3, 3), (3, 4), (0, 4)],
      let s := sTwin 3 (if x.2 = 4 then 0x40 else 0) 1 fun t => { t with missPins := x.1, missLink := x.2 }
      s.twinOn = true ∧ s.twin.missPins + 1 = x.1 + 1 ∧ s.twin.missLink = x.2 ∧ s.linkUp = decide (x.2 = 4) ∧ s.role = rSTANDBY) ∧
    (let s := sTwin 3 0x40 1 fun t => { t with missPins := 4, missLink := 3 }
     s.twin.missLink + 1 = 4 ∧ 4 ≤ s.twin.missPins ∧ s.linkUp = true ∧ s.role = rSTANDBY) ∧
    ((sTwin 2 0x40 1 fun t => { t with mirrorOn := true }).twin.mirrorOn = true ∧
      ((sTwin 2 0x40 1 id).setReg (oJNL_PORT 0) 1).mirrorSet 0 = true) ∧
    ((dev []).domainOn 29 = true ∧ (dev [(oPWR_DOM 29, 2)]).domainOn 29 = false) := by
  decide +kernel

/-! Witnesses: Dalnos frames, partitions, Esfort. -/

/-- A well-formed Dalnos frame. -/
def df (ty u arg lseq : Nat) (p : List Byte) : DalFrame :=
  let h0 := BitVec.ofNat 64 (lseq * 2 ^ 16 + u * 2 ^ 12 + ty * 16 + 1)
  let h1 := BitVec.ofNat 64 (p.length * 2 ^ 34 + arg)
  ⟨h0, h1, p, crc32c (wordBytes [h0, h1] ++ p)⟩

theorem wit_DalnosFrames_link :
    (∀ ty < 11, (df ty 0 0 0 []).good = true ∧ (df ty 0 0 0 []).ty = ty ∧ (df ty 0 0 0 []).lseq = 0) ∧
    ({ df 1 0 0 0 [] with crc := 0 } : DalFrame).good = false ∧
    ((sTwin 3 0x40 1 id).linkUp = true ∧ (sTwin 3 0 1 id).linkUp = false ∧ (sTwin 3 0x40 1 id).twin.rxSeq = 0) ∧
    ((df 1 0 0 1 []).lseq = 1 ∧ seqAfter 1 0 = true ∧ seqAfter (df 1 0 0 (2 ^ 48 - 1) []).lseq 0 = false ∧ (2 ^ 48 - 1 ≠ 0)) ∧
    ((sTwin 5 0x40 1 id).role = rRESYNC ∧ (sTwin 2 0x40 1 fun t => { t with bulkSent := 1 }).role = rACTIVE ∧
      (sTwin 2 0x40 1 id).twin.bulkSent = 0 ∧ (sTwin 3 0x40 1 id).role ≠ rRESYNC) := by
  decide +kernel

/-- An entry without a payload, READY or WRITTEN, of unit 0. -/
def je (st : Nat) : JEntry := ⟨0, 3, 41010, st, 2, 8, 0, 7, 0, 0, 0, 0, 1, 0, 0, 0⟩
/-- The standby (role 3), or another role, holds it at slot 5. -/
def sHolds (r st : Nat) (f : TwinUnit → TwinUnit) : State :=
  let s := { sTwin r 0x40 1 f with mem := memOf [] }
  (s.setReg (oJNL_POOL 0) 0x100000000).putEntry 0 5 (je st) |>.modJn 0 fun j => { j with slots := [5] }

theorem wit_DalnosFrames_standby :
    (∀ r ∈ [3, 5], (sHolds r 2 id).role = r ∧ (sHolds r 2 id).linkUp = true ∧ (sHolds r 2 id).twin.rxSeq = 0) ∧
    ((sHolds 0 2 id).role ≠ rSTANDBY ∧ (sHolds 0 2 id).role ≠ rRESYNC) ∧
    (let f := df 1 0 0x4900000 0 (List.replicate 16 7)
     f.good = true ∧ f.ty = 1 ∧ dalUnit f = 0 ∧ f.arg % 2 ^ 30 % 64 = 0 ∧ ((sHolds 3 2 id).poolArea 0).1 ≤ f.arg % 2 ^ 30 ∧
       f.arg % 2 ^ 30 + f.len ≤ ((sHolds 3 2 id).poolArea 0).1 + ((sHolds 3 2 id).poolArea 0).2 ∧ ((sHolds 3 2 id).jn 0).mirPayload = []) ∧
    (let f := df 4 0 1 0 (leBytes 2 5)
     f.good = true ∧ f.ty = 4 ∧ ((sHolds 3 2 id).jn 0).slots = [5] ∧ CopiesOk (sHolds 3 2 id) 0 5 ∧ f.payload = leBytes 2 5 ∧ f.arg = 1 ∧
       ((sHolds 3 2 id).entry 0 5).keeps = false) ∧
    (∀ x ∈ [(1, []), (2, []), (2, [5])],
      let s := sHolds 2 x.1 fun t => { t with bulk := x.2 }
      s.role = rACTIVE ∧ (s.jn 0).slots = [5] ∧ (df 3 0 5 0 []).arg = 5 ∧ CopiesOk s 0 5 ∧ (s.entry 0 5).state = x.1 ∧ s.twin.bulk = x.2 ∧
        (s.entry 0 5).flag 3 = true) ∧
    (df 3 0 6 0 []).arg ∉ ((sHolds 2 1 id).jn 0).slots := by
  simp only [CopiesOk]; decide +kernel

theorem wit_DalnosFrames_entry :
    let e := JEntry.ofWords (je 2).words
    e.keeps = false ∧ (wordBytes (je 2).words).length = 64 ∧ JEntry.ofWords (bytesWords (wordBytes (je 2).words)) = e ∧
      ((sTwin 3 0x40 1 id).jn 0).slots = [] := by
  decide +kernel

/-- A frame whose CRC is computed from it is good where its header is: a STATE frame of 4,136 bytes. -/
theorem wit_DalnosFrames_state :
    (df 5 0 0 0 (List.replicate 4136 0)).good = true ∧ (df 5 0 0 0 (List.replicate 4136 0)).len = 4136 := by
  constructor
  · have n : (List.replicate 4136 (0 : Byte)).length = 4136 := List.length_replicate
    simp only [DalFrame.good, df, n, beq_self_eq_true, Bool.true_and, DalFrame.len, DalFrame.ty, DalFrame.unitj]
    decide
  · have n : (List.replicate 4136 (0 : Byte)).length = 4136 := List.length_replicate
    simp only [DalFrame.len, df, n]
    decide

/-- The source of the tick is the twin; TMIN is 1,000; nothing waits. -/
def sTickTwin (k e : Nat) : State :=
  let s := (dev [(oTWN_STAT, 0x43), (oTCK_STAT, BitVec.ofNat 64 k), (oTCK_FILT, 10), (oTCK_EDGE, BitVec.ofNat 64 e)])
  { s with tick := { s.tick with src := 5 } }

theorem wit_DalnosFrames_tick :
    (∀ x ∈ [(0, 0), (2, 0), (2, 501)], Still (sTickTwin x.1 x.2) ∧ (sTickTwin x.1 x.2).tick.srcDue = none ∧ (sTickTwin x.1 x.2).tkState = x.1 ∧
      (sTickTwin x.1 x.2).role = rSTANDBY ∧ (sTickTwin x.1 x.2).tick.src = 5 ∧ (sTickTwin x.1 x.2).now.toNat ≤ 1500 ∧
      (sTickTwin x.1 x.2).linkUp = true ∧ (decide ((sTickTwin x.1 x.2).edgeTime + (sTickTwin x.1 x.2).tmin ≤ 1500) = decide (x.2 = 0))) ∧
    (let f := df 7 0 0 0 (wordBytes [77, 1500])
     f.good = true ∧ f.ty = 7 ∧ f.len = 16 ∧ f.lseq = (sTickTwin 2 0).twin.rxSeq ∧
       ((bytesWords f.payload).getD 1 0).toNat + (sTickTwin 2 0).twin.linkDelay = 1500) := by
  simp only [still_iff]; decide +kernel

/-- A payload in the pool, and a request for it outstanding with tag 9 for slot 5. -/
def sPay : State :=
  let s := (sHolds 2 2 fun t => { t with rdTags := [(9, 0, 5)] })
  (s.putEntry 0 5 { je 2 with kind := 0, len := 16, doff := 0x4900000 }).modJn 0 fun j =>
    { j with pool := [(⟨0x4900000, 16⟩, 1)], rdWait := [5] }

theorem wit_DalnosFrames_read :
    (let f := df 9 0 9 0 (wordBytes [0x4900000])
     f.good = true ∧ f.ty = 9 ∧ bits ((bytesWords f.payload).getD 0 0) 29 0 = 0x4900000 ∧ bits ((bytesWords f.payload).getD 0 0) 35 32 % 9 = 0 ∧
     (sPay.jn 0).pool.find? (fun p => p.1.doff = 0x4900000) = some (⟨0x4900000, 16⟩, 1) ∧ (∀ p ∈ (sPay.jn 1).pool, p.1.doff ≠ 0x4900000)) ∧
    (let f := df 9 0 9 0 (List.replicate 16 3)
     f.good = true ∧ sPay.twin.rdTags = [] ++ (f.arg, (0 : UnitId).val, 5) :: [] ∧ 5 ∈ (sPay.jn 0).rdWait ∧ f.payload ≠ [] ∧
       f.payload.length = (sPay.entry 0 5).len ∧ sPay.linkUp = true ∧ sPay.twin.rxSeq = 0) ∧
    (∀ g ∈ sPay.twin.rdTags, g.1 ≠ (df 9 0 8 0 []).arg) := by
  decide +kernel

/-- Partition 0 in state st, its START due or not. -/
def sPart (st : Nat) (d : BitVec 8) : State :=
  { dev (partRegs ++ [(oPRT_STAT 0, BitVec.ofNat 64 st), (oTCK_NUM, 100)]) with mem := memOf [], startDue := d }

theorem wit_Partitions :
    (∀ st < 5, (sPart st 0).partState 0 = st ∧ Manager (sPart st 0) .pf0 ∧ (sPart st 0).startDue.getLsbD 0 = false) ∧
    (let s := sPart 1 1
     s.startDue.getLsbD 0 = true ∧ (match s.xlate 0 0x1FF000 false with | .ok pa d => decide (pa = base0 + 0x1FF000 ∧ d = d0) | _ => false) = true ∧
       Fresh s ∧ (0 : CpId) ∈ s.partCps 0 ∧ s.partOf 0 = some 0 ∧ (s.siteOf 0).isSome = true ∧ (5 : CpId) ∉ s.partCps 0) ∧
    ((sPart 2 0).clearing[(0 : Fin 8)] = [] ∧ (sPart 4 0).partState 0 = ptCLEARING) ∧
    (({ sPart 2 0 with clearing := (sPart 2 0).clearing.set 0 [57343] } : State).clearing[(0 : Fin 8)] = [57343] ∧ 57343 < 57344) := by
  simp only [Manager, Fresh]; decide +kernel

/-- Esfort in lifecycle lc; b are further bits of ESF_STAT; the stored keys are as f leaves them. -/
def sEsf (lc b : Nat) (f : Nv → Nv) : State :=
  let s := dev [(oESF_STAT, BitVec.ofNat 64 (lc + b))]
  { s with nv := f s.nv }

theorem wit_Esfort_mailboxes :
    (∀ lc < 4, (sEsf lc 0 id).fld oESF_STAT 3 0 = lc ∧ (sEsf lc 0 id).auxOn = true ∧ (sEsf lc 0 id).rstL = true ∧
      (sEsf lc 0 id).pwr.emergency = false ∧ (sEsf lc 0 id).fld oESF_STAT 7 6 ≠ 3) ∧
    (sEsf 2 0xC0 id).fld oESF_STAT 7 6 = 3 ∧ ({ sEsf 2 0 id with auxOn := false } : State).auxOn = false ∧
    (Machine.reaches (.vf 3) (.part 3) = true ∧ Machine.reaches (.vf 3) (.part 4) = false ∧ Machine.reaches (.vf 3) .dev = false ∧ Machine.reaches .pf0 .dev = true) ∧
    ((sEsf 2 0 fun v => { v with returnHalf := true }).nv.returnHalf = true ∧ (sEsf 2 0 id).nv.returnHalf = false) ∧
    ((sEsf 2 (5 * 2 ^ 32) id).fld oESF_STAT 47 32 = 5 ∧ (sEsf 2 0 id).fld oESF_STAT 47 32 = 0 ∧ (sEsf 2 (0xFFFF * 2 ^ 32) id).fld oESF_STAT 47 32 = 0xFFFF) ∧
    ((sEsf 2 0 id).debugOpen none = false ∧ (∀ n : PartId, (sEsf 2 0 id).flag oESF_STAT (12 + n.val) = false) ∧ (sEsf 2 0x800 id).debugOpen none = true ∧
      (sEsf 2 0 id).running = true ∧ ({ sEsf 2 0 id with rstL := false } : State).running = false) ∧
    ((0x1FFFFFFFFF : BitVec 40).toNat / 8 * 8 + 8 ≤ storageEnd ∧ storageEnd < (0x2000000000 : BitVec 40).toNat / 8 * 8 + 8 ∧
      (0x1BFFFFFFFF : BitVec 40).toNat / 8 * 8 < dataEnd ∧ (regFields (oTCK_PART 0)).isSome = true) ∧
    (Fresh (sEsf 2 0x800 id) ∧ bit ((0x8000000000000000 : Word) &&& BitVec.ofNat 64 (definedMask ((regFields (oTCK_PART 0)).getD []))) 63 = true) := by
  simp only [Fresh]; decide +kernel

/-- Keys of the device owner and of partition 0, with a password. -/
def keys0 (salt pw : List Byte) : ScopeKeys := ⟨some [1], some [2], salt, sha3_384 (salt ++ pw), some [3]⟩

def sPw : State := sEsf 2 0 fun v => { v with dev := keys0 [9] (List.replicate 16 4) }

theorem wit_Esfort_password :
    sPw.keysOf .dev = keys0 [9] (List.replicate 16 4) ∧
    (keys0 [9] (List.replicate 16 4)).digest = sha3_384 ((keys0 [9] (List.replicate 16 4)).salt ++ List.replicate 16 4) ∧
    (keys0 [9] (List.replicate 16 4)).digest ≠ [] ∧ bits sPw.esfStat 47 32 = 0 ∧ sPw.nv.dev.owner.isSome = true ∧
    sPw.nv.dev.seed.isSome = true := by
  refine ⟨by simp only [sPw, sEsf, State.keysOf], by simp only [keys0], ?_, by decide +kernel, rfl, rfl⟩
  intro e
  have h := Laws.sha3_384_length ([9] ++ List.replicate 16 4)
  simp only [keys0] at e
  rw [e] at h
  simp at h

/-! Witnesses: start-up, ageing, generations, the host interface, power. -/

/-- The levels of the lands: RST_L, VDD_AUX, PWROK; start-up in stage g. -/
def sBoot (r a p : Bool) (g : Nat) : State :=
  { dev [(oCFG_START, BitVec.ofNat 64 g)] with rstL := r, auxOn := a, pwrok := p }

theorem wit_StartUp_lands :
    (sBoot false true true 2).rstL = false ∧ (sBoot false true true 2).auxOn = true ∧ (sBoot false true true 2).pwrok = true ∧
    (sBoot true true true 2).rstL = true ∧ (sBoot false false true 2).auxOn = false ∧ (sBoot true true false 2).pwrok = false ∧
    ((sBoot false true true 2).nv.lifeNext = none) ∧ ({ (sBoot false true true 2).nv with lifeNext := some 3 } : Nv).lifeNext = some 3 ∧
    (∀ g ∈ [2, 4, 5], (sBoot true true true g).running = true ∧ (sBoot true true true g).fld oCFG_START 3 0 = g) ∧
    (sBoot true true true 2).cfg.hbmOk = false ∧ (sBoot true true true 2).flag oERR_CAP 1 = false ∧
    ({ (sBoot true true true 2).cfg with hbmOk := true } : CfgUnit).hbmOk = true ∧ (0xE : BitVec 4) ≠ 0xF ∧ (sBoot false true true 2).running = false := by
  decide +kernel

/-- Self-test finds core site 3 and nothing else bad. -/
def test0 : SelfTestResult := ⟨0xFFFF7, 0xFFF, 0x7FFF, 0xFF, 0xFF, 0xFF, false, [], [], []⟩
theorem wit_StartUp_selfTest :
    test0.arrayLost = false ∧ test0.siteOk.getLsbD (3 : SiteId) = false ∧ test0.siteOk.getLsbD (4 : SiteId) = true ∧
    ({ test0 with arrayLost := true } : SelfTestResult).arrayLost = true ∧ (sBoot true true true 2).nv.newImages = [] ∧
    (sBoot true true true 4).nv.hwm = none ∧ (sBoot true true true 4).nv.gens = [] := by
  decide +kernel

/-- READY, with the generation state c and stored generations g. -/
def sCfg (c : Nat) (g : List (List Byte)) : State :=
  let s := dev [(oCFG_STAT, BitVec.ofNat 64 c)]
  { s with nv := { s.nv with gens := g } }

theorem wit_Generations :
    (∀ c < 7, (sCfg c []).fld oCFG_STAT 2 0 = c ∧ Manager (sCfg c []) .pf0) ∧
    ((sBoot true true true 4).ready = false ∧ (sBoot true true true 4).running = true) ∧
    ((sCfg 3 []).cfg.prev ≠ gCHECKING ∧ genParse [] = none ∧
      (match (sCfg 3 []).checkGen [] with | .error r => r.result = resFORMAT | .ok _ => False)) ∧
    (sCfg 4 []).sparingNow = false ∧ (sCfg 5 []).fld oCFG_STAT 27 4 = 0 ∧ ((sCfg 5 []).setReg oCFG_STAT 0x15).fld oCFG_STAT 27 4 ≠ 0 ∧
    (sCfg 1 [[1]]).nv.gens.length ≤ 1 ∧ 1 < (sCfg 1 [[1], [2]]).nv.gens.length ∧
    ((sCfg 6 [[1], [2]]).nv.gens = [1] :: [[2]] ∧ [[2]] = [] ++ [([2] : List Byte)]) ∧
    (sCfg 0 []).captured.length ≤ 1024 ∧ ((sCfg 0 []).setReg oCFG_SRC (BitVec.ofNat 64 (2 ^ 52))).fld oCFG_SRC 63 52 * 1024 = 1024 ∧
    (sCfg 0 []).srcImage = [] ∧ (match (sCfg 0 []).checkSelaufen [] with | .error r => r = resFORMAT | .ok _ => False) := by
  simp only [Manager]
  refine ⟨by decide +kernel, by decide +kernel, ⟨by decide +kernel, rfl, rfl⟩, by decide +kernel, by decide +kernel, by decide +kernel,
    by decide, by decide, ⟨rfl, rfl⟩, ?_, by decide +kernel, by decide +kernel, rfl⟩
  simp only [State.captured, List.length_append, List.length_replicate, List.length_flatten, List.map_map, Laws.leBytes_length]
  decide +kernel

theorem wit_Ageing :
    ((dev []).running = true ∧ (dev []).ready = true ∧ (dev []).wayRetired (.l2 0) 3 = false ∧ (dev []).flag oNOC_LINK 3 = false ∧
      (dev [(oNOC_LINK, 8)]).flag oNOC_LINK 3 = true) ∧
    (∀ c ∈ [(oCIP_STAT, 2), (oCMZ_STAT, 2), (oCMZ_STAT, 10)], (dev []).flag c.1 c.2 = false) ∧
    ({ dev [] with nv := { (dev []).nv with repair := [⟨2, BitVec.ofNat 16 (cacheNo (.l2 0)), 3, 2, 2⟩] } } : State).wayRetired (.l2 0) 3 = true := by
  decide +kernel

/-- PF0's vector 3 is pending, unmasked, and the function may send. -/
def sMsix : State :=
  let s := dev [(oPCI_STAT, 1)]
  { s with pcie := { s.pcie with fns := s.pcie.fns.set 0 { FnState.reset with busMaster := true, msixEn := true, fnMask := false, unmasked := [3], pend := [3] } } }

theorem wit_HostInterface_bar2 :
    (let f := sMsix.pcie.fns[fnNo .pf0]
     sMsix.running = true ∧ sMsix.flag oPCI_STAT 0 = true ∧ f.busMaster = true ∧ f.msixEn = true ∧ f.fnMask = false ∧
       (3 : BitVec 11).toNat ∈ f.unmasked ∧ (3 : BitVec 11).toNat ∈ f.pend) ∧
    (dev []).pcie.fns[fnNo .pf0].pend = [] ∧
    (let s := dev [(oPCI_WIN, BitVec.ofNat 64 (111 * 2 ^ 30))]
     s.ready = true ∧ s.fld oPCI_WIN 51 30 * 2 ^ 30 = 111 * 2 ^ 30 ∧ (1073741823 : BitVec 30).toNat + 1 ≤ 2 ^ 30 ∧
       tagReserved (s.mem.word 0).tag = false ∧ (s.mem.word 0).poison = false) ∧
    (dev [(oPCI_WIN, BitVec.ofNat 64 (112 * 2 ^ 30))]).fld oPCI_WIN 51 30 * 2 ^ 30 = 112 * 2 ^ 30 ∧
    ((dev []).mem.putWord 0 ⟨0, 0x2F, 0, false⟩ |>.word 0 |>.tag |> tagReserved) = true ∧
    ((dev []).ringUsed < 512 ∧ (dev []).fld oERR_SPILLSTAT 20 0 = 0) := by
  decide +kernel

/-- The window of VF_0 stands at effective address a. -/
def sVf (a : Nat) : State :=
  let s := { dev partRegs with mem := memOf [] }
  { s with pcie := { s.pcie with vwin := s.pcie.vwin.set 0 (BitVec.ofNat 64 a) } }
def isErr {α β : Type} [DecidableEq α] (e : Except α β) (a : α) : Bool := match e with | .error x => decide (x = a) | .ok _ => false

theorem wit_HostInterface_windows :
    (∀ x ∈ [0, 1, 2, 4], ((sVf 0x400).setReg (oPRT_STAT 0) (BitVec.ofNat 64 x)).partState 0 = x) ∧
    ((2 : Nat) ^ 18 < (262143 : BitVec 18).toNat + 2 ∧ (262143 : BitVec 18).toNat + 1 ≤ 2 ^ 18) ∧
    ((sVf 0x400).windowWords 0 0x400 16 false).toBool = true ∧ ((sVf 0x400).windowWords 0 0x400 16 true).toBool = true ∧
    isErr ((sVf 0xE00000).windowWords 0 0xE00000 16 false) none = true ∧
    (isErr (({ sVf 0x400 with mem := { (sVf 0x400).mem with poison := [0x1FC0000000] } } : State).windowWords 0 0x400 16 false)
      (some 0x1FC0000000)) = true ∧
    ((0xFFFFFC0000000 : Word) &&& ~~~0xFFFFFC0000000#64 = 0) ∧ Manager (sVf 0) .pf0 ∧
    ((cpG []).partOf 0 = some 0 ∧ ((cpG []).cp 0).inService = true ∧ (cpG []).partOf 5 = none ∧ ((cpG []).cr 0).sys = true ∧ (cpG []).ready = true) := by
  simp only [Manager]; decide +kernel

theorem wit_HostInterface_config :
    ((dev []).advanceTo 29999999).now.toNat < 30000000 ∧ 30000000 ≤ ((dev []).advanceTo 30000000).now.toNat ∧
    (dev [(oPCI_STAT, 1)]).flag oPCI_STAT 0 = true ∧ (dev []).flag oPCI_STAT 0 = false ∧ (dev []).running = true ∧
    ({ dev [] with rstL := false } : State).running = false ∧
    ((16 : BitVec 5).toNat ∈ [1, 2, 4, 8, 16] ∧ (6 : BitVec 3) ≠ 7#3 ∧ ¬((3 : BitVec 5).toNat ∈ [1, 2, 4, 8, 16])) := by
  decide +kernel

theorem wit_PowerAndMailbox_mailbox :
    (Manager (cpG []) .pf0 ∧ (cpG []).flag oLKP_STAT 0 = false ∧ ((cpG []).setReg oLKP_STAT 1).flag oLKP_STAT 0 = true) ∧
    ((cpG []).fld (oLKP_ARG 0) 63 4 = 0 ∧ ((cpG []).setReg (oLKP_ARG 0) 0x10).fld (oLKP_ARG 0) 63 4 ≠ 0) ∧
    ((cpG []).siteOf (cpField 0) = some 0 ∧ ((cpG []).cp 0).inService = true ∧ (cpG []).pairOf 0 = none ∧ (cpG []).siteOf (cpField 5) = none) ∧
    (∀ d ∈ [Domain.site 3, .dalnos], (domainOf d).isSome = true) ∧
    ((dev [(oCS_BIND 3, 0)]).mayClose (.site 3) = true ∧ (dev [(oCS_BIND 3, 2)]).mayClose (.site 3) = false) := by
  simp only [Manager]; decide +kernel

/-- Compute die 0 with a hot sensor or none, its sites at ceiling c; the reservation-free sites stand at the floor since t0. -/
def sHot (hot : Nat) (c : Nat) (t0 : Option Word) (r : List (Nat × Word)) : State :=
  let s := dev (r ++ [(oPWR_TEMP 0, BitVec.ofNat 64 hot)] ++ (List.finRange 20).map fun x : SiteId => (oCS_CLK x, BitVec.ofNat 64 (c * 256)))
  { s with pwr := { s.pwr with since := s.pwr.since.set 0 t0 } }

theorem wit_PowerAndMailbox_power :
    (dev []).powered = true ∧ ({ dev [] with rstL := false } : State).powered = false ∧
    ((sHot (16 * 100) 184 none []).dieHot 0 = true ∧ (sHot (16 * 40) 184 none []).dieHot 0 = false) ∧
    ((sHot (16 * 100) 184 none []).fld (oCS_CLK 0) 15 8 = 184 ∧ (sHot (16 * 100) 48 none []).fld (oCS_CLK 0) 15 8 = 48) ∧
    ((sHot 0 48 (some 7) []).pwr.since[(0 : Fin 2)] = some 7 ∧ (sHot 0 48 none []).pwr.since[(0 : Fin 2)] = none) ∧
    ((sHot 0 184 none [(oCS_BIND 3, 1)]).bindSt 3 = bSPARE ∧ (sHot 0 184 none [(oCS_BIND 3, 1)]).lowFirst 3 = true) ∧
    ((∀ k < 46, (sHot 0 184 none []).cool k = true) ∧ (sHot (16 * 96) 184 none []).cool 0 = false ∧ (sHot 0 184 none []).pwr.throtLow = false) ∧
    ((1519 : BitVec 16).toInt < 16 * (95 : Int) ∧ 16 * (95 : Int) ≤ (1520 : BitVec 16).toInt) ∧
    ((dev [(oPWR_CTL, BitVec.ofNat 64 (100 * 2 ^ 16))]).fld oPWR_CTL 25 16 = 100 ∧ (100 : Nat) < (101 : BitVec 16).toNat ∧
      (dev [(oPWR_STAT, 8)]).flag oPWR_STAT 3 = true) := by
  decide +kernel

/-! Examples and tables of the specification: every expected value is the one that its text states. -/

/-- CP_0 with the binary64 or binary32 operands given in g1 and g2. -/
def sFp (single : Bool) (x y : Nat) : State :=
  let t := if single then 0 else 2
  cpG [(1, wd x t), (2, wd y t)]
/-- What the instruction leaves in g3, its tag, and NV, DZ, OF, UF and NX of PS. -/
def res3 (i : Instr) (s : State) : Nat × Nat × Nat :=
  let r := (after i s).cr 0
  ((r.gr 3).data.toNat, (r.gr 3).tag.toNat, (r.ps &&& 0x1F).toNat)

/-- R186: s + s, M + M, s × M. -/
theorem test_fadd_subnormal : res3 (.fadd 0 false ⟨nf, 3, 1, 2⟩) (sFp false 1 1) = (2, 2, 0) := by decide +kernel
theorem test_fadd_overflow :
    res3 (.fadd 0 false ⟨nf, 3, 1, 2⟩) (sFp false 0x7FEFFFFFFFFFFFFF 0x7FEFFFFFFFFFFFFF) = (0x7FF0000000000000, 2, 5) := by decide +kernel
theorem test_fmul_exact :
    res3 (.fmul 0 false ⟨nf, 3, 1, 2⟩) (sFp false 1 0x7FEFFFFFFFFFFFFF) = (0x3CCFFFFFFFFFFFFF, 2, 0) := by decide +kernel
/-- R169, R186: a number too large for FIX, and the least binary32 number as binary64. -/
theorem test_fcvtFixD : res3 (.fcvtFixD 0 ⟨nf, 3, 1, 0⟩) (sFp false 0x7FEFFFFFFFFFFFFF 0) = (0x7FFFFFFFFFFFFFFF, 1, 0x10) := by decide +kernel
theorem test_fcvtDS : res3 (.fcvtDS 0 ⟨nf, 3, 1, 0⟩) (sFp true 1 0) = (0x36A0000000000000, 2, 0) := by decide +kernel

/-- The division of chapter 06: minus 7 by 2. -/
theorem test_dprep : let r := (after (.dprep 0 ⟨nf, 4, 2, 3⟩) (cpG [(2, wd (2 ^ 64 - 7) 1), (3, wd 2 1)])).cr 0
    r.gr 4 = wd (2 ^ 63) 1 ∧ r.gr 2 = wd 7 0 := by decide +kernel
theorem test_dquot : let r := (after (.dquot 0 ⟨nf, 4, 2, 3⟩) (cpG [(2, wd 3 0), (3, wd 2 1), (4, wd (2 ^ 63 + 1) 1)])).cr 0
    r.gr 2 = wd (2 ^ 64 - 3) 1 := by decide +kernel

/-- The words of chapters 04, 05 and 08. -/
theorem test_word_ldw : insnWord (.ldw 0 false (.m ⟨⟨false, 2⟩, 5, 7, 3, 2⟩)) = 0x248A7302 := by decide
theorem test_decode_ldw : decodeRilel 0 0x248A7302 = some (.ldw 0 false (.m ⟨⟨false, 2⟩, 5, 7, 3, 2⟩)) := by decide
theorem test_decode_nop : decodeRilel 0 0x80400000 = some (.add 0 ⟨⟨true, 0⟩, 0, 0, 0⟩) := by decide
theorem test_decode_tdisp : decodeRilel 0 0x08C03208 = some (.tdisp 0 ⟨nf, 0, 3, 0x208⟩) := by decide
theorem test_decode_customer : decodeRilel 0 0x0F089005 = some (.customerInsn 0 5 ⟨nf, 4, 9, 0⟩) := by decide

/-- The decode slot and microword of CRCW (chapter 08); g9 holds the bytes "12345678". -/
def sCrc : State :=
  let s := (cpG [(4, wd 0xFFFFFFFF 0), (9, wd 0x3837363534333231 0)]).setReg (oCS_CDT 0 5) 0x8005300000003000
  s.modSite 0 fun x => { x with seq := { x.seq with store := [(0x3000, 0x2600000061880610009000000000000000000000)] } }
/-- The value is CRC-32C of those bytes before its final complement, computed by hand. -/
theorem test_customer_crcw : (after (.customerInsn 0 5 ⟨nf, 4, 9, 0⟩) sCrc).cr 0 |>.gr 4 |>.data |> (· = 0x9F787F65) := by decide +kernel
/-- 0x0F08_9085 names b where BUSE is 0: illegal, so g4 stands. -/
theorem test_customer_illegal : (after (.customerInsn 0 5 ⟨nf, 4, 9, 1⟩) sCrc).cr 0 |>.gr 4 |> (· = wd 0xFFFFFFFF 0) := by decide +kernel

/-- Chapter 09: the second miss evicts way 8 and the third way 6, ways 0 to 3 being locked. -/
theorem test_plru : let e := fun w => decide (4 ≤ w)
    plruVictim e 0 4 0 0 = 4 ∧ plruTouch 4 0 4 0 = 2 ^ 0 + 2 ^ 4 + 2 ^ 9 ∧ plruVictim e (plruTouch 4 0 4 0) 4 0 0 = 8 ∧
      plruVictim e (plruTouch 4 0 8 (plruTouch 4 0 4 0)) 4 0 0 = 6 := by decide

/-- Chapter 12: entry 41,010 of port A, and its words. -/
theorem test_journal_entry : entryAddr 0 41010 = 0x1F80601880 ∧
    ((JEntry.mk 0 2 12000050 4 0 0x10 1000002 7 8192 (0x04A00000 + 50 * 0x2000) 0 0 0 0 0 0).words.take 3) =
      [0x0002000000B71B32, 0x40100000000F4242, 0x0007200004A64000] := by decide

/-- Chapter 13: the header of its retransmission, with LEN 8,192, and its credit. -/
theorem test_frame_header : (mkFrame 1 2 12000050 7 0x82 false 1000002 []).h0 = 0x000000B71B320811 ∧
    (mkFrame 1 2 12000050 7 0x82 false 1000002 []).h1 + BitVec.ofNat 64 (8192 * 2 ^ 34) = 0x0007800082004242 ∧ blocks 8192 = 33 := by
  decide +kernel

/-- Chapter 15: the old route over link D0–IO 1 and the new one over D0–IO 4, from CE_A to MSC_0; neither without its link. -/
theorem test_routes :
    (dev [(oNOC_LINK, BitVec.ofNat 64 (2 ^ 22))]).routeWalk (niRouter 52) 16 (niRouter 56) 0xC false false = true ∧
    (dev [(oNOC_LINK, BitVec.ofNat 64 (2 ^ 25))]).routeWalk (niRouter 52) 16 (niRouter 56) 0x6484A false false = true ∧
    (dev [(oNOC_LINK, BitVec.ofNat 64 (2 ^ 22))]).routeWalk (niRouter 52) 16 (niRouter 56) 0x6484A false false = false := by
  decide +kernel

/-- Chapter 17: partition 2 with CP_4 and CP_5 in service. -/
def sP2 : State :=
  let s := dev [(oPRT_CTL 1, 0x800000000000000F), (oPRT_CTL 2, 0x8000000000000030), (oPRT_STAT 2, 0x300002),
    (oPRT_RDT 2, BitVec.ofNat 64 (8192 * 2 ^ 48)), (oPRT_L3MASK 1, 0x00FF), (oPRT_L3MASK 2, 0x0FF0), (oL3_CTL, 0xF0000001), (oCE_RESV 0 2, 1),
    (oCE_EPOWN 2 0, 0xFFFFFFFFFF2FFFFF), (oCS_BIND 12, 0x20502)]
  { s with cps := (s.cps.set 4 { Cp.reset with inService := true }).set 5 { Cp.reset with inService := true } }
theorem test_prt_stat : sP2.prtStat 2 = 0x0000000000300202 ∧ (sP2.setReg (oPRT_L3MASK 2) 0x0F00).prtStat 2 = 0x0000000000300102 := by
  decide +kernel
theorem test_root_caps : (sP2.rootCap 2).pair.2.data = 0x000B1F0400000000 ∧
    (Cap.pair ⟨4, 0x200000 - 4, pLOAD ||| pEXEC ||| pLDCAP ||| pSYS, 0, false⟩).2.data = 0x00010D00001FFFFC := by decide +kernel
/-- Chapter 22: what three locations of VF_2's view are, and one of another partition's core site. -/
theorem test_view : sP2.viewLoc 2 0x28208 = some 0x1C0208 ∧ sP2.viewLoc 2 0x29028 = some 0x1C8028 ∧ sP2.viewLoc 2 0x4A228 = some 0x3C1428 ∧
    sP2.viewLoc 2 0x10208 = none := by decide +kernel
/-- Chapter 03: the descriptor of region 8,337. -/
theorem test_rdt : (dev [(oPRT_RDT 2, BitVec.ofNat 64 (57344 * 2 ^ 48 + 0x1FC0200000 / 64))]).rdtAddr 2 8337 = 0x1FC0210488 := by
  decide +kernel
/-- Chapter 18: ESF_STAT as partition 3's session opens after three wrong passwords in FIELD. -/
theorem test_esf_stat :
    ((dev [(oESF_STAT, BitVec.ofNat 64 (4 * 2 ^ 32 + 3 * 2 ^ 28 + 0x42))]).setFlag oESF_STAT (sessionBit (.part 3)) true).esfStat =
      0x0000000430008042 := by
  decide +kernel
/-- Chapter 21: BAR2 offset 0x694_5678 in window 9 shows the data of the word at 0x2_4694_5678. -/
theorem test_bar2 :
    let s := (dev [(oPCI_WIN, BitVec.ofNat 64 (9 * 2 ^ 30))])
    (after (.bar2Read 0x6945678 8) { s with mem := s.mem.putWord 0x246945678 (wd 0x1234 0x11) }).resp = .bytes [0x34, 0x12, 0, 0, 0, 0, 0, 0] false := by
  decide +kernel

/-! Encodings that R89, R95 and the instructions' entries make illegal, one for each check. -/

theorem test_illegal :
    ([.mov 0 ⟨nf, 1, 2, 3⟩, .cmpEq 0 ⟨nf, 8, 1, 2⟩, .pand 0 ⟨nf, 1, 8, 2⟩, .pnot 0 ⟨nf, 1, 2, 1⟩, .pset 0 ⟨nf, 1, 1, 0⟩, .prdg 0 ⟨nf, 1, 1, 0⟩,
      .pwrg 0 ⟨nf, 1, 1, 0⟩, .drem 0 ⟨nf, 1, 1, 2⟩, .tdisp 0 ⟨nf, 1, 3, 0⟩, .shi 0 ⟨nf, 1, 2, 0x100⟩, .tagseti 0 ⟨nf, 1, 2, 0x40⟩,
      .cmov 0 ⟨nf, 15, 1, 0⟩, .cmov 0 ⟨nf, 16, 1, 0⟩, .cbnd 0 ⟨nf, 1, 2, 1⟩, .cperm 0 ⟨nf, 1, 16, 2⟩, .cseal 0 ⟨nf, 1, 2, 16⟩,
      .cgetb 0 ⟨nf, 1, 16, 0⟩, .ctest 0 ⟨nf, 8, 1, 0⟩, .bcopy 0 ⟨nf, 1, 2, 1⟩, .bfill 0 ⟨nf, 1, 1, 0⟩, .stc 0 ⟨nf, 16, 1, 0, 0⟩,
      .ldc 0 ⟨nf, 15, 1, 0, 0⟩, .mark 0 ⟨nf, 1, 2, 1⟩] : List Instr).all (fun i => !i.legal) = true := by decide
theorem test_illegal_sys :
    (Instr.ret 0 ⟨nf, 0, 1, 0⟩).legal = false ∧ (Instr.rdset 0 ⟨nf, 1, 2, 3⟩).legal = false ∧ (Instr.saveRs 0 ⟨nf, 16, 1, 0⟩).legal = false ∧
    (Instr.start 0 ⟨nf, 1, 16, 0⟩).legal = false ∧ (Instr.gate 0 ⟨nf, 0, 1, 13⟩).legal = false ∧ (Instr.gate 0 ⟨nf, 0, 1, 12⟩).legal = true ∧
    (Instr.retfEvent 0 ⟨nf, 0, 1, 0⟩).legal = false ∧ (Instr.retfGate 0 ⟨nf, 0, 0, 0⟩).legal = false ∧ (Instr.mfk 0 ⟨nf, 1, 3, 0⟩).legal = false ∧
    (Instr.mfk 0 ⟨nf, 1, 2, 16⟩).legal = true ∧ (Instr.customerInsn 0 64 ⟨nf, 1, 2, 3⟩).legal = false := by decide
/-- R426: an answer is no request, and a channel engine's packet carries no tag bytes. -/
theorem test_illegal_packets :
    ([.niResponse 3 56 ⟨.readResp, none, 2, false, 9⟩ ⟨1, 1⟩, .rerouteReturn 3 56 ⟨.reroute, none, 2, false, 9⟩ 0 0,
      .domainAbsentAnswer 3 56 ⟨.domainAbsent, none, 2, false, 9⟩ .engine 0,
      .probeMatch 0 0 ⟨pkt 64 3 .write none false, 0, 0, 0, false, 0, 0, 1⟩ 0] : List Instr).all (fun i => !i.legal) = true ∧
    (Instr.probeMatch 0 0 ⟨pkt 65 3 .write none false, 0, 0, 0, false, 0, 0, 1⟩ 0).legal = true := by decide

end Sys2Proof.Tests
end

section
/-!
SUPPORT. The Rilel instructions on registers alone: what each operand read, body and operation of INT, MUL, the immediate forms,
CMP and PRED answers, and that such an instruction completes with the one register it writes.
-/

namespace Sys2Proof.Machine

/-! Registers. -/

@[simp] theorem CpRegs.em_next (r : CpRegs) : r.next.em = r.em := rfl

@[simp] theorem CpRegs.em_setG (r : CpRegs) (i : BitVec 5) (w : TWord) : (r.setG i w).em = r.em := by
  unfold CpRegs.setG
  split <;> rfl

@[simp] theorem CpRegs.em_setP (r : CpRegs) (i : Nat) (b : Bool) : (r.setP i b).em = r.em := by
  unfold CpRegs.setP
  split <;> rfl

/-! Operands (R99). -/

theorem isNum_of_numOk {w : TWord} (h : numOk w) : isNum w.tag = true := by
  simpa [isNum] using h.1

theorem unpoisoned_ok {w : TWord} (h : w.poison = false) : unpoisoned w = .ok w := by
  simp [unpoisoned, h]

theorem anyOp_ok {r : CpRegs} {i : BitVec 5} (h : (r.gr i).poison = false) : anyOp r i = .ok (r.gr i) :=
  unpoisoned_ok h

theorem numOp_ok {r : CpRegs} {i : BitVec 5} (h : numOk (r.gr i)) (opnd : Nat) : numOp opnd r i = .ok (r.gr i) := by
  rw [numOp, tagOp, if_pos (isNum_of_numOk h), unpoisoned_ok h.2]

/-- R99 for two register operands. -/
theorem numTag_pair (a b : TWord) : numTag [a, b] = if a.tag = tagFIX ∧ b.tag = tagFIX then tagFIX else tagRAW := by
  simp [numTag]

/-- An immediate counts as FIX, so a single register operand gives its own tag (R99). -/
theorem numTag_single {a : TWord} (h : numOk a) : numTag [a] = a.tag := by
  rcases h.1 with ht | ht <;> simp [numTag, ht, tagRAW, tagFIX]

/-! Bodies. -/

theorem aluBody_ok {r : CpRegs} {f : RForm} (op : Word → Word → Word) (ha : numOk (r.gr f.a)) (hb : numOk (r.gr f.b)) :
    aluBody op f r = .ok (r.setG f.d (.mk0 (numTag [r.gr f.a, r.gr f.b]) (op (r.gr f.a).data (r.gr f.b).data))) := by
  simp only [aluBody, numOp_ok ha, numOp_ok hb, bind, Except.bind]

theorem immBody_ok {r : CpRegs} {f : IForm} (op : Word → Word) (ha : numOk (r.gr f.a)) :
    immBody op f r = .ok (r.setG f.d (.mk0 (r.gr f.a).tag (op (r.gr f.a).data))) := by
  simp only [immBody, numOp_ok ha, numTag_single ha, bind, Except.bind]

theorem cmpBody_ok {r : CpRegs} {f : RForm} (op : Word → Word → Bool) (ha : numOk (r.gr f.a)) (hb : numOk (r.gr f.b)) :
    cmpBody op f r = .ok (r.setP (f.d.toNat % 8) (op (r.gr f.a).data (r.gr f.b).data)) := by
  simp only [cmpBody, numOp_ok ha, numOp_ok hb, bind, Except.bind, CpRegs.putP]

theorem cmpiBody_ok {r : CpRegs} {f : IForm} (ha : numOk (r.gr f.a)) :
    cmpiBody f r = .ok (r.setP (f.d.toNat % 8) (cmpiOp f.d (r.gr f.a).data (sxImm f))) := by
  simp only [cmpiBody, numOp_ok ha, bind, Except.bind]

theorem eqwBody_ok {r : CpRegs} {f : RForm} (ha : (r.gr f.a).poison = false) (hb : (r.gr f.b).poison = false) :
    eqwBody f r = .ok (r.setP (f.d.toNat % 8) (eqw (r.gr f.a) (r.gr f.b))) := by
  simp only [eqwBody, anyOp_ok ha, anyOp_ok hb, bind, Except.bind, CpRegs.putP]

theorem tagchkBody_ok {r : CpRegs} {f : RForm} (ha : (r.gr f.a).poison = false) (hb : numOk (r.gr f.b)) :
    tagchkBody f r = .ok (r.setP (f.d.toNat % 8) ((r.gr f.a).tag == (r.gr f.b).data.setWidth 6)) := by
  simp only [tagchkBody, anyOp_ok ha, numOp_ok hb, bind, Except.bind, CpRegs.putP]

theorem pwrgBody_ok {r : CpRegs} {f : RForm} (ha : numOk (r.gr f.a)) :
    pwrgBody f r = .ok { r with p := ((r.gr f.a).data.setWidth 8 &&& 0xFE) ||| (r.p &&& 1) } := by
  simp only [pwrgBody, numOp_ok ha, bind, Except.bind]

/-! What the operations compute (R97, R98, R100, R158). -/

theorem add_eq_ofInt (a b : Word) : a + b = BitVec.ofInt 64 (a.toInt + b.toInt) := by
  rw [BitVec.ofInt_add, BitVec.ofInt_toInt, BitVec.ofInt_toInt]

theorem sub_eq_ofInt (a b : Word) : a - b = BitVec.ofInt 64 (a.toInt - b.toInt) :=
  BitVec.eq_of_toInt_eq (by rw [BitVec.toInt_sub, BitVec.toInt_ofInt])

theorem mul_eq_ofNat (a b : Word) : a * b = BitVec.ofNat 64 (a.toNat * b.toNat) :=
  BitVec.eq_of_toNat_eq (by rw [BitVec.toNat_mul, BitVec.toNat_ofNat])

theorem shiftLeft_eq_ofNat (a : Word) (n : Nat) : a <<< n = BitVec.ofNat 64 (a.toNat * 2 ^ n) :=
  BitVec.eq_of_toNat_eq (by rw [BitVec.toNat_shiftLeft, BitVec.toNat_ofNat, Nat.shiftLeft_eq])

theorem ushiftRight_eq_ofNat (a : Word) (n : Nat) : a >>> n = BitVec.ofNat 64 (a.toNat / 2 ^ n) := by
  rw [← Nat.shiftRight_eq_div_pow, ← BitVec.toNat_ushiftRight, BitVec.ofNat_toNat, BitVec.setWidth_eq]

theorem sshiftRight_eq_ofInt (a : Word) (n : Nat) : a.sshiftRight n = BitVec.ofInt 64 (a.toInt / 2 ^ n) := by
  rw [BitVec.sshiftRight, Int.shiftRight_eq_div_pow]
  norm_cast

theorem rotateLeft_eq_or (a : Word) {n : Nat} (h : n < 64) : a.rotateLeft n = (a <<< n) ||| (a >>> (64 - n)) := by
  rw [BitVec.rotateLeft_def, Nat.mod_eq_of_lt h]

/-- The strict and the weak order choose alike where the choices agree on equal operands. -/
theorem ite_lt_eq_ite_le {α β : Type} [LinearOrder α] {p q : α} {x y : β} (h : p = q → x = y) :
    (if p < q then x else y) = if p ≤ q then x else y := by
  rcases lt_trichotomy p q with hlt | heq | hgt
  · rw [if_pos hlt, if_pos hlt.le]
  · rw [h heq, ite_self, ite_self]
  · rw [if_neg hgt.not_gt, if_neg hgt.not_ge]

theorem ite_slt_eq {a b x y : Word} (h : a = b → x = y) :
    (if a.slt b then x else y) = if a.toInt ≤ b.toInt then x else y := by
  rw [← ite_lt_eq_ite_le fun e => h (BitVec.eq_of_toInt_eq e)]
  simp only [BitVec.slt, decide_eq_true_eq]

theorem ite_ult_eq {a b x y : Word} (h : a = b → x = y) :
    (if a.ult b then x else y) = if a.toNat ≤ b.toNat then x else y := by
  rw [← ite_lt_eq_ite_le fun e => h (BitVec.eq_of_toNat_eq e)]
  simp only [BitVec.ult, decide_eq_true_eq]

theorem add_sxImm_eq_ofInt (a : Word) (f : IForm) : a + sxImm f = BitVec.ofInt 64 (a.toInt + f.imm.toInt) := by
  rw [BitVec.ofInt_add, BitVec.ofInt_toInt]
  rfl

theorem and_imm_eq_ofNat (a : Word) (imm : BitVec 12) :
    a &&& imm.setWidth 64 = BitVec.ofNat 64 (a.toNat &&& imm.toNat) := by
  rw [BitVec.ofNat_and, BitVec.ofNat_toNat, BitVec.setWidth_eq, BitVec.ofNat_toNat]

theorem or_imm_eq_ofNat (a : Word) (imm : BitVec 12) :
    a ||| imm.setWidth 64 = BitVec.ofNat 64 (a.toNat ||| imm.toNat) := by
  rw [BitVec.ofNat_or, BitVec.ofNat_toNat, BitVec.setWidth_eq, BitVec.ofNat_toNat]

theorem xor_imm_eq_ofNat (a : Word) (imm : BitVec 12) :
    a ^^^ imm.setWidth 64 = BitVec.ofNat 64 (a.toNat ^^^ imm.toNat) := by
  rw [BitVec.ofNat_xor, BitVec.ofNat_toNat, BitVec.setWidth_eq, BitVec.ofNat_toNat]

/-- R97: imm bits 7:6 select the shift of SHI. -/
theorem shiOp_eq (imm : BitVec 12) (a : Word) :
    shiOp imm a = if imm.toNat / 64 % 4 = 0 then BitVec.ofNat 64 (a.toNat * 2 ^ (imm.toNat % 64))
      else if imm.toNat / 64 % 4 = 1 then BitVec.ofNat 64 (a.toNat / 2 ^ (imm.toNat % 64))
      else if imm.toNat / 64 % 4 = 2 then BitVec.ofInt 64 (a.toInt / 2 ^ (imm.toNat % 64))
      else (a <<< (imm.toNat % 64)) ||| (a >>> (64 - imm.toNat % 64)) := by
  have sel : (imm.extractLsb' 6 2).toNat = imm.toNat / 64 % 4 := by
    rw [BitVec.extractLsb'_toNat, Nat.shiftRight_eq_div_pow]
  rw [← shiftLeft_eq_ofNat, ← ushiftRight_eq_ofNat, ← sshiftRight_eq_ofInt,
    ← rotateLeft_eq_or a (Nat.mod_lt _ (by decide)), shiOp, sel]
  split
  · next h => rw [if_pos h]
  · next h => rw [if_neg (by omega), if_pos h]
  · next h => rw [if_neg (by omega), if_neg (by omega), if_pos h]
  · next h0 h1 h2 => rw [if_neg h0, if_neg h1, if_neg h2]

/-- R97: bits 4:3 of the d field select the condition of CMPI. -/
theorem cmpiOp_eq (f : IForm) (a : Word) :
    cmpiOp f.d a (sxImm f) = if f.d.toNat / 8 = 0 then decide (a.toInt = f.imm.toInt)
      else if f.d.toNat / 8 = 1 then decide (a.toInt ≠ f.imm.toInt)
      else if f.d.toNat / 8 = 2 then decide (a.toInt < f.imm.toInt)
      else decide (a.toNat < (BitVec.ofInt 64 f.imm.toInt).toNat) := by
  have sel : (f.d.extractLsb' 3 2).toNat = f.d.toNat / 8 := by
    rw [BitVec.extractLsb'_toNat, Nat.shiftRight_eq_div_pow]
    omega
  have sx : (sxImm f).toInt = f.imm.toInt := BitVec.toInt_signExtend_of_le (by decide)
  have eqv : a = sxImm f ↔ a.toInt = f.imm.toInt := by rw [← sx, BitVec.toInt_inj]
  rw [cmpiOp, sel]
  split
  · next h => rw [if_pos h, ← decide_eq_decide.2 eqv]; rfl
  · next h => rw [if_neg (by omega), if_pos h, ← decide_eq_decide.2 (not_congr eqv), decide_not]; rfl
  · next h => rw [if_neg (by omega), if_neg (by omega), if_pos h, BitVec.slt, sx]
  · next h0 h1 h2 => rw [if_neg h0, if_neg h1, if_neg h2]; rfl

/-- R99: EQW compares type tags and data bits. -/
theorem eqw_eq_decide (a b : TWord) : eqw a b = decide (a.tag = b.tag ∧ a.data = b.data) := by
  rw [eqw, Bool.decide_and, beq_eq_decide, beq_eq_decide]

theorem tag_beq_setWidth (t : BitVec 6) (w : Word) : (t == w.setWidth 6) = decide (t.toNat = w.toNat % 64) := by
  rw [beq_eq_decide, decide_eq_decide, ← BitVec.toNat_inj, BitVec.toNat_setWidth]

theorem predBits_lt (r : CpRegs) : (predBits r).toNat < 256 := by
  rw [predBits, BitVec.toNat_setWidth]
  exact (Nat.mod_le _ _).trans_lt (r.p ||| 1).isLt

/-- PRDG reads p7 to p0 as bits 7:0, p0 as true (R83, R98). -/
theorem predBits_getLsbD (r : CpRegs) (i : Fin 8) : (predBits r).getLsbD i = (r.p.getLsbD i || decide (i = 0)) := by
  have h : (1 : BitVec 8).getLsbD i = decide (i = 0) := by revert i; decide
  rw [predBits, BitVec.getLsbD_setWidth, BitVec.getLsbD_or, h, decide_eq_true (by omega), Bool.true_and]

/-- PWRG takes bits 7:1 and leaves p0 (R83, R98). -/
theorem pwrg_getLsbD (w : Word) (p : BitVec 8) (i : Fin 8) :
    ((w.setWidth 8 &&& 0xFE) ||| (p &&& 1)).getLsbD i = if i = 0 then p.getLsbD i else w.getLsbD i := by
  have h1 : (1 : BitVec 8).getLsbD i = decide (i = 0) := by revert i; decide
  have h2 : (0xFE : BitVec 8).getLsbD i = !decide (i = 0) := by revert i; decide
  rw [BitVec.getLsbD_or, BitVec.getLsbD_and, BitVec.getLsbD_and, BitVec.getLsbD_setWidth, h1, h2,
    decide_eq_true i.isLt, Bool.true_and]
  by_cases hi : i = 0 <;> simp [hi]

/-! Completion of an instruction whose body writes one register. -/

theorem setG_completes {s : State} {k : CpId} {i : Instr} {pr : Pred} {body : CpRegs → Except Stop CpRegs} {d : BitVec 5}
    {w : TWord} (hi : exec i s = regInsn s k i pr body) (hb : body (s.cr k).next = .ok ((s.cr k).next.setG d w))
    (h : Ready s k i pr) : ∃ t, exec i s = .next t ∧ Retired s t k ((s.cr k).next.setG d w) :=
  hi ▸ regInsn_done h hb (by simp)

theorem setP_completes {s : State} {k : CpId} {i : Instr} {pr : Pred} {body : CpRegs → Except Stop CpRegs} {n : Nat}
    {b : Bool} (hi : exec i s = regInsn s k i pr body) (hb : body (s.cr k).next = .ok ((s.cr k).next.setP n b))
    (h : Ready s k i pr) : ∃ t, exec i s = .next t ∧ Retired s t k ((s.cr k).next.setP n b) :=
  hi ▸ regInsn_done h hb (by simp)

/-- An instruction of INT or MUL that computes v. -/
theorem alu_completes {s : State} {k : CpId} {i : Instr} {f : RForm} {op : Word → Word → Word} {v : Word}
    (ha : numOk ((s.cr k).gr f.a)) (hb : numOk ((s.cr k).gr f.b)) (hi : exec i s = regInsn s k i f.pr (aluBody op f))
    (hv : op ((s.cr k).gr f.a).data ((s.cr k).gr f.b).data = v) (h : Ready s k i f.pr) :
    ∃ t col, exec i s = .next t ∧ Retired s t k ((s.cr k).next.setG f.d ⟨v,
      if ((s.cr k).gr f.a).tag = tagFIX ∧ ((s.cr k).gr f.b).tag = tagFIX then tagFIX else tagRAW, col, false⟩) := by
  obtain ⟨t, ht, hr⟩ := setG_completes hi (aluBody_ok op ha hb) h
  refine ⟨t, 0, ht, ?_⟩
  rw [← numTag_pair, ← hv]
  exact hr

/-- An immediate form that computes v. -/
theorem imm_completes {s : State} {k : CpId} {i : Instr} {f : IForm} {op : Word → Word} {v : Word}
    (ha : numOk ((s.cr k).gr f.a)) (hi : exec i s = regInsn s k i f.pr (immBody op f))
    (hv : op ((s.cr k).gr f.a).data = v) (h : Ready s k i f.pr) :
    ∃ t col, exec i s = .next t ∧ Retired s t k ((s.cr k).next.setG f.d ⟨v, ((s.cr k).gr f.a).tag, col, false⟩) := by
  obtain ⟨t, ht, hr⟩ := setG_completes hi (immBody_ok op ha) h
  exact ⟨t, 0, ht, hv ▸ hr⟩

/-- A comparison of two registers that gives v. -/
theorem cmp_completes {s : State} {k : CpId} {i : Instr} {f : RForm} {op : Word → Word → Bool} {v : Bool}
    (ha : numOk ((s.cr k).gr f.a)) (hb : numOk ((s.cr k).gr f.b)) (hi : exec i s = regInsn s k i f.pr (cmpBody op f))
    (hv : op ((s.cr k).gr f.a).data ((s.cr k).gr f.b).data = v) (h : Ready s k i f.pr) :
    ∃ t, exec i s = .next t ∧ Retired s t k ((s.cr k).next.setP (f.d.toNat % 8) v) :=
  setP_completes hi (hv ▸ cmpBody_ok op ha hb) h

end Sys2Proof.Machine
end

section
/-! SUPPORT. The statements on the register instructions, settled. -/

namespace Sys2Proof.Machine

/-- Settles O5: each instruction runs its ALU or immediate body on the operands, the body's operation computes the value the
statement names, and everything else is the frame of a register instruction (regInsn_done). -/
theorem integerResults : Obligations.IntegerResults := by
  unfold Obligations.IntegerResults
  constructor
  · intro s k f r a b n tag hta htb hpa hpb
    have ha : numOk a := ⟨hta, hpa⟩
    have hb : numOk b := ⟨htb, hpb⟩
    simp only [List.forall_mem_cons]
    exact ⟨alu_completes ha hb rfl (add_eq_ofInt _ _), alu_completes ha hb rfl (sub_eq_ofInt _ _),
      alu_completes ha hb rfl rfl, alu_completes ha hb rfl rfl, alu_completes ha hb rfl rfl, alu_completes ha hb rfl rfl,
      alu_completes ha hb rfl (shiftLeft_eq_ofNat _ _), alu_completes ha hb rfl (ushiftRight_eq_ofNat _ _),
      alu_completes ha hb rfl (sshiftRight_eq_ofInt _ _),
      alu_completes ha hb rfl (rotateLeft_eq_or _ (Nat.mod_lt _ (by decide))),
      alu_completes ha hb rfl (ite_slt_eq id), alu_completes ha hb rfl (ite_slt_eq Eq.symm),
      alu_completes ha hb rfl (ite_ult_eq id), alu_completes ha hb rfl (ite_ult_eq Eq.symm),
      alu_completes ha hb rfl (mul_eq_ofNat _ _), alu_completes ha hb rfl rfl, alu_completes ha hb rfl rfl,
      alu_completes ha hb rfl rfl, List.forall_mem_nil _⟩
  · intro s k f r a n hta hpa
    have ha : numOk a := ⟨hta, hpa⟩
    simp only [List.forall_mem_cons]
    exact ⟨imm_completes ha rfl (add_sxImm_eq_ofInt _ _), imm_completes ha rfl (and_imm_eq_ofNat _ _),
      imm_completes ha rfl (or_imm_eq_ofNat _ _), imm_completes ha rfl (xor_imm_eq_ofNat _ _),
      imm_completes ha rfl (shiOp_eq _ _), List.forall_mem_nil _⟩

/-- Settles O6: each instruction's body writes the predicate (or register, or predicates) that the statement names, and
everything else is the frame of a register instruction (regInsn_done). -/
theorem predicateWrites : Obligations.PredicateWrites := by
  unfold Obligations.PredicateWrites
  constructor
  · intro s k f g r a b w num hpa hpb hpw
    refine ⟨fun hta htb => ?_, ?_, fun htb => ?_, fun htw => ?_⟩
    · have ha : numOk a := ⟨hta, hpa⟩
      have hb : numOk b := ⟨htb, hpb⟩
      simp only [List.forall_mem_cons]
      exact ⟨cmp_completes ha hb rfl (beq_eq_decide _ _), cmp_completes ha hb rfl decide_not.symm,
        cmp_completes ha hb rfl rfl, cmp_completes ha hb rfl rfl, cmp_completes ha hb rfl rfl, cmp_completes ha hb rfl rfl,
        List.forall_mem_nil _⟩
    · exact setP_completes rfl (eqw_eq_decide a b ▸ eqwBody_ok hpa hpb)
    · exact setP_completes rfl (tag_beq_setWidth a.tag b.data ▸ tagchkBody_ok hpa ⟨htb, hpb⟩)
    · exact setP_completes rfl (cmpiOp_eq g w.data ▸ cmpiBody_ok ⟨htw, hpw⟩)
  · intro s k f r p
    refine ⟨?_, fun h => ?_, fun hta hpa h => ?_⟩
    · -- the statement reads predicates as CpRegs.pr does, so each body is the write it names
      simp only [List.forall_mem_cons]
      exact ⟨setP_completes rfl rfl, setP_completes rfl rfl, setP_completes rfl rfl, setP_completes rfl rfl,
        setP_completes rfl rfl, setP_completes rfl rfl, setP_completes rfl rfl, List.forall_mem_nil _⟩
    · obtain ⟨t, ht, hr⟩ := setG_completes (d := f.d) (w := .ofFix (predBits r.next)) rfl rfl h
      exact ⟨t, predBits r, 0, ht, hr, predBits_lt r, (predBits_getLsbD r 0).trans (Bool.or_true _),
        fun i hi => by rw [predBits_getLsbD, decide_eq_false hi, Bool.or_false]⟩
    · obtain ⟨t, ht, hr⟩ := regInsn_done h (pwrgBody_ok (r := r.next) ⟨hta, hpa⟩) rfl
      exact ⟨t, _, ht, hr, (pwrg_getLsbD _ _ 0).trans (if_pos rfl), fun i hi => (pwrg_getLsbD _ _ i).trans (if_neg hi)⟩

end Sys2Proof.Machine
end

section
/-!
SUPPORT. Control transfer: where c15 allows a branch target and what fault another one is, an instruction that acts on the state
in one step, and what each branch's body answers (R107, R108, R137).
-/

namespace Sys2Proof.Machine

/-! The target of a branch (R107). -/

/-- A word's address that lies whole within an unsealed capability with EXEC. -/
def TargetOk (c : Cap) (t : Word) : Prop :=
  t.toNat % 4 = 0 ∧ c.isSealed = false ∧ c.perms &&& pEXEC = pEXEC ∧
    c.base.toNat ≤ t.toNat ∧ t.toNat + 4 ≤ c.base.toNat + c.len.toNat

/-- Alignment goes before the capability. -/
def targetFault (t : Word) : SFault :=
  if t.toNat % 4 ≠ 0 then ⟨0x03, 0, 0, t, false, false⟩ else ⟨0x04, 3, 0, t, false, false⟩

theorem Cap.grants_iff (c : Cap) (p : BitVec 12) : c.grants p = true ↔ c.isSealed = false ∧ c.perms &&& p = p := by
  simp [Cap.grants]

theorem Cap.covers_iff (c : Cap) (a n : Nat) :
    c.covers a n = true ↔ c.base.toNat ≤ a ∧ a + n ≤ c.base.toNat + c.len.toNat :=
  decide_eq_true_iff

theorem targetOk_iff (c : Cap) (t : Word) :
    TargetOk c t ↔ t.toNat % 4 = 0 ∧ (c.grants pEXEC && c.covers t.toNat 4) = true := by
  rw [Bool.and_eq_true, Cap.grants_iff, Cap.covers_iff, and_assoc, TargetOk]

theorem targetCheck_of_ok {c : Cap} {t : Word} (h : TargetOk c t) : targetCheck c t = none := by
  obtain ⟨aligned, allowed⟩ := (targetOk_iff c t).1 h
  rw [targetCheck, if_neg (not_not.2 aligned), if_pos allowed]

theorem targetCheck_of_not_ok {c : Cap} {t : Word} (h : ¬TargetOk c t) :
    targetCheck c t = some (.fault (targetFault t)) := by
  rw [targetCheck, targetFault]
  split
  · rfl
  · next aligned => rw [if_neg fun allowed => h ((targetOk_iff c t).2 ⟨not_not.1 aligned, allowed⟩)]; rfl

theorem branchTo_of_ok {r : CpRegs} {t : Word} (h : TargetOk r.c[15] t) : branchTo r t = .ok { r with pc := t } := by
  rw [branchTo, targetCheck_of_ok h]

theorem branchTo_of_not_ok {r : CpRegs} {t : Word} (h : ¬TargetOk r.c[15] t) :
    branchTo r t = .error (.fault (targetFault t)) := by
  rw [branchTo, targetCheck_of_not_ok h]

/-- It is no machine check, which would have to wait for other faults (R79). -/
theorem targetFault_ne_poison (t : Word) : Stop.fault (targetFault t) ≠ poisonReg := by
  unfold targetFault
  split <;> simp [poisonReg, Stop.mk]

/-- It is no trap, so the instruction is to be resumed at its own address (R202). -/
theorem targetFault_cls_ne_trap (t : Word) : (targetFault t).cls ≠ 0x09 := by
  unfold targetFault
  split <;> simp

/-! The address that each form computes. -/

theorem add_brOffset_eq_ofInt (pc : Word) (f : BForm) : pc + brOffset f = BitVec.ofInt 64 (pc.toInt + f.disp.toInt * 4) := by
  have four : (4 : Word) = BitVec.ofInt 64 4 := rfl
  rw [BitVec.ofInt_add, BitVec.ofInt_toInt, BitVec.ofInt_mul, ← four]
  rfl

theorem add_slot_eq_ofNat (pc : Word) (slot : Nat) :
    pc + 4 + BitVec.ofNat 64 (4 * slot) = BitVec.ofNat 64 (pc.toNat + 4 + 4 * slot) := by
  rw [BitVec.ofNat_add, BitVec.ofNat_add, BitVec.ofNat_toNat, BitVec.setWidth_eq]
  rfl

/-- R137: bits 5:0 of the immediate are the first tag, bits 11:6 the number of slots. -/
theorem tdispSlot_imm (t : Nat) (imm : BitVec 12) :
    tdispSlot t (imm.extractLsb' 0 6).toNat (imm.extractLsb' 6 6).toNat = tdispSlot t (imm.toNat % 64) (imm.toNat / 64) := by
  have first : (imm.extractLsb' 0 6).toNat = imm.toNat % 64 := by
    rw [BitVec.extractLsb'_toNat, Nat.shiftRight_zero]
  have count : (imm.extractLsb' 6 6).toNat = imm.toNat / 64 := by
    rw [BitVec.extractLsb'_toNat, Nat.shiftRight_eq_div_pow]
    omega
  rw [first, count]

/-! Registers and operands. -/

@[simp] theorem CpRegs.gr_next (r : CpRegs) (i : BitVec 5) : r.next.gr i = r.gr i := rfl

theorem codeOp_ok {r : CpRegs} {i : BitVec 5} (ht : (r.gr i).tag = tagCODE) (hp : (r.gr i).poison = false) :
    codeOp r i = .ok (r.gr i) := by
  rw [codeOp, if_pos ht, unpoisoned_ok hp]

theorem State.modRegs_modRegs (s : State) (k : CpId) (f g : CpRegs → CpRegs) :
    (s.modRegs k f).modRegs k g = s.modRegs k fun r => g (f r) := by
  simp [State.modRegs, State.modCp, State.setCp, State.cp]

/-! An instruction that acts on the state in one step. -/

/-- Up to its body, every executed instruction that needs no checkpoint does the same. -/
theorem State.retire_plain_of_ready {s : State} {k : CpId} {i : Instr} {pr : Pred} (h : Ready s k i pr)
    (body : Word → State → State × Option Stop) :
    s.retire k .plain (insnWord i) i.legal pr body =
      ((s.fetched k).modCp k fun c => { c with syncGo := false }).afterBody k .plain (insnWord i) (s.cr k).pc (s.cr k).em
        (body (s.cr k).pc (s.atBody k)) := by
  unfold State.retire
  simp only [h.issuing, h.fetch, h.legal, h.holds, Bool.not_true, Bool.false_and, Bool.false_eq_true, if_false]
  rfl

/-- A body that writes registers only makes a register instruction. -/
theorem stateInsn_done {s : State} {k : CpId} {i : Instr} {pr : Pred} {f : Word → State → Except Stop State} {r : CpRegs}
    (h : Ready s k i pr) (hf : f (s.cr k).pc (s.atBody k) = .ok ((s.atBody k).modRegs k fun _ => r))
    (hem : r.em = (s.cr k).em) :
    ∃ t, s.retire k .plain (insnWord i) i.legal pr (stateBody f) = .next t ∧ Retired s t k r := by
  have same : stateBody f (s.cr k).pc (s.atBody k) = regBody k (fun _ => .ok r) (s.cr k).pc (s.atBody k) := by
    simp only [stateBody, poisonLast, hf, regBody]
  rw [State.retire_plain_of_ready h, same, ← State.retire_plain_of_ready h]
  exact regInsn_done h rfl hem

/-- A body that faults, neither by poison nor by a trap, leaves the fault to be taken at the instruction. -/
theorem stateInsn_faults {s : State} {k : CpId} {i : Instr} {pr : Pred} {f : Word → State → Except Stop State} {x : SFault}
    (h : Ready s k i pr) (hf : f (s.cr k).pc (s.atBody k) = .error (.fault x)) (hp : Stop.fault x ≠ poisonReg)
    (hc : x.cls ≠ 0x09) :
    s.retire k .plain (insnWord i) i.legal pr (stateBody f) =
      .next ((s.atBody k).takeFault k (insnWord i) (s.cr k).pc (s.cr k).pc x) := by
  have stops : stateBody f (s.cr k).pc (s.atBody k) = (s.atBody k, some (.fault x)) := by
    simp only [stateBody, poisonLast, hf, if_neg hp]
  rw [State.retire_plain_of_ready h, stops]
  simp only [State.afterBody, State.stopAt, if_neg hc, Bool.false_eq_true, if_false]

/-! Branches without a link. -/

theorem jumpBody_of_ok {s : State} {k : CpId} {t : Word} (h : TargetOk (s.cr k).c[15] t) :
    jumpBody k t s = .ok (s.modRegs k fun _ => { s.cr k with pc := t }) := by
  simp only [jumpBody, branchTo_of_ok h, bind, Except.bind]

theorem jumpBody_of_not_ok {s : State} {k : CpId} {t : Word} (h : ¬TargetOk (s.cr k).c[15] t) :
    jumpBody k t s = .error (.fault (targetFault t)) := by
  simp only [jumpBody, branchTo_of_not_ok h, bind, Except.bind]

theorem jrBody_of_code {s : State} {k : CpId} {f : RForm} {a : TWord} (ha : (s.cr k).gr f.a = a) (ht : a.tag = tagCODE)
    (hp : a.poison = false) : jrBody k f s = jumpBody k a.data s := by
  subst ha
  simp only [jrBody, codeOp_ok ht hp, bind, Except.bind]

/-- TDISP jumps to its slot in the table of branches behind it (R137). -/
theorem tdispBody_of_unpoisoned {s : State} {k : CpId} {f : IForm} {a : TWord} (ha : (s.cr k).gr f.a = a)
    (hp : a.poison = false) (pc : Word) :
    tdispBody k f pc s = jumpBody k (BitVec.ofNat 64 (pc.toNat + 4 +
      4 * tdispSlot a.tag.toNat (f.imm.toNat % 64) (f.imm.toNat / 64))) s := by
  subst ha
  simp only [tdispBody, anyOp_ok hp, bind, Except.bind, tdispSlot_imm, add_slot_eq_ofNat]

/-- R137: the d field of TDISP is reserved. -/
theorem tdisp_illegal_of_d {k : CpId} {f : IForm} (h : f.d ≠ 0) : Instr.legal (.tdisp k f) = false :=
  beq_eq_false_iff_ne.2 h

section
variable {s : State} {k : CpId} {i : Instr} {pr : Pred} {body : Word → State → Except Stop State} {t : Word}

/-- An instruction whose body is a branch to a target that c15 allows. -/
theorem jump_completes (hi : exec i s = s.retire k .plain (insnWord i) i.legal pr (stateBody body))
    (hb : body (s.cr k).pc (s.atBody k) = jumpBody k t (s.atBody k)) (ht : TargetOk (s.cr k).c[15] t)
    (h : Ready s k i pr) : ∃ u, exec i s = .next u ∧ Retired s u k { s.cr k with pc := t } := by
  have ht' : TargetOk ((s.atBody k).cr k).c[15] t := by rwa [State.atBody_cr]
  have done := hb.trans (jumpBody_of_ok ht')
  rw [State.atBody_cr] at done
  exact hi ▸ stateInsn_done h done rfl

theorem jump_faults (hi : exec i s = s.retire k .plain (insnWord i) i.legal pr (stateBody body))
    (hb : body (s.cr k).pc (s.atBody k) = jumpBody k t (s.atBody k)) (h : Ready s k i pr)
    (ht : ¬TargetOk (s.cr k).c[15] t) :
    exec i s = .next ((s.atBody k).takeFault k (insnWord i) (s.cr k).pc (s.cr k).pc (targetFault t)) := by
  have ht' : ¬TargetOk ((s.atBody k).cr k).c[15] t := by rwa [State.atBody_cr]
  rw [hi]
  exact stateInsn_faults h (hb.trans (jumpBody_of_not_ok ht')) (targetFault_ne_poison t) (targetFault_cls_ne_trap t)

end

/-! Calls and returns (R108). -/

/-- The registers after a call: the return address is the newest return-stack entry and stands in g31. -/
def CpRegs.linked (r : CpRegs) (ret t : Word) : CpRegs :=
  { r with rs := ret :: r.rs, pc := t }.setG 31 (.ofCode ret)

/-- A stack with room loses no entry to a push. -/
theorem CpRegs.pushRs_of_room {r : CpRegs} (h : r.rs.length < 32) (e : Word) : r.pushRs e = { r with rs := e :: r.rs } := by
  rw [CpRegs.pushRs, List.take_of_length_le (by rw [List.length_cons]; omega)]

theorem callBody_of_ok {s : State} {k : CpId} {t : Word} (hr : (s.cr k).rs.length < 32) (h : TargetOk (s.cr k).c[15] t)
    (pc : Word) : callBody k t pc s = .ok (s.modRegs k fun _ => (s.cr k).linked (pc + 4) t) := by
  have push := CpRegs.pushRs_of_room (r := { s.cr k with pc := t }) hr (pc + 4)
  simp only [callBody, hr.ne, false_and, if_false, branchTo_of_ok h, bind, Except.bind, push]
  rfl

theorem callBody_of_not_ok {s : State} {k : CpId} {t : Word} (hr : (s.cr k).rs.length < 32)
    (h : ¬TargetOk (s.cr k).c[15] t) (pc : Word) : callBody k t pc s = .error (.fault (targetFault t)) := by
  simp only [callBody, hr.ne, false_and, if_false, branchTo_of_not_ok h, bind, Except.bind]

theorem callrBody_of_code {s : State} {k : CpId} {f : RForm} {a : TWord} (ha : (s.cr k).gr f.a = a)
    (ht : a.tag = tagCODE) (hp : a.poison = false) (pc : Word) : callrBody k f pc s = callBody k a.data pc s := by
  subst ha
  simp only [callrBody, codeOp_ok ht hp, bind, Except.bind]

/-- R108: the newest entry confirms the CODE word in g31, and is dropped. -/
theorem retBody_of_confirmed {s : State} {k : CpId} {e : Word} {rest : List Word} (hrs : (s.cr k).rs = e :: rest)
    (ht : ((s.cr k).gr 31).tag = tagCODE) (hp : ((s.cr k).gr 31).poison = false) (hd : ((s.cr k).gr 31).data = e)
    (h : TargetOk (s.cr k).c[15] e) :
    retBody k s = .ok (s.modRegs k fun _ => { s.cr k with rs := rest, pc := e }) := by
  have jump := jumpBody_of_ok (s := s.modRegs k fun r => { r with rs := rest }) (k := k) (t := e)
    (by rwa [State.cr_modRegs_self])
  rw [State.cr_modRegs_self, State.modRegs_modRegs] at jump
  simp only [retBody, hrs, ht, hd, unpoisoned_ok hp, reduceCtorEq, false_and, ne_eq, not_true_eq_false, if_false, bind,
    Except.bind, jump]

section
variable {s : State} {k : CpId} {i : Instr} {pr : Pred} {body : Word → State → Except Stop State} {t : Word}

/-- An instruction whose body is a call to a target that c15 allows, with room on the return stack. -/
theorem call_completes (hi : exec i s = s.retire k .plain (insnWord i) i.legal pr (stateBody body))
    (hb : body (s.cr k).pc (s.atBody k) = callBody k t (s.cr k).pc (s.atBody k)) (ht : TargetOk (s.cr k).c[15] t)
    (hr : (s.cr k).rs.length < 32) (h : Ready s k i pr) :
    ∃ u, exec i s = .next u ∧ Retired s u k ((s.cr k).linked ((s.cr k).pc + 4) t) := by
  have ht' : TargetOk ((s.atBody k).cr k).c[15] t := by rwa [State.atBody_cr]
  have hr' : ((s.atBody k).cr k).rs.length < 32 := by rwa [State.atBody_cr]
  have done := hb.trans (callBody_of_ok hr' ht' (s.cr k).pc)
  rw [State.atBody_cr] at done
  exact hi ▸ stateInsn_done h done (CpRegs.em_setG _ _ _)

theorem call_faults (hi : exec i s = s.retire k .plain (insnWord i) i.legal pr (stateBody body))
    (hb : body (s.cr k).pc (s.atBody k) = callBody k t (s.cr k).pc (s.atBody k)) (hr : (s.cr k).rs.length < 32)
    (h : Ready s k i pr) (ht : ¬TargetOk (s.cr k).c[15] t) :
    exec i s = .next ((s.atBody k).takeFault k (insnWord i) (s.cr k).pc (s.cr k).pc (targetFault t)) := by
  have ht' : ¬TargetOk ((s.atBody k).cr k).c[15] t := by rwa [State.atBody_cr]
  have hr' : ((s.atBody k).cr k).rs.length < 32 := by rwa [State.atBody_cr]
  rw [hi]
  exact stateInsn_faults h (hb.trans (callBody_of_not_ok hr' ht' (s.cr k).pc)) (targetFault_ne_poison t)
    (targetFault_cls_ne_trap t)

theorem ret_completes {f : RForm} {e : Word} {rest : List Word} (hrs : (s.cr k).rs = e :: rest)
    (ht : ((s.cr k).gr 31).tag = tagCODE) (hp : ((s.cr k).gr 31).poison = false) (hd : ((s.cr k).gr 31).data = e)
    (hok : TargetOk (s.cr k).c[15] e) (h : Ready s k (.ret k f) f.pr) :
    ∃ u, exec (.ret k f) s = .next u ∧ Retired s u k { s.cr k with rs := rest, pc := e } := by
  have done : retBody k (s.atBody k) = .ok ((s.atBody k).modRegs k fun _ => { (s.atBody k).cr k with rs := rest, pc := e }) := by
    apply retBody_of_confirmed <;> rw [State.atBody_cr] <;> assumption
  rw [State.atBody_cr] at done
  exact stateInsn_done (f := fun _ u => retBody k u) h done rfl

end

end Sys2Proof.Machine
end

section
/-! SUPPORT. The statement on branches, settled. -/

namespace Sys2Proof.Machine

/-- Settles O21: the body of each instruction is a jump or a call to the address that the statement names; whether c15 allows
that target decides between the frame of an instruction that writes registers only and the fault at the instruction. -/
theorem branchResults : Obligations.BranchResults := by
  unfold Obligations.BranchResults
  intro s k f g h r ok rel a link faults
  have reads (i : BitVec 5) : ((s.atBody k).cr k).gr i = r.gr i := by rw [State.atBody_cr, CpRegs.gr_next]
  have br : jumpBody k (r.pc + brOffset f) (s.atBody k) = jumpBody k rel (s.atBody k) := by rw [add_brOffset_eq_ofInt]
  have call : callBody k (r.pc + brOffset f) r.pc (s.atBody k) = callBody k rel r.pc (s.atBody k) := by
    rw [add_brOffset_eq_ofInt]
  have jr (ht : a.tag = tagCODE) (hp : a.poison = false) : jrBody k g (s.atBody k) = jumpBody k a.data (s.atBody k) :=
    jrBody_of_code (reads g.a) ht hp
  have callr (ht : a.tag = tagCODE) (hp : a.poison = false) :
      callrBody k g r.pc (s.atBody k) = callBody k a.data r.pc (s.atBody k) :=
    callrBody_of_code (reads g.a) ht hp r.pc
  refine ⟨jump_completes rfl br, jump_faults rfl br, call_faults rfl call, ?codeFaults, call_completes rfl call, ?codeDone,
    fun _ _ => ret_completes, ?tdisp⟩
  case codeFaults => exact fun ht hp => ⟨jump_faults rfl (jr ht hp), call_faults rfl (callr ht hp)⟩
  case codeDone =>
    exact fun ht hp hok => ⟨jump_completes rfl (jr ht hp) hok, call_completes rfl (callr ht hp) hok⟩
  case tdisp =>
    intro w b n slot target
    have tdisp (hp : w.poison = false) : tdispBody k h r.pc (s.atBody k) = jumpBody k target (s.atBody k) :=
      tdispBody_of_unpoisoned (reads h.a) hp r.pc
    exact ⟨tdisp_illegal_of_d, fun hp => jump_faults rfl (tdisp hp), fun hp => jump_completes rfl (tdisp hp)⟩

end Sys2Proof.Machine
end
